-- ==== Sys2Proof/Word.lean ====
section
/-! DEFINITION. Word.lean: the word types of the module and the type of a sparse memory. -/
namespace Sys2Proof

/-- One byte (00, Notation: multi-byte fields are little-endian). -/
abbrev Byte := BitVec 8

/-- One 32-bit word: a register of the set-up map (22 R542), a scalar register, a table word. -/
abbrev Word := BitVec 32

/-- One 64-bit word: a program-store entry (05 R127), a CRC-64 (08 R221). -/
abbrev Quad := BitVec 64

/-- A sparse memory of `w`-bit cells by address: addresses strictly rising, no entry equal to what an
unlisted address reads as (`Machine.swf` says so). -/
abbrev Cells (w : Nat) := List (Nat × BitVec w)

end Sys2Proof
end

