-- ==== Sys2Proof/Syntax.lean ====
section
/-! DEFINITION. Syntax.lean: the commands of IKX-5120, one constructor for each row of spec/opcode_table.json, with the
operands the spec gives each row, and the packets, messages and descriptors that commands carry. -/
namespace Sys2Proof

/-- The status codes of 00 R5 that the module produces. -/
inductive Status where
  | ok | partialMembers | nanTrap | residue | uncorrectable | abortTimeout | abortMemberLost | abortGallery
  | linkLost | noSlot | badFormat | badPointer
  deriving DecidableEq, Repr

/-- The 32-byte packet header of 10 R282 with the payload and the trailer that follow it. -/
structure Packet where
  type : BitVec 5
  vc : BitVec 3
  ordered : Bool := false
  last : Bool := false
  poison : Bool := false
  escape : Bool := false
  epoch : Bool := false
  gallery : BitVec 6 := 0
  length : BitVec 13 := 0
  dest : BitVec 16 := 0
  src : BitVec 16 := 0
  flow : BitVec 20 := 0
  group : BitVec 12 := 0
  opSeq : BitVec 16 := 0
  tile : BitVec 16 := 0
  segment : BitVec 8 := 0
  format : BitVec 5 := 0
  rank : BitVec 10 := 0
  hops : BitVec 5 := 0
  payload : List Byte := []
  trailer : List Byte := []
  deriving DecidableEq, Repr

/-- A table-update descriptor of 15 R409 without its OPC, which the command names; `rsvd` holds the reserved bits of
words 0 and 7 as they stand. -/
structure TuDesc where
  gallery : BitVec 6 := 0
  tag : BitVec 16 := 0
  flags : BitVec 16 := 0
  arg0 : BitVec 16 := 0
  arg1 : Word := 0
  count : Word := 0
  src : Quad := 0
  len : Word := 0
  rsvd : Word := 0
  inline : List Word := []
  deriving DecidableEq, Repr

/-- The IDENT message of 10 R278. -/
structure Ident where
  peerSeen : Bool := false
  authReq : Bool := false
  kind : BitVec 2 := 0
  revMax : BitVec 8 := 0
  revMin : BitVec 8 := 0
  arithRev : BitVec 8 := 0
  port : BitVec 9 := 0
  width : BitVec 4 := 0
  straps : BitVec 18 := 0
  feid : BitVec 16 := 0
  uid : BitVec 128 := 0
  credit : List (BitVec 16) := []
  deriving DecidableEq, Repr

/-- The payload of a LINK flit, 10 R266. -/
structure LinkMsg where
  nak : Bool := false
  nakSeq : BitVec 12 := 0
  req : BitVec 3 := 0
  creditRet : List (BitVec 16) := []
  deriving DecidableEq, Repr

/-- What a training frame carries, 11 R303 and R304: the control field and the status field. -/
structure TrainFrame where
  control : Word := 0
  status : Word := 0
  deriving DecidableEq, Repr

/-- A memory or residue error that a command meets in hardware (17 R451, R454; 04 R118): the store it is met in, the
failing position and address for the log, and, for a correctable one, whether the re-read still finds it. `badPtr` is a pointer
inside the module that fails the check of 07 R187, of the pool with this bit in BPM_FAULT. -/
inductive HwErr where
  | none
  | ce (store : BitVec 5) (pos : Byte) (addr : Quad) (hard : Bool)
  | ue (store : BitVec 5) (pos : Byte) (addr : Quad)
  | residue
  | badPtr (pool : BitVec 3)
  deriving DecidableEq, Repr

/-- What a spare's copy could not read (05 R147): scratch lines of 64 bytes and program-store lines of eight instructions. -/
structure SpareBad where
  lines : List (BitVec 17) := []
  prog : List (BitVec 12) := []
  deriving DecidableEq, Repr

/-- The fields of an engine instruction word (05 R129) but OPC and, except where the command takes it, MODE, which the
command names. -/
structure EngOp where
  e : Bool := false
  fmt : BitVec 5 := 0
  d : BitVec 5 := 0
  a : BitVec 5 := 0
  b : BitVec 5 := 0
  c : BitVec 5 := 0
  cnt : BitVec 4 := 0
  imm : BitVec 24 := 0
  deriving DecidableEq, Repr


/-- Where a fabric-memory command comes from (07 R195): an FMREQ packet, or a descriptor that a gallery's command ring
holds at a free-running index, with the bytes its CADDR holds for a WRITE. -/
inductive FmSrc where
  | endpoint (pkt : Packet)
  | ring (set : BitVec 6) (index : Word) (block : List Word) (data : List Byte)
  deriving DecidableEq, Repr

/-- A queue of 12 R329: that of a port and VC, or an internal queue of a hub die. -/
inductive QSel where
  | port (p : BitVec 9) (vc : BitVec 3)
  | engine (die : BitVec 1)
  | fmem (die : BitVec 1)
  | mgmt (die : BitVec 1)
  deriving DecidableEq, Repr

/-- A write to Sump (12 R339): its queue, and what the hardware meets when it takes the pages. -/
structure SumpWr where
  q : QSel
  err : HwErr := .none
  deriving DecidableEq, Repr

/-- A shaper register of 14 R384 that a write may name. -/
inductive ShpReg where
  | cfg | rate | cbs | pbs
  deriving DecidableEq, Repr

/-- The header of a companion request on Jionuk (15 R389): TAG, WIN, the address in that window, whether the header is
malformed (a channel or DATA flag that does not fit its opcode), and POISON. -/
structure JnkHdr where
  tag : BitVec 12 := 0
  win : BitVec 1 := 0
  addr : Quad := 0
  bad : Bool := false
  poison : Bool := false
  deriving DecidableEq, Repr


/-- What Lantern firmware reports of a bring-up stage from the hardware (19 R487): result, cause, DETAIL words and FAIL_MAP. -/
structure StageRep where
  result : BitVec 3 := 0
  cause : Byte := 0
  detail : List Word := []
  failMap : BitVec 88 := 0
  deriving DecidableEq, Repr

/-- How a phase of a firmware push ends (20 R518): done, a Jionuk error or timeout, or a flash failure after `sectors`. -/
inductive PushEnd where
  | done
  | fetch
  | flash (sectors : BitVec 16)
  deriving DecidableEq, Repr

/-- A bring-up stage's findings that other state follows from (19 R490, R493, 20 R507): core positions that fail (5 × cluster
+ position), and clusters whose crossbar or tree fails. -/
structure StageFail where
  positions : List (BitVec 6) := []
  clusters : List (BitVec 3) := []
  deriving DecidableEq, Repr

/-- An instruction of the test access port (23 R566): the mandatory ones, IDCODE, or an Ihlaerok test instruction. -/
inductive TapInstr where
  | bypass | sample | preload | extest | idcode
  | test (code : Word)
  deriving DecidableEq, Repr

/-- The commands of the module: one constructor for each row of spec/opcode_table.json, in the table's order. -/
inductive Instr where
  /-- GRP_CREATE (R69): Table-update command that checks a group entry and its members, reserves slots and parking on every charged hub die, and makes the group ACTIVE or refuses it. -/
  | grpCreate (d : TuDesc) (data : List Word)
  /-- GRP_ADD (R64): Table-update command that fills a rank gap with a PRESENT member and recomputes the reservation, or refuses and changes nothing. -/
  | grpAdd (d : TuDesc)
  /-- GRP_REMOVE (R84): Table-update command that removes a PRESENT member and re-forms the group, aborting its outstanding operations. -/
  | grpRemove (d : TuDesc)
  /-- GRP_DESTROY (R71): Table-update command that frees a group and its reservation, or is refused with BUSY while operations are outstanding. -/
  | grpDestroy (d : TuDesc)
  /-- CONTRIB (R115): A CONTRIB packet reaches the collective engine; it is checked, counted, opens its segment if needed and is taken up or parked. -/
  | contrib (port : BitVec 9) (pkt : Packet) (err : HwErr)
  /-- PARTIAL (R110): A spine receives a leaf's PARTIAL packet, checks its port and status, and counts it as a block or leaf partial. -/
  | partialIn (port : BitVec 9) (pkt : Packet)
  /-- RESULT_FROM_SPINE (R113): A leaf receives a RESULT packet from its spine and forwards payload and trailer unchanged to its PRESENT members. -/
  | resultFromSpine (port : BitVec 9) (pkt : Packet)
  /-- CONTRIB_TAKE_UP (R119): A reduction core takes up a parked or arriving contribution of its open tile and combines it in canonical or arrival order. -/
  | contribTakeUp (group : BitVec 12) (opSeq : BitVec 16) (tile : BitVec 16) (err : HwErr)
  /-- TILE_CLOSE (R105): A tile closes after its last block partial enters its slot, its parking is freed and the next tile of the segment opens. -/
  | tileClose (group : BitVec 12) (opSeq : BitVec 16) (tile : BitVec 16) (err : HwErr)
  /-- STRAGGLER_EXPIRY (R80): A segment's straggler timer expires and the group's policy WAIT, ABORT or EXCLUDE is applied. -/
  | stragglerExpiry (group : BitVec 12) (opSeq : BitVec 16) (segment : BitVec 8)
  /-- REFORM_DONE (R84): A re-forming group raises GROUP_REFORMED, returns to ACTIVE and takes up contributions that waited in packet cells. -/
  | reformDone (group : BitVec 12)
  /-- PEER_TAKE_UP (R104): A PEER contribution that found the window full is taken up once a segment of the group completes. -/
  | peerTakeUp (group : BitVec 12)
  /-- SPARE_COPY_DONE (R147): The spare's scratch and program-store copy completes; maps update, ENG_SPARE is raised and held starts run on the spare. -/
  | spareCopyDone (core : BitVec 5) (ok : Bool) (bad : SpareBad)
  /-- ENG_SPARE_REQ (R149): Register GO requesting a spare for an idle logical core; ignored and counted when no spare or the core is absent. -/
  | engSpareReq (value : Word)
  /-- SPARE_REQ_ENGAGE (R149): After the running program of a requested core ends, the module connects and copies the spare without a fault. -/
  | spareReqEngage (core : BitVec 5)
  /-- QUEUED_START (R128): A queued program start begins on a free logical core with its entry point, gallery and windows. -/
  | queuedStart (core : BitVec 5) (err : HwErr)
  /-- END (R143): Instruction that ends the program and reports its most severe status. -/
  | endProgram (core : BitVec 5) (i : EngOp) (err : HwErr)
  /-- WAIT_OP (R130): WAIT mode 0: waits until a named group operation ends, then writes its status. -/
  | waitOp (core : BitVec 5) (i : EngOp) (err : HwErr)
  /-- WAIT_DMA (R130): WAIT mode 1: waits for the HBM transfer with a given tag. -/
  | waitDma (core : BitVec 5) (i : EngOp) (err : HwErr)
  /-- WAIT_TIME (R247): WAIT mode 2: waits until the low 32 bits of fabric time reach a target. -/
  | waitTime (core : BitVec 5) (i : EngOp) (err : HwErr)
  /-- WAIT_RELEASE (R130): A waiting WAIT releases when its operation, transfer or fabric time condition holds. -/
  | waitRelease (core : BitVec 5)
  /-- BAR_CORE (R130): BAR mode 0: waits until both engines of the core have finished all issued work. -/
  | barCore (core : BitVec 5) (i : EngOp) (err : HwErr)
  /-- BAR_DIE (R130): BAR mode 1: joins a barrier with the named cores of the hub die. -/
  | barDie (core : BitVec 5) (i : EngOp) (err : HwErr)
  /-- BAR_RELEASE (R142): A barrier releases when every named core has arrived or stopped. -/
  | barRelease (die : BitVec 1) (index : BitVec 4)
  /-- LOOP (R130): Decrements a scalar register and branches while it is not zero. -/
  | loopDec (core : BitVec 5) (i : EngOp) (err : HwErr)
  /-- JMP (R130): Branches always or on a scalar register's zero condition. -/
  | jmp (core : BitVec 5) (mode : BitVec 4) (i : EngOp) (err : HwErr)
  /-- TLD_SCRATCH (R130): TLD mode 0: loads vector registers from scratch. -/
  | tldScratch (core : BitVec 5) (i : EngOp) (err : HwErr)
  /-- TLD_CROSSBAR (R130): TLD mode 1: loads vector registers from another core of the cluster. -/
  | tldCrossbar (core : BitVec 5) (i : EngOp) (err : HwErr)
  /-- TLD_SLOT (R130): TLD mode 2: loads vector registers from an operation's accumulator slots, optionally releasing them. -/
  | tldSlot (core : BitVec 5) (i : EngOp) (err : HwErr)
  /-- TLD_SCRATCH_X (R130): TLD mode 3: loads scalar registers from scratch. -/
  | tldScratchX (core : BitVec 5) (i : EngOp) (err : HwErr)
  /-- TLD_SLOT_X (R130): TLD mode 4: loads scalar registers from an operation's slot. -/
  | tldSlotX (core : BitVec 5) (i : EngOp) (err : HwErr)
  /-- TLD_HBM (R130): TLD mode 5: starts an asynchronous tagged copy from HBM to scratch. -/
  | tldHbm (core : BitVec 5) (i : EngOp) (err : HwErr)
  /-- TST_SCRATCH (R130): TST mode 0: stores vector registers to scratch. -/
  | tstScratch (core : BitVec 5) (i : EngOp) (err : HwErr)
  /-- TST_X (R130): TST mode 1: stores scalar registers to scratch. -/
  | tstX (core : BitVec 5) (i : EngOp) (err : HwErr)
  /-- TST_HBM (R130): TST mode 2: starts an asynchronous tagged copy from scratch to HBM. -/
  | tstHbm (core : BitVec 5) (i : EngOp) (err : HwErr)
  /-- TST_CROSSBAR (R130): TST mode 3: stores vector registers to another core of the cluster. -/
  | tstCrossbar (core : BitVec 5) (i : EngOp) (err : HwErr)
  /-- DMA_DONE (R141): An asynchronous HBM transfer completes, or ends with DMA_UE reported at its WAIT. -/
  | dmaDone (core : BitVec 5) (tag : BitVec 8) (err : HwErr)
  /-- MMA (R123): Multiplies a weight image by activations on one engine's array in the fixed K-block order. -/
  | mma (core : BitVec 5) (i : EngOp) (err : HwErr)
  /-- VAD (R130): Elementwise FP32 add of register groups. -/
  | vad (core : BitVec 5) (mode : BitVec 4) (i : EngOp) (err : HwErr)
  /-- VMU (R130): Elementwise FP32 multiply of register groups. -/
  | vmu (core : BitVec 5) (mode : BitVec 4) (i : EngOp) (err : HwErr)
  /-- VFM (R130): Elementwise fused multiply-add rounded once. -/
  | vfm (core : BitVec 5) (mode : BitVec 4) (i : EngOp) (err : HwErr)
  /-- VRS (R135): Elementwise reciprocal square root by the reference function. -/
  | vrs (core : BitVec 5) (i : EngOp) (err : HwErr)
  /-- VEX (R134): Elementwise exponential by the reference function. -/
  | vex (core : BitVec 5) (i : EngOp) (err : HwErr)
  /-- VMX (R130): Elementwise maximum or minimum under the MAX and MIN rules. -/
  | vmx (core : BitVec 5) (mode : BitVec 4) (i : EngOp) (err : HwErr)
  /-- VSM (R133): Sums the valid elements of a register group into a scalar register by the fixed tree. -/
  | vsm (core : BitVec 5) (i : EngOp) (err : HwErr)
  /-- NRM_SS (R136): NRM mode 0: writes the partial sum of squares of a register group. -/
  | nrmSs (core : BitVec 5) (i : EngOp) (err : HwErr)
  /-- NRM_APPLY (R136): NRM mode 1: normalises a register group with the total sum of squares, 1/H, epsilon and gains. -/
  | nrmApply (core : BitVec 5) (i : EngOp) (err : HwErr)
  /-- TOPK (R137): Selects k experts from E logits and forms their gate weights. -/
  | topk (core : BitVec 5) (i : EngOp) (err : HwErr)
  /-- QNT (R138): Encodes FP32 tiles to a format, with ABF4 flaring, into scratch. -/
  | qnt (core : BitVec 5) (i : EngOp) (err : HwErr)
  /-- DQT_DECODE (R130): DQT mode 0: decodes tiles from scratch to FP32 or INT32 registers. -/
  | dqtDecode (core : BitVec 5) (i : EngOp) (err : HwErr)
  /-- DQT_INT (R130): DQT mode 1: converts INT32 registers to FP32. -/
  | dqtInt (core : BitVec 5) (i : EngOp) (err : HwErr)
  /-- SND (R139): SND mode 0: sends tiles from scratch with a header template. -/
  | snd (core : BitVec 5) (i : EngOp) (err : HwErr)
  /-- SND_LAST (R139): SND mode 1: sends tiles and sets LAST on the final tile. -/
  | sndLast (core : BitVec 5) (i : EngOp) (err : HwErr)
  /-- SND_SHORT (R166): SND mode 2: sends a short FP32 vector with LAST, used to start a PEER operation. -/
  | sndShort (core : BitVec 5) (i : EngOp) (err : HwErr)
  /-- CMB (R140): Combines the shared and gate-weighted expert outputs and adds them to the residual. -/
  | cmb (core : BitVec 5) (i : EngOp) (err : HwErr)
  /-- DGS (R130): Computes the CRC-64 of a scratch range into two scalar registers. -/
  | dgs (core : BitVec 5) (i : EngOp) (err : HwErr)
  /-- LAY_LOAD (R153): Table-update command that writes a layer table entry after checking its groups and fields. -/
  | layLoad (d : TuDesc) (data : List Word)
  /-- LAY_EXPMAP (R151): Table-update command that writes a run of expert map entries. -/
  | layExpmap (d : TuDesc) (data : List Word)
  /-- LAY_SESSION_OPEN (R156): Table-update command that opens a session, zeroes its residual and sets RSEQ and CUR_LAYER. -/
  | laySessionOpen (d : TuDesc)
  /-- LAY_SESSION_CLOSE (R177): Table-update command that frees an idle session, refused with BUSY while a program runs or is queued. -/
  | laySessionClose (d : TuDesc)
  /-- LAY_SESSION_CLOSE_FORCE (R174): LAY_SESSION_CLOSE with FORCE fails the session's layer with ABORT_GALLERY and frees the session. -/
  | laySessionCloseForce (d : TuDesc)
  /-- PREFETCH_DONE (R165): A router prefetch completes or reports BAD_POINTER or DMA_UE at its WAIT. -/
  | prefetchDone (core : BitVec 5) (err : HwErr)
  /-- ALLOC (R197): Fabric-memory command that pops and charges up to 8 pages, choosing stacks by free count. -/
  | alloc (src : FmSrc) (err : HwErr)
  /-- ALLOC_ZERO (R192): ALLOC with ZERO, which writes zeros to each page before returning it. -/
  | allocZero (src : FmSrc) (err : HwErr)
  /-- INCREF (R192): Fabric-memory command that adds one reference to each listed page. -/
  | incref (src : FmSrc) (err : HwErr)
  /-- DECREF (R192): Fabric-memory command that removes one reference from each listed page, freeing pages that reach zero. -/
  | decref (src : FmSrc) (err : HwErr)
  /-- READ (R197): Fabric-memory command that reads lines of a page to the requester or to a companion address. -/
  | fmRead (src : FmSrc) (err : HwErr)
  /-- READ_MCAST (R202): READ with MCAST that reads a bound page once and sends it to every PRESENT member of its set and the requester. -/
  | readMcast (src : FmSrc) (err : HwErr)
  /-- WRITE (R197): Fabric-memory command that writes lines of a page from the packet or a companion address. -/
  | fmWrite (src : FmSrc) (err : HwErr)
  /-- COPY (R197): Fabric-memory command that copies lines between pages in ascending order. -/
  | fmCopy (src : FmSrc) (err : HwErr)
  /-- ATTACH_BIND (R197): ATTACH with BIND 1 binds a page to a multicast set and takes a reference, or replaces its set. -/
  | attachBind (src : FmSrc) (err : HwErr)
  /-- ATTACH_UNBIND (R197): ATTACH with BIND 0 releases a page's binding and its reference. -/
  | attachUnbind (src : FmSrc) (err : HwErr)
  /-- FMM_CHAN_RESTART (R201): Register write that restarts halted fabric-memory channels of stacks. -/
  | fmmChanRestart (value : Word)
  /-- BPM_REBUILD (R185): Register write that applies pending pool settings and starts a rebuild, or refuses it. -/
  | bpmRebuild
  /-- REBUILD_DONE (R185): A pool rebuild completes and BUILD_DONE is set. -/
  | rebuildDone
  /-- RD_ONCE (R206): Companion request reading a fabric-memory window line without keeping a copy. -/
  | rdOnce (h : JnkHdr) (err : HwErr)
  /-- RD_SHARED (R207): Companion request reading a fabric-memory window line and holding it shared. -/
  | rdShared (h : JnkHdr) (err : HwErr)
  /-- RD_OWN (R207): Companion request reading a fabric-memory window line and holding it exclusive. -/
  | rdOwn (h : JnkHdr) (err : HwErr)
  /-- WR_FULL (R206): Companion request writing a full fabric-memory window line. -/
  | wrFull (h : JnkHdr) (data : List Byte)
  /-- WB (R207): Companion write-back of a modified fabric-memory window line. -/
  | wb (h : JnkHdr) (data : List Byte)
  /-- EVICT (R207): Companion drop of a clean fabric-memory window line. -/
  | evict (h : JnkHdr)
  /-- CFG_RD (R544): Companion 4-byte configuration read answered with the register value. -/
  | cfgRd (h : JnkHdr)
  /-- CFG_WR (R544): Companion 4-byte configuration write to a register that has no behaviour of its own. -/
  | cfgWr (h : JnkHdr) (value : Word)
  /-- SNP_INV (R400): Companion snoop on a held doorbell line; the module acknowledges and rereads the doorbell. -/
  | snpInv (tag : BitVec 12) (addr : Quad)
  /-- CMP (R404): Companion completion of a module write, enabling the next record or INT. -/
  | cmp (tag : BitVec 12)
  /-- CMP_D (R391): Companion data response to a module RD_ONCE for a descriptor or CADDR data. -/
  | cmpD (tag : BitVec 12) (poison : Bool) (data : List Byte)
  /-- CMP_S (R400): Companion data response granting a doorbell line shared, giving the new indices. -/
  | cmpS (tag : BitVec 12) (poison : Bool) (data : List Byte)
  /-- SNP_ACK (R207): Companion answer to a module snoop with no data. -/
  | snpAck (tag : BitVec 12)
  /-- SNP_RSPD (R207): Companion answer to a module snoop returning modified data. -/
  | snpRspd (tag : BitVec 12) (data : List Byte)
  /-- ERR (R419): Companion error response to a module request, halting the ring concerned. -/
  | jnkErr (tag : BitVec 12)
  /-- JNK_TIMEOUT (R396): A module request or snoop goes unanswered for JNK_TIMEOUT. -/
  | jnkTimeout (tag : BitVec 12)
  /-- JNK_LINK_DOWN (R397): The Jionuk link goes down and every ring halts with cause LINK. -/
  | jnkLinkDown
  /-- JNK_LINK_UP (R386): The Jionuk link completes training at 16 or 8 lanes. -/
  | jnkLinkUp (half : BitVec 2)
  /-- RNG_ENABLE (R408): Write of RNG_CTL.EN 1 that checks a ring set, resets indices and reads the doorbell. -/
  | rngEnable (set : BitVec 7)
  /-- DESC_TAKE (R407): The module takes the next command-ring descriptor once the doorbell shows it and the completion ring has room. -/
  | descTake (set : BitVec 6)
  /-- TU_DESC_TAKE (R411): The module takes the next table-update descriptor in ring order when report room allows. -/
  | tuDescTake
  /-- PARKED_RELEASE (R411): A parked table-update command resumes when the use it waited on ends. -/
  | parkedRelease (index : BitVec 3)
  /-- INT (R403): The module sends a ring's interrupt when armed and the holdoff has passed. -/
  | jnkInt (set : BitVec 7) (evt : Bool)
  /-- PROG_START (R405): Command-ring descriptor that queues a program on a logical core with its windows and initial registers. -/
  | progStart (set : BitVec 6) (index : Word) (words : List Word)
  /-- GAL_RESET (R412): Table-update command that resets a gallery in every chapter and disables its ring set. -/
  | galReset (d : TuDesc)
  /-- GAL_RESET_PORT (R435): GAL_RESET with PORT_RESET, which also resets the gallery's ports. -/
  | galResetPort (d : TuDesc)
  /-- MGMT_SEND (R410): Table-update command that sends an MGMT packet on a named port. -/
  | mgmtSend (d : TuDesc) (pkt : Packet)
  /-- MGMT_SEND_ROUTE (R410): MGMT_SEND with ROUTE, which routes the packet by its DEST. -/
  | mgmtSendRoute (d : TuDesc) (pkt : Packet)
  /-- PROG_LOAD (R410): Table-update command that writes program-store entries of named cores after their programs end. -/
  | progLoad (d : TuDesc) (data : List Word)
  /-- RTE_LOAD (R355): Table-update command that writes a run of entries into the bank that is not STAMP. -/
  | rteLoad (d : TuDesc) (data : List Word)
  /-- RTE_SYNC (R355): Table-update command that starts copying the STAMP bank into the other bank. -/
  | rteSync (d : TuDesc)
  /-- RTE_SYNC_DONE (R355): A route bank copy completes after 65,536 switch-core cycles. -/
  | rteSyncDone
  /-- DGT_WEIGHT (R227): Table-update command that computes and registers a weight digest for a layer and core. -/
  | dgtWeight (d : TuDesc)
  /-- DGT_WEIGHT_CLEAR (R227): DGT_WEIGHT with CLEAR, which removes a weight record. -/
  | dgtWeightClear (d : TuDesc)
  /-- DGT_PROG_GO (R229): Register GO that starts a program digest of a gallery. -/
  | dgtProgGo (value : Word)
  /-- PROG_DIGEST_DONE (R229): A program digest completes, setting VALID and clearing STALE. -/
  | progDigestDone
  /-- FLIT_RX (R272): A flit arrives on a port and is CRC-checked and accepted in order or discarded. -/
  | flitRx (port : BitVec 9) (flit : List Byte) (failed : Bool) (groups : List (BitVec 9 × List (BitVec 2)))
  /-- NAK_RX (R273): A LINK flit with NAK makes the transmitter replay from NAK_SEQ. -/
  | nakRx (port : BitVec 9) (seq : BitVec 12)
  /-- LINK_FLIT (R268): A LINK flit returns credit and carries link requests. -/
  | linkFlit (port : BitVec 9) (msg : LinkMsg)
  /-- QUIESCE (R266): Link request that stops new packets on the port except on VC1. -/
  | quiesce (port : BitVec 9)
  /-- RESUME (R266): Link request that lifts QUIESCE. -/
  | resume (port : BitVec 9)
  /-- DOWN_NOTICE (R266): Link request after which the partner takes the link as lost. -/
  | downNotice (port : BitVec 9)
  /-- ACK_TIMEOUT (R273): A flit unacknowledged for ACK_TIMEOUT is replayed, or the receiver resends its NAK. -/
  | ackTimeout (port : BitVec 9) (receiver : Bool)
  /-- IDENT (R279): An IDENT message is received during the identity exchange. -/
  | ident (port : BitVec 9) (msg : Ident)
  /-- IDENT_RESEND (R278): Each 1 µs a TRAINING port sends its IDENT flit again. -/
  | identResend (port : BitVec 9)
  /-- IDENT_TIMEOUT (R279): No valid IDENT within 10 ms takes the port DOWN and restarts training. -/
  | identTimeout (port : BitVec 9)
  /-- KEY (R508): A KEY message gives the partner's public key, checked against its UNIT_ID. -/
  | linkKey (port : BitVec 9) (key : List Byte)
  /-- CHALLENGE (R281): A CHALLENGE message is answered with KEY and an SM2 RESPONSE. -/
  | challenge (port : BitVec 9) (nonce : List Byte)
  /-- RESPONSE (R281): A RESPONSE message's signature is verified, passing or quarantining the port. -/
  | response (port : BitVec 9) (sig : List Byte)
  /-- AUTH_TIMEOUT (R281): No RESPONSE within 100 ms quarantines the port with cause AUTH. -/
  | authTimeout (port : BitVec 9)
  /-- DONE (R279): A DONE message resets sequence and credit counts and the port becomes UP, DEGRADED or QUARANTINE. -/
  | linkDone (port : BitVec 9)
  /-- PACKET_INGRESS (R287): A packet's header flit is accepted, checked, looked up and queued or consumed. -/
  | packetIngress (port : BitVec 9) (pkt : Packet) (flits : Byte) (poisoned : Bool) (headLeft : Bool) (err : HwErr)
  /-- TRL_FI_GO (R289): Register GO that starts link fault injection under MODE and RATE. -/
  | trlFiGo (port : BitVec 9) (value : Word)
  /-- REORDER_TIMEOUT (R289): A packet held by REORDER injection is sent after 10 µs when none follows. -/
  | reorderTimeout (port : BitVec 9)
  /-- SIGNAL_DETECT (R306): Signal detect on a lane starts training or exits LS1 or LS2. -/
  | signalDetect (lane : BitVec 9)
  /-- LOS (R300): Signal detect false for 256 ns fails a lane with cause LOS and removes it from its port. -/
  | los (lane : BitVec 9)
  /-- TRAINING_FRAME (R305): A training frame carries tap and preset requests and status between lane ends. -/
  | trainingFrame (lane : BitVec 9) (head : List (BitVec 2)) (ready : Bool) (want : Word)
  /-- TRAIN_TIMEOUT (R308): A lane not in LS0 within 300 ms restarts training, or fails with cause TRAIN. -/
  | trainTimeout (lane : BitVec 9)
  /-- WIDTH (R315): A WIDTH group requests a new active mask and is answered with WIDTH_ACK. -/
  | width (port : BitVec 9) (mask : Byte)
  /-- WIDTH_ACK (R315): A WIDTH_ACK group lets the initiator switch its transmitter to the new mask. -/
  | widthAck (port : BitVec 9) (mask : Byte)
  /-- NEWW (R315): A NEWW group starts reassembly at the new mask with a replay. -/
  | neww (port : BitVec 9) (mask : Byte)
  /-- WIDTH_TIMEOUT (R317): No WIDTH_ACK within 4 µs takes the port DOWN. -/
  | widthTimeout (port : BitVec 9)
  /-- CMD_LS1 (R310): A partner's LS1 groups put the lane receiver into LS1. -/
  | cmdLs1 (lane : BitVec 9)
  /-- CMD_LS2 (R310): A partner's LS2 groups put the lane into LS2. -/
  | cmdLs2 (lane : BitVec 9)
  /-- LS0_REQ (R310): STATE_REQ 0 brings a lane out of LS1 or LS2. -/
  | ls0Req (lane : BitVec 9) (value : Word)
  /-- LS1_REQ (R310): STATE_REQ 1 puts a lane outside the mask into LS1, or is refused. -/
  | ls1Req (lane : BitVec 9) (value : Word)
  /-- LS2_REQ (R310): STATE_REQ 2 puts a lane outside the mask into LS2, or is refused. -/
  | ls2Req (lane : BitVec 9) (value : Word)
  /-- LS_EXIT_TIMEOUT (R310): A lane that misses its exit bound retrains in full. -/
  | lsExitTimeout (lane : BitVec 9)
  /-- RETRAIN (R323): Register bit that retrains a lane in full, first dropping it if active. -/
  | laneRetrain (lane : BitVec 9) (value : Word)
  /-- CAL (R322): Register bit that requests full calibration of a lane, or is refused. -/
  | laneCal (lane : BitVec 9) (value : Word)
  /-- CAL_SLICE (R322): A 500 ns calibration slice starts inside a CAL entry. -/
  | calSlice (lane : BitVec 9)
  /-- DROP (R314): Register bit that removes a lane from its port's active mask. -/
  | laneDrop (lane : BitVec 9) (value : Word)
  /-- REJOIN (R319): Register bit that starts a widening to add a lane to its port. -/
  | laneRejoin (lane : BitVec 9) (value : Word)
  /-- AUTO_REJOIN (R319): A lane in LS0 outside its mask starts a widening by itself at a permitted entry start. -/
  | autoRejoin (lane : BitVec 9)
  /-- LAYOUT_APPLY (R313): A held lane layout change takes effect when its port leaves UP and DEGRADED. -/
  | layoutApply (port : BitVec 9)
  /-- PRBS_INJ_GO (R325): Register GO that arms error injection on a generating lane. -/
  | prbsInjGo (lane : BitVec 9) (value : Word)
  /-- FILL_TAKE (R338): The fill engine takes the oldest Sump packet of a spilled queue when it fits. -/
  | fillTake (q : QSel) (err : HwErr)
  /-- FILL_HEAD_WRITTEN (R338): A filled packet's head cell is written and egress may start it. -/
  | fillHeadWritten (q : QSel)
  /-- SUMP_WRITE (R339): A packet that waited for Sump room is written to Sump and its credit returned. -/
  | sumpWrite (w : SumpWr)
  /-- PICK (R374): At a flit boundary the egress port picks and starts the next packet by class and DWRR. -/
  | pick (port : BitVec 9) (err : HwErr)
  /-- REHASH_HOLD_END (R344): The hold of the first packet of a moved ordered flow ends. -/
  | rehashHoldEnd (port : BitVec 9) (vc : BitVec 3)
  /-- FLIP (R363): Register bit that starts an epoch flip check, or refuses it at once. -/
  | flip (value : Word)
  /-- FLIP_CHECK_DONE (R363): The flip check ends and STAMP changes, or the flip is refused. -/
  | flipCheckDone
  /-- ESCAPE (R359): A head packet blocked for RTE_ESC_THRESH moves into Chimney on VC0. -/
  | escape (port : BitVec 9) (vc : BitVec 3)
  /-- ORDER_HOLD_END (R361): A queue empty for RTE_ORDER_HOLD leaves escape mode. -/
  | orderHoldEnd (port : BitVec 9) (vc : BitVec 3)
  /-- SHAPER_REFILL (R380): Every 80 ns of fabric-time advance the shaper buckets refill. -/
  | shaperRefill
  /-- SHAPER_WRITE (R382): A write to a shaper register sets both buckets full. -/
  | shaperWrite (port : BitVec 9) (vc : BitVec 3) (reg : ShpReg) (value : Word)
  /-- TIM_SET (R241): Register SET that steps fabric time to TIM_SET_NS. -/
  | timSet (value : Word)
  /-- TIM_NOW_READ (R238): A read of TIM_NOW_NS_LO latches the high word and fraction. -/
  | timNowRead
  /-- TIM_PPS_SEC_WRITE (R240): A write of the next PPS second, refused when not one more than the last. -/
  | timPpsSecWrite (value : Word)
  /-- PPS_EDGE (R240): A PPS_IN rising edge gives an offset measurement that is slewed or stepped. -/
  | ppsEdge
  /-- SYNC (R243): An IEEE 1588 Sync on the source port gives an offset measurement. -/
  | sync (port : BitVec 9) (domain : Byte) (sdo : BitVec 12) (sec : BitVec 48) (ns : Word) (corr : Quad) (replayed : Bool)
  /-- PDELAY_REQ (R246): A Pdelay_Req is answered with a one-step Pdelay_Resp. -/
  | pdelayReq (port : BitVec 9) (domain : Byte) (sdo : BitVec 12) (seq : BitVec 16) (identity : BitVec 80) (replayed : Bool)
  /-- PDELAY_RESP (R243): A Pdelay_Resp gives the peer delay of the port. -/
  | pdelayResp (port : BitVec 9) (domain : Byte) (sdo : BitVec 12) (corr : Quad) (replayed : Bool)
  /-- SYNC_SEND (R246): At each Sync interval the module sends Sync on every master port. -/
  | syncSend (port : BitVec 9)
  /-- PDELAY_SEND (R243): Each second the module sends Pdelay_Req on ports that carry time. -/
  | pdelaySend (port : BitVec 9)
  /-- SOURCE_LOSS (R242): The time source is declared lost and the state moves to HOLDOVER or ACQUIRE. -/
  | sourceLoss
  /-- CAL_ARM (R254): Register ARM that captures and checks the inactive calendar bank and arms the switch. -/
  | calArm (value : Word)
  /-- BANK_SWITCH (R254): The calendar switches banks at the first boundary at or after the switch time. -/
  | bankSwitch
  /-- CAL_ENTRY_START (R251): A calendar entry starts, changing VC gates and permissions. -/
  | calEntryStart (err : HwErr)
  /-- RECHECK (R432): Register bit that repeats the plan comparison against the received identity. -/
  | recheck (port : BitVec 9) (value : Word)
  /-- ACCEPT (R432): Register bit that copies the received identity into the plan entry and rechecks. -/
  | accept (port : BitVec 9) (value : Word)
  /-- QUARANTINE (R432): Register bit that quarantines an UP or DEGRADED port with cause MANUAL, or clears it. -/
  | quarantine (port : BitVec 9) (value : Word)
  /-- PLAN_GRACE (R431): A planned port missing for GRACE_MS makes the plan DEGRADED. -/
  | planGrace (port : BitVec 9)
  /-- LOCATE (R438): A LOCATE press starts Beacon or moves its cursor. -/
  | locate
  /-- ISOLATE (R439): An ISOLATE press held 2 s isolates or releases the cursor's lane group, or is refused. -/
  | isolate
  /-- WAKE (R533): A WAKE press wakes the module from module state M2 or M3. -/
  | wake
  /-- BEACON_TIMEOUT (R438): A button-started Beacon ends 600 s after the last press. -/
  | beaconTimeout
  /-- SVC_ISOLATE (R439): Register write that isolates or releases lane groups. -/
  | svcIsolate (value : Word)
  /-- ISOLATION_DRAIN (R439): When queues empty or the drain bound passes, remaining packets are flushed and the DOWN notice sent. -/
  | isolationDrain (port : BitVec 9)
  /-- ISOLATION_LANES_OFF (R439): 1 µs after draining the lanes are disabled and the port is ISOLATED. -/
  | isolationLanesOff (port : BitVec 9)
  /-- SCR_LONG_APPLY (R448): A held long-lived scratch mask takes effect when the core is idle. -/
  | scrLongApply (core : BitVec 5)
  /-- ECC_SUMP_RESTART (R455): Register write that restarts a halted Sump fill channel, sending the failing packet poisoned. -/
  | eccSumpRestart (value : Word)
  /-- ECC_DMA_RESTART (R455): Register write that restarts a core's halted HBM channel. -/
  | eccDmaRestart (value : Word)
  /-- ECC_LOG_POP (R460): Register POP that removes the oldest entry of a hub die's error log. -/
  | eccLogPop (value : Word)
  /-- RETIRE_ADD (R458): Register ADD that adds an entry to the retire map in use, or refuses it. -/
  | retireAdd (value : Word)
  /-- RETIRE_COMMIT (R458): Register COMMIT that starts writing the retire map to flash. -/
  | retireCommit (value : Word)
  /-- RETIRE_COMMIT_DONE (R458): The retire map commit to flash completes. -/
  | retireCommitDone (ok : Bool)
  /-- SNUFFER_EXPIRY (R466): A group's Snuffer timer expires and the group escalates to FC3 or FC4. -/
  | snufferExpiry (group : BitVec 6)
  /-- FSW_CLEAR (R465): Write of 1 to an FSW bit that clears the group, or is refused while its pin is asserted. -/
  | fswClear (hi : Bool) (value : Word)
  /-- LANTERN_RESTART (R475): Register bit that reloads and verifies the Lantern image after a Lantern fault. -/
  | lanternRestart (value : Word)
  /-- LANTERN_VERIFY_DONE (R475): Lantern image verification ends, releasing Lantern or leaving the pin asserted. -/
  | lanternVerifyDone (readable : Bool)
  /-- WDOG_KICK (R474): Register KICK that restarts the Lantern watchdog. -/
  | wdogKick (value : Word)
  /-- WDOG_EXPIRY (R474): The watchdog period passes without a kick and raises a Lantern fault. -/
  | wdogExpiry
  /-- FLT_INJ_GO (R476): Register GO that arms a check-bit, residue or parity injection. -/
  | fltInjGo (value : Word)
  /-- RESET_ASSERT (R435): RESET_N or WARM_RESET_N asserted turns the transmitters off and stops the module. -/
  | resetAssert (warm : Bool)
  /-- RESET_RELEASE (R481): RESET_N released samples the straps and starts a cold bring-up at stage B0. -/
  | resetRelease (straps : BitVec 18)
  /-- WARM_RESET_RELEASE (R488): WARM_RESET_N released with a valid token starts the warm path. -/
  | warmResetRelease (straps : BitVec 18)
  /-- STAGE_END (R487): A bring-up stage ends, writes its report and starts the next stage or halts. -/
  | stageEnd (rep : StageRep) (fail : StageFail)
  /-- STAGE_TIMEOUT (R484): A stage's bound expires, failing it with cause TIMEOUT. -/
  | stageTimeout
  /-- AGENT_TIMEOUT (R489): An agent that has not returned its digest within 5 ms is sent its section again. -/
  | agentTimeout (agent : BitVec 10)
  /-- BST_REQ (R495): Register GO requesting in-service BIST of a domain, or refused. -/
  | bstReq (value : Word)
  /-- BIST_SLICE (R496): A 1 µs BIST slice runs inside a BIST entry. -/
  | bistSlice
  /-- BIST_END (R497): An in-service test ends with pass, fail or spare failure. -/
  | bistEnd (pass : Bool) (signature : Quad)
  /-- EXTEND (R511): Register EXTEND that extends MEAS6 or MEAS7 with SEC_EXT. -/
  | extend (value : Word)
  /-- QUOTE (R512): Register QUOTE that starts a signed quote over the nonce and measurements, or is refused. -/
  | quote (value : Word)
  /-- QUOTE_DONE (R512): The quote is ready in SEC_QUOTE. -/
  | quoteDone
  /-- ARB_ADVANCE (R519): Register write that blows anti-rollback fuses up to the running SVN, or is refused. -/
  | arbAdvance (value : Word)
  /-- FW_PUSH (R518): Register GO that starts pushing an image from the companion, or is refused. -/
  | fwPush (value : Word)
  /-- PUSH_PHASE_DONE (R518): A push phase ends, moving to the next phase or ending with PASS or FAIL. -/
  | pushPhaseDone (outcome : PushEnd) (image : List Byte)
  /-- PWR_DOMAIN_OFF (R524): Register write that switches domains off when allowed, or on, or is refused. -/
  | pwrDomainOff (word : BitVec 2) (value : Word)
  /-- DOMAIN_ON_DONE (R524): A domain switched on completes its power-up and initialisation. -/
  | domainOnDone (domain : BitVec 7)
  /-- PWR_LEVEL_REQ (R527): Register write that requests performance levels for hub and port dies. -/
  | pwrLevelReq (value : Word)
  /-- LEVEL_STEP (R527): A level change step completes: the divider switch, crossing release or voltage ramp. -/
  | levelStep (die : BitVec 3)
  /-- THERMAL_CAP (R528): The thermal cap falls or rises one level as a die crosses its temperature thresholds over time. -/
  | thermalCap (sensor : BitVec 3) (temp : Byte)
  /-- POWER_CAP (R528): The 100 µs input power average is sampled and the power cap falls or rises. -/
  | powerCap (watts : BitVec 16) (vin : BitVec 16)
  /-- BRAKE_ASSERT (R528): PWR_BRAKE_N low for 200 ns sets the brake cap to P3. -/
  | brakeAssert
  /-- BRAKE_RELEASE (R528): PWR_BRAKE_N high for 200 ns lifts the brake cap. -/
  | brakeRelease
  /-- THERM_TRIP (R528): A die at 125 °C drives THERM_TRIP_N low by comparator. -/
  | thermTrip
  /-- STATE_REQ_M2 (R531): Register GO with STATE 2 that checks and enters module state M2. -/
  | stateReqM2 (value : Word)
  /-- STATE_REQ_M3 (R531): Register GO with STATE 3 that checks and enters module state M3. -/
  | stateReqM3 (value : Word)
  /-- WAKE_VIN (R533): VIN_40V below VIN_LO wakes the module from M2 or M3. -/
  | wakeVin (vin : BitVec 16)
  /-- WAKE_TEMP (R533): A sensor above TEMP_C wakes the module from M2 or M3. -/
  | wakeTemp (sensor : BitVec 3) (temp : Byte)
  /-- POWER_LOSS (R536): VIN_40V below 33 V for 1 µs sheds load and writes the last-gasp record. -/
  | powerLoss (vin : BitVec 16)
  /-- VIN_RETURN (R536): VIN_40V above 36 V for 100 ms after a power loss starts a cold bring-up. -/
  | vinReturn (straps : BitVec 18)
  /-- GLB_WIN_VALID (R552): Write of GLB_WIN_CTL.VALID that checks and sets the window bases, or sets ERR. -/
  | glbWinValid (value : Word)
  /-- LOCK_FEAT (R554): Setting GLB_LOCK.FEAT freezes the feature enables until a cold reset. -/
  | lockFeat (value : Word)
  /-- LOCK_INJ (R554): Setting GLB_LOCK.INJ disables all fault injection until a cold reset. -/
  | lockInj (value : Word)
  /-- LOCK_JTAG (R554): Setting GLB_LOCK.JTAG limits the test access port to its mandatory instructions. -/
  | lockJtag (value : Word)
  /-- HBM_REFRESH (R19): A stack owes a refresh and issues it inside a REFRESH entry, or forces it outside one at the JESD238 deadline and counts it in DGT_TEV_REFRESH. -/
  | hbmRefresh (forced : Bool)
  /-- LOSS_OF_ALIGNMENT (R300): Four consecutive decoded groups with unexpected CWI or GSEQ, or skew over 64 ns, fail the lane with cause ALIGN and remove it from its port. -/
  | lossOfAlignment (lane : BitVec 9)
  /-- GROUP_ALIGNMENT (R306): A training lane decodes four consecutive groups with the expected CWI and GSEQ and enters LS0. -/
  | groupAlignment (lane : BitVec 9) (snr : BitVec 16)
  /-- UNCORRECTABLE_CODEWORD (R314): An RS codeword cannot be corrected, is counted and delivered marked failed, and more than UNCORR_LIMIT in UNCORR_WINDOW removes the lane with cause UNCORR. -/
  | uncorrectableCodeword (lane : BitVec 9)
  /-- PORT_TRAIN_TIMEOUT (R309): 300 ms after its first lane's signal detect, a port with at least MIN_WIDTH + 1 lanes in LS0 starts its identity exchange on those lanes. -/
  | portTrainTimeout (port : BitVec 9)
  /-- LAYOUT_WRITE (R313): A write of EN or PORT_CODE on a lane whose port is DOWN, TRAINING or QUARANTINE applies the layout at once, takes such a port DOWN and starts training or sets LNE_CFG_ERR. -/
  | layoutWrite (lane : BitVec 9) (value : Word)
  /-- CAL_EN_WRITE (R251): A write of TIM_CAL_CTL.EN starts or stops the calendar, opening all VCs when cleared and applying any held fabric-time step. -/
  | calEnWrite (value : Word)
  /-- PRBS_GEN_CHK (R324): A write of GEN or CHK in LNE_PRBS_CTL starts or stops a lane's test pattern generator or checker, or is refused on an active lane. -/
  | prbsGenChk (lane : BitVec 9) (value : Word)
  /-- PRBS_CHECKER_LOCK (R324): A checker locks after 256 consecutive error-free symbols and starts counting symbol and bit errors. -/
  | prbsCheckerLock (lane : BitVec 9) (phase : BitVec 31) (levels : List (BitVec 2))
  /-- POWER_ON (R567): VIN_40V rises past 30 V and the standby converter starts D87, which holds reset until VIN has been at 36 V for 20 ms. -/
  | powerOn
  /-- PLL_LOCK_LOSS (R462): A PLL loses lock, REF_CLK is lost or the always-on oscillator leaves ±10 % of REF_CLK, raising FSW group 34 at FC4 and safe state. -/
  | pllLockLoss
  /-- RAIL_OUT_OF_REGULATION (R523): A supply rail leaves regulation, raising FSW group 32 at FC4 and safe state. -/
  | railOutOfRegulation (rail : Byte)
  /-- D2D_LINK_FAULT (R462): A die-to-die link fault raises FSW group 31 at FC4 and the module enters safe state. -/
  | d2dLinkFault (link : Byte)
  /-- PMBUS_COMMAND (R565): A PMBus command on the I3C/I2C bus is answered with a reading in LINEAR11 or NACK. -/
  | pmbusCommand (code : Byte)
  /-- TAP_INSTRUCTION (R566): An IEEE 1149.1 instruction is executed by the test access port, limited when GLB_LOCK.JTAG is set and EXTEST acting only in reset. -/
  | tapInstruction (instr : TapInstr) (data : BitVec 66)
  deriving DecidableEq, Repr

end Sys2Proof
end

