-- ==== Sys2Proof/Config.lean ====
section
/-! DEFINITION. Config.lean: what an implementation fixes and the spec leaves open: free values, with no body, so that
nothing can be proved of which value they are. Each is named in the assumption log. -/
namespace Sys2Proof

/-- The n-th free value a step draws (log 6): `Mach.free` counts how many have been drawn. -/
opaque Config.freeValue : Nat → Nat

/-- For how many nanoseconds of fabric time an ended operation is remembered for 03 R82 (log 12). -/
opaque Config.lateHoldNs : Nat

/-- The stepping fused into the unit (22 R551, 23 R572; log 3): 0 A0, 1 B0, 2 B1. -/
opaque Config.stepping : Fin 3

/-- SM3 over the ROM, as a number (20 R510, log 3). -/
opaque Config.romDigest : Nat

/-- The public key x ‖ y of a signer certificate in DER that the ROM's root key verifies and that meets 20 R515, none for
any other byte string (log 45). -/
opaque Config.signerKey : List Byte → Option (List Byte)

/-- The clock identity of the unit in its IEEE 1588 messages, which 09 R243 does not state (log 30). -/
opaque Config.clockIdentity : BitVec 64

/-- The certificate chain stored at manufacture (20 R506, log 3). -/
opaque Config.certChain : List Byte

/-- The words of LNE_LANE_CFG by lane that a BOARD section holds, none when it holds no lane layout (19 R483, log 46). -/
opaque Config.boardLayout : List Byte → List (Nat × Word)

/-- The B4 budget in W of a BOARD section (19 R492, log 46). -/
opaque Config.boardBudget : List Byte → Nat

/-- The bytes of a retire map as 20 R510 hashes them (log 47). -/
opaque Config.retireBytes : List (Nat × Nat) → List Byte

/-- The LINEAR11 word of a reading given as numerator and denominator: 23 R565 states neither exponent nor rounding (log 48). -/
opaque Config.linear11 : Int → Nat → BitVec 16

/-- The module's SM2 private key, made at manufacture and never readable (20 R504, log 7). -/
opaque Config.sm2Key : Nat

/-- Symbols 0 to 65,534 of SSPRQ, which IEEE 802.3 defines and 11 R324 does not state (log 69). -/
opaque Config.ssprq : Nat → BitVec 2

/-- The state in which a lane's generator starts a pattern: by lane and pattern (11 R324, log 69). -/
opaque Config.prbsSeed : Nat → Nat → Nat

/-- The PCIe 6.0 flit-mode FEC over the 250 other bytes of a Jionuk flit, which 15 R387 names and does not state (log 70). -/
opaque Config.jnkFec : List Byte → BitVec 48

/-- What a Jionuk flit of the module acknowledges, by its SEQ: ACKV and ACK (15 R387; no row tells the companion's SEQ, log 70). -/
opaque Config.jnkAck : Nat → Bool × BitVec 12

end Sys2Proof
end

