-- ==== Sys2Proof/Machine/Bits.lean ====
section
/-! DEFINITION. Bits.lean: sparse memories in their one canonical form, bit fields, byte order, rounding of exact
quotients, and small list helpers. Nothing here knows the machine's state. -/
namespace Sys2Proof.Machine

/-! ### Sparse memories -/

/-- Read key `k` of a sparse memory whose unlisted keys read as `d k`. -/
def sget {w : Nat} (d : Nat → BitVec w) : Cells w → Nat → BitVec w
  | [], k => d k
  | (a, v) :: t, k => if a = k then v else if k < a then d k else sget d t k

/-- Put `v` at key `k` in front of a tail whose keys all exceed `k`, keeping the canonical form. -/
def scons {w : Nat} (d : Nat → BitVec w) (k : Nat) (v : BitVec w) (t : Cells w) : Cells w :=
  if v = d k then t else (k, v) :: t

/-- Write `v` at key `k`, keeping keys rising and listing no key that holds what it would read unlisted. -/
def sput {w : Nat} (d : Nat → BitVec w) : Cells w → Nat → BitVec w → Cells w
  | [], k, v => scons d k v []
  | (a, u) :: t, k, v =>
    if a < k then (a, u) :: sput d t k v
    else if a = k then scons d k v t
    else scons d k v ((a, u) :: t)

/-- Write consecutive keys from `k`. -/
def sputs {w : Nat} (d : Nat → BitVec w) (c : Cells w) (k : Nat) : List (BitVec w) → Cells w
  | [] => c
  | v :: vs => sputs d (sput d c k v) (k + 1) vs

/-- Read `n` consecutive keys from `k`. -/
def sgets {w : Nat} (d : Nat → BitVec w) (c : Cells w) (k n : Nat) : List (BitVec w) :=
  (List.range n).map fun i => sget d c (k + i)

/-- Drop every listed key from `lo` up to but not including `hi`: those keys read as unlisted. -/
def sclear {w : Nat} (c : Cells w) (lo hi : Nat) : Cells w :=
  c.filter fun p => !(decide (lo ≤ p.1) && decide (p.1 < hi))

/-- The canonical form: keys strictly rising, no entry equal to what its key reads as unlisted. -/
def swf {w : Nat} (d : Nat → BitVec w) : Cells w → Bool
  | [] => true
  | (k, v) :: t => decide (v ≠ d k) && (t.all fun p => decide (k < p.1)) && swf d t

/-- What an unlisted key of every memory but the registers reads as: 0 (DESIGN CHOICE, log 5). -/
def zeroCell {w : Nat} (_ : Nat) : BitVec w := 0

/-! ### Bit fields and byte order -/

/-- Bits hi to lo of `x`. -/
def bits (x hi lo : Nat) : Nat := x / 2 ^ lo % 2 ^ (hi + 1 - lo)

/-- Bit `i` of `x`. -/
def bitOf (x i : Nat) : Bool := x / 2 ^ i % 2 == 1

/-- `x` with bits hi to lo replaced by `v`. -/
def setBits (x hi lo v : Nat) : Nat :=
  x / 2 ^ (hi + 1) * 2 ^ (hi + 1) + v % 2 ^ (hi + 1 - lo) * 2 ^ lo + x % 2 ^ lo

/-- 1 for true. -/
def b2n (b : Bool) : Nat := if b then 1 else 0

/-- The little-endian number of a byte string (00, Notation). -/
def leNat : List Byte → Nat
  | [] => 0
  | b :: t => b.toNat + 256 * leNat t

/-- `n` little-endian bytes of a number. -/
def leBytes : Nat → Nat → List Byte
  | 0, _ => []
  | n + 1, x => BitVec.ofNat 8 x :: leBytes n (x / 256)

/-- The bytes of little-endian 32-bit words. -/
def wordBytes (ws : List Word) : List Byte := ws.flatMap fun w => leBytes 4 w.toNat

/-- The little-endian 32-bit words of a byte string; a short tail is padded with zeros. -/
def bytesWordsAux : Nat → Nat → List Word
  | 0, _ => []
  | n + 1, x => BitVec.ofNat 32 x :: bytesWordsAux n (x / 2 ^ 32)

/-- The little-endian 32-bit words of a byte string. -/
def bytesWords (bs : List Byte) : List Word := bytesWordsAux ((bs.length + 3) / 4) (leNat bs)

/-- Pack codes of `w` bits each, the first in the lowest bits. -/
def packCodes (w : Nat) : List Nat → Nat
  | [] => 0
  | c :: t => c % 2 ^ w + 2 ^ w * packCodes w t

/-- The `n` codes of `w` bits in a packed number. -/
def unpackCodes (w : Nat) : Nat → Nat → List Nat
  | 0, _ => []
  | n + 1, x => x % 2 ^ w :: unpackCodes w n (x / 2 ^ w)

/-- Two's complement value of the low `w` bits. -/
def sext (w x : Nat) : Int :=
  let y := x % 2 ^ w
  if y < 2 ^ (w - 1) then (y : Int) else (y : Int) - (2 : Int) ^ w

/-- Two's complement bits of an integer in `w` bits. -/
def tcBits (w : Nat) (x : Int) : Nat := (x % (2 : Int) ^ w).toNat

/-- The set bits of a number among bits 0 to n − 1, ascending. -/
def setBitsOf (n x : Nat) : List Nat := (List.range n).filter fun i => bitOf x i

/-- How many of bits 0 to n − 1 are set. -/
def popCount (n x : Nat) : Nat := (setBitsOf n x).length

/-- A number with exactly the listed bits set. -/
def bitsMask (l : List Nat) : Nat := l.foldl (fun a i => a ||| 2 ^ i) 0

/-! ### Rounding -/

/-- `n / d` rounded to nearest, ties to even (02 R30). -/
def rneDiv (n d : Nat) : Nat :=
  let q := n / d
  let r := n % d
  if 2 * r < d then q else if d < 2 * r then q + 1 else q + q % 2

/-- `m × 2^k` rounded to nearest, ties to even. -/
def rneShift (m : Nat) (k : Int) : Nat :=
  if 0 ≤ k then m * 2 ^ k.toNat else rneDiv m (2 ^ (-k).toNat)

/-- An integer quotient rounded to nearest, ties to even, for either sign of the dividend. -/
def rneDivI (n : Int) (d : Nat) : Int :=
  if 0 ≤ n then (rneDiv n.toNat d : Int) else -(rneDiv (-n).toNat d : Int)

/-- An integer quotient rounded to nearest, ties away from zero. -/
def rnaDivI (n : Int) (d : Nat) : Int :=
  if 0 ≤ n then (((2 * n.toNat + d) / (2 * d) : Nat) : Int) else -(((2 * (-n).toNat + d) / (2 * d) : Nat) : Int)

/-! ### Lists -/

/-- Element `i` replaced by `f` of it. -/
def modNth {α : Type} (f : α → α) : Nat → List α → List α
  | _, [] => []
  | 0, a :: t => f a :: t
  | n + 1, a :: t => a :: modNth f n t

/-- The first match replaced by `f` of it. -/
def modFirst {α : Type} (p : α → Bool) (f : α → α) : List α → List α
  | [] => []
  | a :: t => if p a then f a :: t else a :: modFirst p f t

/-- The list without its first match. -/
def eraseFirst {α : Type} (p : α → Bool) : List α → List α
  | [] => []
  | a :: t => if p a then t else a :: eraseFirst p t

/-- Cut a list into pieces of `n`, at most `k` of them. -/
def piecesOf {α : Type} (n : Nat) : Nat → List α → List (List α)
  | 0, _ => []
  | k + 1, l => if l.isEmpty then [] else l.take n :: piecesOf n k (l.drop n)

/-- Indices of the elements that satisfy `p`, ascending. -/
def indicesOf {α : Type} (p : α → Bool) (l : List α) : List Nat :=
  (l.zipIdx.filter fun x => p x.1).map (·.2)

/-- Sum of a count over a list. -/
def sumOf {α : Type} (g : α → Nat) (l : List α) : Nat := l.foldl (fun a x => a + g x) 0

/-- Add saturating at `cap`. -/
def satAdd (cap a b : Nat) : Nat := min cap (a + b)

end Sys2Proof.Machine
end

