-- ==== Sys2Proof/Machine/Flags.lean ====
section
/-! DEFINITION. Flags.lean: status codes and their severity (00 R5, 04 R116), saturating counters, and the CRCs. -/
namespace Sys2Proof.Machine

/-! ### Status codes -/

/-- The 4-bit code of a status (00 R5). -/
def statusCode : Status → Nat
  | .ok => 0 | .partialMembers => 1 | .nanTrap => 2 | .residue => 3 | .uncorrectable => 4 | .abortTimeout => 5
  | .abortMemberLost => 6 | .abortGallery => 7 | .linkLost => 8 | .noSlot => 9 | .badFormat => 10 | .badPointer => 11

/-- The status of a code, none for the reserved codes 0xC to 0xF. -/
def statusOf? (c : Nat) : Option Status :=
  match c with
  | 0 => some .ok | 1 => some .partialMembers | 2 => some .nanTrap | 3 => some .residue | 4 => some .uncorrectable
  | 5 => some .abortTimeout | 6 => some .abortMemberLost | 7 => some .abortGallery | 8 => some .linkLost
  | 9 => some .noSlot | 10 => some .badFormat | 11 => some .badPointer | _ => none

/-- Place in the order of severity of 04 R116: larger is more severe. -/
def severity : Status → Nat
  | .residue => 12 | .uncorrectable => 11 | .linkLost => 10 | .abortMemberLost => 9 | .abortGallery => 8
  | .abortTimeout => 7 | .badPointer => 6 | .noSlot => 5 | .badFormat => 4 | .nanTrap => 3 | .partialMembers => 2
  | .ok => 1

/-- The more severe of two statuses (04 R116). -/
def worst (a b : Status) : Status := if severity a < severity b then b else a

/-! ### CRC-64 (08 R221) -/

/-- One bit step of CRC-64/ECMA-182. -/
def crc64Step (c : Nat) : Nat :=
  if 2 ^ 63 ≤ c then (c * 2 % 2 ^ 64) ^^^ 0x42F0E1EBA9EA3693 else c * 2

/-- Feed one byte, most significant bit first. -/
def crc64Byte (c : Nat) (b : Byte) : Nat :=
  let c0 := c ^^^ (b.toNat * 2 ^ 56)
  crc64Step (crc64Step (crc64Step (crc64Step (crc64Step (crc64Step (crc64Step (crc64Step c0)))))))

/-- All ones, the initial register and the final XOR. -/
def crc64Ones : Nat := 0xFFFFFFFFFFFFFFFF

/-- Feed bytes into the register. -/
def crc64Feed (c : Nat) (bs : List Byte) : Nat := bs.foldl crc64Byte c

/-- CRC-64 of a byte string. -/
def crc64 (bs : List Byte) : Nat := crc64Feed crc64Ones bs ^^^ crc64Ones

/-- `crc64 (a ++ b)` from `crc64 a`, continuing over the bytes of b. -/
def crc64Append (ca : Nat) (b : List Byte) : Nat := crc64Feed (ca ^^^ crc64Ones) b ^^^ crc64Ones

/-- Advance the register over n zero bytes. -/
def crc64Zeros : Nat → Nat → Nat
  | 0, c => c
  | n + 1, c => crc64Zeros n (crc64Byte c 0)

/-- `crc64 (a ++ b)` from crc64 a, crc64 b and the length of b in bytes (08 R221). -/
def crc64Combine (ca cb lenB : Nat) : Nat := crc64Zeros lenB ca ^^^ cb

/-! ### CRC-32 (10 R261) -/

/-- One bit step of the reflected IEEE 802.3 CRC-32. -/
def crc32Step (c : Nat) : Nat := if c % 2 = 1 then (c / 2) ^^^ 0xEDB88320 else c / 2

/-- Feed one byte. -/
def crc32Byte (c : Nat) (b : Byte) : Nat :=
  let c0 := c ^^^ b.toNat
  crc32Step (crc32Step (crc32Step (crc32Step (crc32Step (crc32Step (crc32Step (crc32Step c0)))))))

/-- CRC-32 of a byte string. -/
def crc32 (bs : List Byte) : Nat := bs.foldl crc32Byte 0xFFFFFFFF ^^^ 0xFFFFFFFF

end Sys2Proof.Machine
end

