-- ==== Sys2Proof/Machine/State.lean ====
section
/-! DEFINITION. State.lean: everything the spec gives the module, as plain data: `Mach` holds the registers, tables,
queues, counters, modes and pins; `Store` holds the addressed memories; `State` holds both and the queue of commands. -/
namespace Sys2Proof.Machine

/-! ### What leaves the module -/

/-- A Jionuk message (15 R389): opcode, tag, address, value, status of an ERR, and the line data. -/
structure JnkMsg where
  opc : Nat
  tag : Nat
  addr : Nat
  value : Nat := 0
  status : Nat := 0
  data : List Byte := []
  deriving DecidableEq, Repr

/-- What the module drives at its contacts, as entries of the output log (log 15). -/
inductive Out where
  | jnk (m : JnkMsg)
  | flit (port : Nat) (bytes : List Byte)
  | laneCmd (lane cmd arg : Nat)
  | trainFrame (lane : Nat) (f : TrainFrame) (index : Nat)
  | group (lane : Nat) (levels : List (BitVec 2))
  | pattern (lane kind : Nat)
  | jnkFlit (bytes : List Byte)
  | transmitterOff (lane : Nat)
  | prbsError (lane every : Nat)
  | pmbus (value : Option Word)
  | tap (instruction : TapInstr) (value : Nat)
  deriving DecidableEq, Repr

/-! ### Collective groups and reduction (03, 04) -/

/-- MSTATE of a member entry (03 R61). -/
inductive MState where
  | present | removed | lost
  deriving DecidableEq, Repr

/-- A member table entry (03 R61). -/
structure Member where
  mstate : MState
  rank : Nat
  target : Nat
  deriving DecidableEq, Repr

/-- STATE of a group entry that is not FREE (03 R60). -/
inductive GState where
  | active | reforming | halted
  deriving DecidableEq, Repr

/-- STRAG_POLICY (03 R80). -/
inductive Straggle where
  | wait | abort | exclude
  deriving DecidableEq, Repr

/-- A NaN trap record of an operation (02 R52): its place in canonical order and its fields. -/
structure NanRec where
  tile : Nat
  element : Nat
  order : Nat
  kind : Nat
  format : Nat
  rank : Nat
  rankValid : Bool
  core : Nat
  raw : Nat
  deriving DecidableEq, Repr

/-- Where a counted contribution is: in packet cells, in parking, or taken up by the reduction core (04 R105, R106). -/
inductive GotLoc where
  | cells | parked | taken
  deriving DecidableEq, Repr

/-- A counted contribution of a tile, in its compact format; parking once used is freed when the tile closes (04 R106). -/
structure Got where
  rank : Nat
  pkt : Packet
  loc : GotLoc
  kept : Bool := false
  deriving DecidableEq, Repr

/-- One tile of an open segment by its local index in the segment: the contributions counted, in the order of arrival,
whether it has closed, and what its slot then holds: the FP32, INT32 or B32 sum (04 R106). -/
structure Tile where
  idx : Nat
  got : List Got := []
  closed : Bool := false
  slot : List Word := []
  status : Status := .ok
  deriving DecidableEq, Repr

/-- An open segment of an operation (04 R102, R115): its tile count once a LAST has told it, whether it is the last, the
open tile of rank mode, the advance of fabric time in ns at which the running straggler timer started (03 R78, 09 R247), its tiles, the first NaN in canonical order (02 R50) and, at a
leaf, the tiles its spine's results have accounted for (04 R113). -/
structure Segment where
  num : Nat
  count : Option Nat := none
  final : Bool := false
  openTile : Nat := 0
  timer : Option Nat := none
  tiles : List Tile := []
  nan : Option NanRec := none
  forwarded : Nat := 0
  deriving DecidableEq, Repr

/-- An operation of a group: its kind and root (04 R91), excluded ranks (03 R80), open segments, completed segments, the
number of its last segment and its tile count once known, the length of a PEER vector, whether its NaN record was raised, its status so far, and, for
LOCAL and PEER, whether it is complete with its result tiles kept in slots. -/
structure Op where
  seq : Nat
  kind : Nat
  root : Nat := 0
  excluded : List Nat := []
  segs : List Segment := []
  done : List Nat := []
  lastSeg : Option Nat := none
  tiles : Option Nat := none
  peerLen : Nat := 0
  trapped : Bool := false
  status : Status := .ok
  complete : Bool := false
  results : List (Nat × Tile) := []
  deriving DecidableEq, Repr

/-- A group: the fields of its table entry (03 R60; `arrival` is the mode it adds in, `accMode` the bit as written, which a
PEER group does not follow, R73), its members, its operations and the contributions that wait in
packet cells (03 R85, 04 R104), and re-formings whose event is due: oldest operation, count, rank, cause (03 R84). -/
structure Group where
  id : Nat
  gallery : Nat
  peer : Bool
  tier : Nat
  arrival : Bool
  accMode : Bool := arrival
  leafSum : Bool
  policy : Straggle
  nanMode : Bool
  intWrap : Bool
  allowMixed : Bool
  cfmt : Nat
  rfmt : Nat
  func : Nat
  segTiles : Nat
  window : Nat
  arithRev : Nat
  flareSat : Nat
  flareFlush : Nat
  planes : Nat
  planeIndex : Nat
  stragglerNs : Nat
  redCores : Nat
  memberBase : Nat
  blockHi : Nat
  blockLo : Nat
  uplink : Nat
  parkKib : Nat
  slots : Nat
  dies : Nat
  state : GState
  members : List Member
  ops : List Op := []
  waiting : List (Nat × Packet) := []
  reforms : List (Nat × Nat × Nat × Nat) := []
  deriving DecidableEq, Repr

/-- An operation that has ended and is remembered for 03 R82, with the fabric time of its end. -/
structure Ended where
  group : Nat
  seq : Nat
  at_ : Nat
  status : Status
  deriving DecidableEq, Repr

/-! ### Engines and programs (05) -/

/-- A program start (05 R128): core windows, initial scalar registers, and what started it: the session and layer table
index of a layer program, or a command taken from a command ring: its set, ring index and TAG (15 R405); `held` while long-lived masks wait (17 R448). -/
structure Start where
  entry : Nat
  gallery : Nat
  scrBase : Nat
  scrLimit : Nat
  hbmBase : Nat
  hbmLimit : Nat
  regs : List (Nat × Word) := []
  session : Option Nat := none
  cmd : Option (Nat × Nat × Nat) := none
  held : Bool := false
  deriving DecidableEq, Repr

/-- What a sequencer waits for: a group operation with the destination of its status, a transfer with the instruction word
that waits for it (R145), a fabric time, or a barrier of the die (05 R130). -/
inductive CoreWait where
  | op (group seq d : Nat)
  | dma (tag word : Nat)
  | time (target : Nat)
  | barDie (index mask : Nat)
  deriving DecidableEq, Repr

/-- What a router prefetch is for (06 R164): the session, the RSEQ of the program that waits for it, and its entry. -/
structure PfFor where
  session : Nat
  rseq : Nat
  layer : Nat
  deriving DecidableEq, Repr

/-- An HBM transfer in progress (05 R130): its tag, addresses in bytes, length and direction; `ok` is false when a
router prefetch failed its checks (06 R165); `gone` when the program it served has ended, so that no WAIT reports it. -/
structure Dma where
  tag : Nat
  hbm : Nat
  scr : Nat
  len : Nat
  toHbm : Bool
  ok : Bool := true
  prefetch : Option PfFor := none
  gone : Bool := false
  deriving DecidableEq, Repr

/-- A transfer that has ended and awaits its WAIT (05 R141): its tag, status, the address a BAD_POINTER names, and the
prefetch it was. -/
structure DmaEnd where
  tag : Nat
  status : Status
  addr : Nat
  prefetch : Option PfFor := none
  deriving DecidableEq, Repr

/-- Why a core awaits its spare: a fault with its status (05 R147), or a request (R149); a request first waits for the
running program. -/
inductive SpareWhy where
  | fault (status : Status)
  | requested
  | copying
  deriving DecidableEq, Repr

/-- A logical core: the running program, its pc, wait and status, whether it raised its NaN record (R142), its queue of
starts (R128), transfers and ended transfers by tag, the experts its TOPKs chose (06 R168), whether its last program
stopped by a trap, the cores of its die that have so stopped while its program ran (R142), a spare sequence (R147), scratch lines poisoned by a copy, program-store entries that fail
every fetch (17 R454) and long-lived scratch words held (17 R448). -/
structure Core where
  core : Nat
  running : Option Start := none
  pc : Nat := 0
  wait : Option CoreWait := none
  status : Status := .ok
  nan : Bool := false
  queue : List Start := []
  dmas : List Dma := []
  dmaEnds : List DmaEnd := []
  topk : List (List Nat) := []
  trapped : Bool := false
  gone : List Nat := []
  spare : Option SpareWhy := none
  poisoned : List Nat := []
  badFetch : List Nat := []
  longHeld : List (Nat × Word) := []
  deriving DecidableEq, Repr

/-! ### Routed layers and the audit chain (06, 08) -/

/-- A layer table entry: its index and its twelve words (06 R152). -/
structure Layer where
  idx : Nat
  words : List Word
  deriving DecidableEq, Repr

/-- The running step of an audited session (08 R226 to R231): the chain value, step number, setting in force, digests
formed so far, the experts that the running entry's TOPKs chose and the parts of its digests by their place. -/
structure Audit where
  chain : List Byte := []
  step : Nat := 0
  on : Bool := false
  depth : Nat := 0
  base : Nat := 0
  started : Bool := false
  startNs : Nat := 0
  entries : Nat := 0
  status : Status := .ok
  unreg : Bool := false
  mayVary : Bool := false
  stale : Bool := false
  pd : List Byte := []
  ws : List Byte := []
  chosen : List Nat := []
  cd : Nat := 0
  ld : Nat := 0
  tev : List Nat := []
  cdParts : List (Nat × Nat × Nat) := []
  ldParts : List (Nat × Nat × Nat) := []
  deriving DecidableEq, Repr

/-- A session that is not FREE (06 R155): its entry, whether it failed, and its audit step. -/
structure Session where
  n : Nat
  failed : Bool := false
  rseq : Nat := 0
  cur : Nat := 0
  gallery : Nat
  maxTok : Nat
  tp : Nat
  first : Nat
  home : Nat
  resBase : Nat
  scrBase : Nat
  scrLimit : Nat
  hbmBase : Nat
  hbmLimit : Nat
  failStatus : Status := .ok
  audit : Audit := {}
  deriving DecidableEq, Repr

/-- A weight record (08 R227): its layer, core, digest and protected byte ranges in scratch and HBM. -/
structure WeightRec where
  layer : Nat
  core : Nat
  wd : List Byte
  scr : List (Nat × Nat)
  hbm : List (Nat × Nat)
  deriving DecidableEq, Repr

/-- Digest state (08): weight records, the gallery whose program digest is being computed, and the galleries whose
digest is valid and stale. -/
structure DgtSt where
  records : List WeightRec := []
  busy : Option Nat := none
  valid : List Nat := []
  stale : List Nat := []
  deriving DecidableEq, Repr

/-! ### Stored-data protection (17) -/

/-- An error log entry (17 R457). -/
structure EccEntry where
  kind : Nat
  store : Nat
  unit : Nat
  pos : Nat
  repeats : Nat
  addr : Nat
  time : Nat
  deriving DecidableEq, Repr

/-- A table or entry that has failed and is fenced until it is reloaded (17 R454, R456). -/
inductive TableFence where
  | route (bank : Nat)
  | group (id : Nat)
  | layer (i : Nat)
  | expert (i : Nat)
  | session (n : Nat)
  | calendar (bank : Nat)
  deriving DecidableEq, Repr

/-- Words of a core's scratch, or lines of a stack, whose code is not the one they were written under: `lo` to `hi − 1` of
`unit` (17 R446). -/
structure CodeRange where
  hbm : Bool
  unit : Nat
  lo : Nat
  hi : Nat
  deriving DecidableEq, Repr

/-- The error logs of the two hub dies, oldest first, fenced tables by hub die, route entries by hub die (bank × 65,536 + FEID) that read as VALID 0, words
and lines with injected check bits and their outcome (18 R476: store, unit, word, bits), words and lines written under the
other code (17 R446), and the retire map in use, in
flash and whether a commit runs (17 R458). -/
structure EccSt where
  logs : List (List EccEntry) := [[], []]
  fenced : List (Nat × TableFence) := []
  badRoutes : List (Nat × Nat) := []
  bad : List (Nat × Nat × Nat × Nat) := []
  otherCode : List CodeRange := []
  retire : List (Nat × Nat) := []
  flash : List (Nat × Nat) := []
  busy : Bool := false
  deriving DecidableEq, Repr

/-! ### Switch core, routing, scheduling (12, 13, 14) -/

/-- The queues of 12 R329. -/
inductive QKey where
  | port (p vc : Nat)
  | engine (die : Nat)
  | fmem (die : Nat)
  | mgmt (die : Nat)
  deriving DecidableEq, Repr

/-- Where a queued packet's data lies: on-die with its head cell written, on-die and being filled (12 R338), in Sump,
or in cells waiting for Sump room with its credit held back (12 R339). -/
inductive QLoc where
  | onDie | filling | sump | staged
  deriving DecidableEq, Repr

/-- A packet copy in a queue: its cells, place, cell chain, reset generation stamp (12 R347), queueing order, ingress
port with the flits that came for credit, whether it was routed by table (13 R364), whether it is held after a moved flow (12 R344), whether it
has counted in RTE_ESC_BLOCK_CNT (13 R359), whether the head was already whole in cells when queued (12 R345), whether
its fill from Sump failed (17 R455), and the first flit sent as DATA_POISONED when a fault was found after the head had left (10
R276). -/
structure QPkt where
  pkt : Packet
  cells : Nat
  loc : QLoc
  chain : Nat
  gen : Nat
  seq : Nat
  ingress : Option (Nat × Nat)
  routed : Bool
  held : Bool := false
  escCounted : Bool := false
  whole : Bool := false
  failed : Bool := false
  badFrom : Option Nat := none
  deriving DecidableEq, Repr

/-- A queue with its Sump part: its pages in order, by HBM byte address / 4,096 (one whose pointer has failed under 07 R188 lies
2^27 above), the cells already read of its first page, the cells in Sump, whether
it is spilled (12 R336) and in escape mode (13 R361). -/
structure Queue where
  key : QKey
  pkts : List QPkt := []
  spilled : Bool := false
  escape : Bool := false
  pages : List Nat := []
  headCells : Nat := 0
  sumpCells : Nat := 0
  deriving DecidableEq, Repr

/-- A reference-counted cell chain (12 R330, 07 R189). -/
structure Chain where
  id : Nat
  die : Nat
  cells : Nat
  refs : Nat
  deriving DecidableEq, Repr

/-- An ordered flow that was moved to another candidate (12 R344). -/
structure MovedFlow where
  dest : Nat
  src : Nat
  flow : Nat
  gallery : Nat
  port : Nat
  deriving DecidableEq, Repr

/-- The switch core: queues, chains, the next chain and queueing numbers, the next stack of each die's Sump rotation
(12 R337), the cells that failed pointers have lost to each die's pool (07 R188), moved flows, the reset generation of each gallery (12 R347), the stamp of 13 R352, the flip in progress, and
the bank that an RTE_SYNC writes with its descriptor (13 R355). -/
structure SwitchSt where
  queues : List Queue := []
  chains : List Chain := []
  nextChain : Nat := 1
  nextSeq : Nat := 0
  rotate : List Nat := [0, 0]
  lostCells : List Nat := [0, 0]
  moved : List MovedFlow := []
  gens : Cells 8 := []
  stamp : Bool := false
  flipBusy : Bool := false
  flipRefused : Bool := false
  syncBusy : Option (Nat × TuDesc) := none
  deriving DecidableEq, Repr

/-! ### Ports, link layer, lanes (10, 11, 14, 16) -/

/-- The port states of 16 R426. -/
inductive PortState where
  | down | training | quarantine | up | degraded | isolated
  deriving DecidableEq, Repr

/-- A DATA flit kept for replay (10 R271, R273), with the gallery of its packet (R288) and how often it has been
resent (R275). -/
structure TxFlit where
  seq : Nat
  poisoned : Bool
  eop : Bool
  vc : Nat
  payload : List Byte
  gal : Nat
  tries : Nat := 0
  deriving DecidableEq, Repr

/-- A packet copy sent and not yet acknowledged, by the SEQ of its last flit (13 R364). -/
structure SentCopy where
  endSeq : Nat
  epoch : Bool
  routed : Bool
  deriving DecidableEq, Repr

/-- A change of active mask in progress (11 R315): the mask, whether this end started it, whether its acknowledgement
has come, whether this end's transmitter has switched and its partner's NEWW has come, lanes that wait to be added when
it completes (R316), and the mask before it. -/
structure WidthX where
  mask : Nat
  initiator : Bool
  acked : Bool := false
  switched : Bool := false
  gotNeww : Bool := false
  waiting : Nat := 0
  old : Nat := 0
  deriving DecidableEq, Repr

/-- A packet held by REORDER injection (10 R289). -/
structure HeldPkt where
  pkt : Packet
  routed : Bool
  badFrom : Option Nat := none
  deriving DecidableEq, Repr

/-- A configured port: its layout (11 R313), state (16 R426) and last CAUSE (R442), identity exchange (10 R278 to R281):
the partner's last IDENT, whether a valid one has come since the port was last DOWN, whether both ends have seen each
other, DONE sent and received, the challenge, the floor check of 12 R334 and the settings of TRL_PORT_CFG in force
(R291); link layer (R266 to R275): `rxNext` is the SEQ expected, `rxPart` the flits received of a packet not ended and `rxBytes` their payloads (R276), `retSent` the credit counts in the last
LINK flit and `sinceLink` the flits sent since (R265), `idSent` the messages after IDENT sent in this exchange (R278);
width exchange (11 R315), fault injection (10 R289), scheduler (14 R374), isolation step (16 R439) and whether the plan
counts it as missing (R431); the stream bytes of the group being filled (10 R262), its GSEQ and whether it carries NEWW (11 R297, R315),
the mask under which groups are received (R315), and whether 300 ms of training have passed (R309). -/
structure Port where
  first : Nat
  width : Nat
  mask : Nat := 0
  state : PortState := .down
  cause : Nat := 0
  layoutHeld : Bool := false
  exchanging : Bool := false
  ident : Option Ident := none
  leadsToSwitch : Bool := false
  partnerSeen : Bool := false
  bothSeen : Bool := false
  doneSent : Bool := false
  doneRcvd : Bool := false
  authState : Nat := 0
  authOn : Bool := false
  nonce : List Byte := []
  authFailed : Bool := false
  bufferFail : Bool := false
  peerKey : List Byte := []
  negRev : Nat := 0
  gallery : Nat := 0
  shared : Bool := false
  advertised : List Nat := []
  txSeq : Nat := 0
  rxNext : Nat := 0
  rxAny : Bool := false
  rxPart : Nat := 0
  rxBytes : List Byte := []
  retSent : List Nat := []
  sinceLink : Nat := 0
  idSent : List (Nat × List Byte) := []
  replay : List TxFlit := []
  naking : Bool := false
  credit : List Nat := []
  retSeen : List Nat := []
  retOut : List Nat := []
  quiesced : Bool := false
  sent : List SentCopy := []
  widthX : Option WidthX := none
  fiArmed : Bool := false
  fiCount : Nat := 0
  fiHeld : List HeldPkt := []
  ptr : List Nat := [0, 0]
  turnOpen : List Bool := [false, false]
  deficit : List (List Nat) := [[0, 0, 0, 0, 0, 0, 0, 0], [0, 0, 0, 0, 0, 0, 0, 0]]
  isoStep : Nat := 0
  isoDue : Nat := 0
  missing : Bool := false
  leftAt : Nat := 0
  plannedAt : Nat := 0
  txStream : List Byte := []
  gseq : Nat := 0
  newwDue : Bool := false
  rxMask : Nat := 0
  late : Bool := false
  deriving DecidableEq, Repr

/-- A checker (R324): the pattern state at the next symbol, error-free symbols met in a row, locked, symbol and bit errors. -/
structure Checker where
  at_ : Nat
  run : Nat := 0
  locked : Bool := false
  syms : Nat := 0
  bits : Nat := 0
  deriving DecidableEq, Repr

/-- What a lane holds beside its registers: the layout in force (11 R313), its configuration words as its last training
took them (R328), training restarts (R308), failed, fabric times of its removals (R320) and uncorrectable codewords
(R314), removed by DROP and not retrained since (R319), flapped (R320), REJOIN written and waiting (R319), calibration
slices left (R322), transmitter off by isolation (16 R439), leaving LS1 or LS2 or training from stored taps (R310); and in
training: frames seen in a row with RX_READY and FRAME_LOCK (R306), the answer it gives its partner's request, and its
own request with whether that has been answered (R305); the settings of the UNCORR window in progress (R328), training frames sent
since training began (R302), the precoder states of its two directions (R294), the injection in force with its period, 0 for once, and
place (R325), and its checker (R324). -/
structure LaneX where
  lane : Nat
  en : Bool := false
  code : Nat := 0
  cfg : Nat := 0x61
  tcfg : Nat := 0x3464
  restarts : Nat := 0
  failed : Bool := false
  removals : List Nat := []
  uncorr : List Nat := []
  dropped : Bool := false
  flapped : Bool := false
  wantJoin : Bool := false
  calLeft : Nat := 0
  off : Bool := false
  short : Bool := false
  readySeen : Nat := 0
  answer : Nat := 0
  request : Nat := 0
  answered : Bool := false
  ucfg : Nat := 0
  frames : Nat := 0
  txY : BitVec 2 := 0
  rxY : BitVec 2 := 0
  inject : Option (Nat × Nat) := none
  chk : Option Checker := none
  deriving DecidableEq, Repr

/-! ### Fabric time and the calendar (09) -/

/-- A fabric-time step held until the running entry ends (09 R248): an absolute time in ns, or an offset to add in units
of the accumulator. -/
inductive HeldStep where
  | set (ns : Nat)
  | offset (units : Int)
  deriving DecidableEq, Repr

/-- A bank switch armed with what ARM captured (09 R254), and the fabric time of ARM. -/
structure CalArm where
  count : Nat
  base : Nat
  switchAt : Nat
  armedAt : Nat
  deriving DecidableEq, Repr

/-- Fabric time: `acc` counts ns in units of 2^-16 × 10^-6 ns (09 R237; ADJ is exact in it), `adv` the advance with
steps excluded (R247), the held step with the NS at which the running entry ends (R248), how many of the last offsets in a row were within the lock bound, whether a source
was ever measured and is lost, the advance at the last edge or Sync of the source (R242), the start in NS of the last entry that
CAL_ENTRY_START has served, how many refill boundaries of 14 R380 have been served, the last PPS second, the base in force, the armed switch, peer delays and the times of
outstanding Pdelay_Reqs by port in those units, the message sequence, and the words of a fenced calendar bank written
since it was fenced (17 R456). -/
structure TimeSt where
  acc : Nat := 0
  adv : Nat := 0
  held : Option HeldStep := none
  heldEnd : Nat := 0
  locked : Nat := 0
  measured : Bool := false
  lost : Bool := false
  heard : Nat := 0
  entryBegan : Option Nat := none
  refills : Nat := 0
  lastPps : Option Nat := none
  base : Nat := 0
  arm : Option CalArm := none
  peerDelay : List (Nat × Int) := []
  pdelaySent : List (Nat × Nat) := []
  syncSeq : Nat := 0
  calFresh : List Nat := []
  deriving DecidableEq, Repr

/-! ### Jionuk and rings (15) -/

/-- What a module request on Jionuk was for; of a record, its ring set, whether it goes to the event ring, its index, and
whether its answer completes the record (15 R404). -/
inductive JnkWhy where
  | doorbell (set : Nat)
  | desc (set index : Nat)
  | record (set : Nat) (event : Bool) (index : Nat) (last : Bool)
  | cmdData (set index : Nat)
  | caddr (set index : Nat)
  | tuData (index : Nat)
  | snoop (line : Nat)
  | audit (session : Nat)
  deriving DecidableEq, Repr

/-- An outstanding module request or snoop, with the always-on time at which it was sent (15 R396). -/
structure JnkReq where
  tag : Nat
  opc : Nat
  addr : Nat
  why : JnkWhy
  at_ : Nat := 0
  deriving DecidableEq, Repr

/-- What a ring set holds beside its registers: the doorbell values last observed (15 R399), whether the line is held,
events raised since enabled and dropped since the last record (R416), whether an INT has been sent since the last
observation, and the fabric advance at the CMP of the first unsignalled entry of each ring (R403). -/
structure RingSt where
  set : Nat
  prod : Nat := 0
  cplCons : Nat := 0
  evtCons : Nat := 0
  arm : Nat := 0
  held : Bool := false
  seq : Nat := 0
  lost : Nat := 0
  intSent : List Bool := [false, false]
  unsignalled : List (Option Nat) := [none, none]
  deriving DecidableEq, Repr

/-- A command taken from a command ring and not complete (15 R407): its set and ring index, its descriptor once it has come,
its data writes not yet answered, and its record once it has ended (R404). -/
structure TakenCmd where
  set : Nat
  index : Nat
  words : List Word := []
  record : Option (List Word) := none
  waits : Nat := 0
  deriving DecidableEq, Repr

/-- A table-update command that waits (15 R411): its OPC, descriptor and data. -/
structure TuWait where
  opc : Nat
  desc : TuDesc
  data : List Word
  deriving DecidableEq, Repr

/-- The table-update descriptor that has been taken and whose command has not begun (15 R411): its ring index, its words, and
whether its data has come. -/
structure TuTaken where
  index : Nat
  words : List Word
  ready : Bool
  deriving DecidableEq, Repr

/-- Jionuk: outstanding requests, the table-update descriptor in hand, ring sets, commands taken, parked table-update commands, report records that wait for
room (15 R415), the fabric-memory lines that the companion holds, oldest first, with whether it may have modified
them (07 R207), the fabric-memory commands that have reached their pages and wait for lines to be recalled, in order, and the
companion's line reads that wait for room in the snoop filter, with whether they ask for ownership; and the SEQ of the next Jionuk
flit (R387). -/
structure JnkSt where
  reqs : List JnkReq := []
  tu : Option TuTaken := none
  rings : List RingSt := []
  taken : List TakenCmd := []
  parked : List TuWait := []
  reports : List (Nat × Nat × List Word) := []
  held : List (Nat × Bool) := []
  recalls : List FmSrc := []
  waitRd : List (Bool × JnkHdr) := []
  txSeq : Nat := 0
  deriving DecidableEq, Repr

/-! ### Faults (18) -/

/-- An asserted error pin (18 R461): group, class, unit, detail. -/
structure Pin where
  group : Nat
  cls : Nat
  unit : Nat
  detail : Nat
  deriving DecidableEq, Repr

/-- The collector, Snuffer and Lantern: asserted pins, the unit and detail of the fault that latched each group, running
timers with their deadlines in always-on nanoseconds, FC3 fences in force, safe state, Lantern held in reset and
verifying, the watchdog's period in force and last kick (18 R474, R480), the armed injections, the flash records of 18 R473
with the count of entries to safe state, the always-on time of the entry, the NS that its record will hold and the step reached (R471),
and the galleries fenced (R464). -/
structure FaultSt where
  pins : List Pin := []
  latched : List (Nat × Nat × Nat) := []
  timers : List (Nat × Nat) := []
  fences : List Nat := []
  safe : Bool := false
  lanternReset : Bool := true
  lanternVerify : Bool := false
  wdogMs : Nat := 100
  wdogKick : Nat := 0
  injections : List (Nat × Nat × Nat × Nat × Nat) := []
  records : List (List Byte) := []
  safeEntries : Nat := 0
  safeAt : Nat := 0
  safeNs : Nat := 0
  safeStep : Nat := 0
  galFences : List Nat := []
  deriving DecidableEq, Repr

/-! ### Reset, bring-up, power (19, 21, 23) -/

/-- The reset pins (true is asserted), always-on times of the reset release and of the start of the running stage, the latest
report of each stage and those not yet on the report ring (19 R487), WAITING for a recovery image and its attempts (R485), the
lane layout of the image's BOARD section and the layout in force before a warm reset (R483), whether this bring-up leaves
module state M2 (21 R532), agents sent again and failed (R489, R490), core positions excluded, clusters whose logic failed B4
(R493), the domain under in-service BIST (R496), whether a button holds Beacon on and the always-on time of its last
press (16 R438), and the always-on time at which an ISOLATE press was last refused (16 R439). -/
structure BootSt where
  resetN : Bool := false
  warmN : Bool := false
  releaseAt : Nat := 0
  stageAt : Nat := 0
  held : List (Nat × List Word) := []
  reports : List (Nat × List Word) := []
  waitingImage : Bool := false
  attempts : Nat := 0
  board : List (Nat × Word) := []
  layout : List (Nat × Word) := []
  fromM2 : Bool := false
  resends : List (Nat × Nat) := []
  agentsFailed : List Nat := []
  excluded : List Nat := []
  badClusters : List Nat := []
  bist : Option Nat := none
  beacon : Bool := false
  beaconAt : Nat := 0
  refusedAt : Option Nat := none
  deriving DecidableEq, Repr

/-- Identity and firmware (20): the anti-rollback count in fuses (R519), the bytes of the image area of flash (R513), the
security version of the running image, its GOLDEN and BOARD sections as Lantern keeps them from B2 (R517), whether a quote is in progress (R512), and EXTENDs that wait for it (R511). -/
structure SecSt where
  arb : Nat := 0
  image : List Byte := []
  svn : Nat := 0
  kept : List Byte := []
  quoting : Bool := false
  extends_ : List Nat := []
  deriving DecidableEq, Repr

/-- An entry to M2 or M3 in progress (21 R531): the state, its always-on start, and the steps done. -/
structure Entry where
  state : Nat
  at_ : Nat
  step : Nat
  deriving DecidableEq, Repr

/-- Caps of 21 R528: thermal of each die (P0 to P3, H0, H1), power, brake. Of each die the level its clock runs at, the level
its voltage has reached and the step of a change (R527). Samples of input power, oldest first, and how many in a row lay
above the cap and below 95 % of it; caps whose CAP_ON stands (thermal of each die, power, brake; R529); domains switching on
(R524); the entry in progress, with PWR_RETAIN and PWR_WAKE_CFG as the last entry took them (R541); shed by power loss (R536); POWER events of a sleep that wait for the report ring (R531); THERM_TRIP_N asserted; the slots of the last-gasp sector written
since its erase and the records written since manufacture (R537). -/
structure PowerSt where
  thermal : List Nat := [0, 0, 0, 0, 0, 0]
  power : Nat := 0
  brake : Bool := false
  run : List Nat := [0, 0, 0, 0, 0, 0]
  volt : List Nat := [0, 0, 0, 0, 0, 0]
  step : List Nat := [0, 0, 0, 0, 0, 0]
  samples : List Nat := []
  above : Nat := 0
  below : Nat := 0
  capOn : List Bool := [false, false, false, false, false, false, false, false]
  starting : List Nat := []
  entering : Option Entry := none
  retain : Nat := 0
  wakeCfg : Nat := 0
  lost : Bool := false
  lateEvents : List (List Nat) := []
  thermTrip : Bool := false
  lastGasp : List (List Byte) := []
  lastGaspSeq : Nat := 0
  deriving DecidableEq, Repr

/-! ### HBM pools (07) -/

/-- The pools of one stack as built (07 R182 to R185): pages of its Sump region, FMEM region in force, and each free stack (R183):
pages given back, top first, above the untouched run of pages, of the Sump region up to `spTop` and of the FMEM region from
`fmBase` up to `fmTop`. -/
structure Pool where
  stack : Nat
  sumpPages : Nat := 0x200000
  spFree : List Nat := []
  spTop : Nat := 0x200000
  fmBase : Nat := 0
  fmLimit : Nat := 0
  fmFree : List Nat := []
  fmTop : Nat := 0
  deriving DecidableEq, Repr

/-- A page table entry (07 R191); an entry not listed is FREE with GEN 0. `page` is the HBM byte address / 65,536;
`zeroed` says that the page has been cleared since the last rebuild (17 R450). -/
structure FmPage where
  page : Nat
  alloc : Bool := false
  retired : Bool := false
  gallery : Nat := 0
  gen : Nat := 0
  refcnt : Nat := 0
  bound : Bool := false
  set_ : Nat := 0
  zeroed : Bool := false
  deriving DecidableEq, Repr

/-! ### The machine -/

/-- A shaper whose buckets are not both full, by port × 8 + VC: C and P in bytes or thousandths of a packet (14 R377 to
R380). A shaper that is not listed is full. -/
structure Shaper where
  key : Nat
  c : Nat
  p : Nat
  deriving DecidableEq, Repr

/-- Everything but the addressed memories and the command queue: `tap` holds the boundary-scan update register (23 R566),
`free` counts the free values drawn (log 6), `out` is the output log (log 15). -/
structure Mach where
  regs : Cells 32 := []
  time : TimeSt := {}
  aon : Nat := 0
  groups : List Group := []
  ended : List Ended := []
  sw : SwitchSt := {}
  ports : List Port := []
  lanes : List LaneX := []
  shapers : List Shaper := []
  jnk : JnkSt := {}
  flt : FaultSt := {}
  boot : BootSt := {}
  sec : SecSt := {}
  pwr : PowerSt := {}
  pools : List Pool := []
  pages : List FmPage := []
  cores : List Core := []
  layers : List Layer := []
  sessions : List Session := []
  dgt : DgtSt := {}
  ecc : EccSt := {}
  tap : BitVec 66 := 0
  free : Nat := 0
  out : List Out := []
  deriving DecidableEq, Repr

/-- The addressed memories: HBM bytes (07 R184), scratch bytes by logical core × 2^23 (05 R124), vector register
words by core × 32,768 + register × 1,024 + element, scalar registers by core × 32 + number (05 R125), program-store
words by core × 32,768 (05 R127), expert map words (06 R154), and route entries by bank × 65,536 + FEID (13 R354). -/
structure Store where
  hbm : Cells 8 := []
  scratch : Cells 8 := []
  vregs : Cells 32 := []
  xregs : Cells 32 := []
  prog : Cells 64 := []
  expmap : Cells 32 := []
  route : Cells 128 := []
  deriving DecidableEq, Repr

/-- The state of the block: machine, memories, and the queue of waiting commands, first in, first out. -/
structure State where
  mach : Mach := {}
  store : Store := {}
  pending : List Instr := []
  deriving DecidableEq, Repr

/-- Why the module stops with a fault. No command of this model does: every error the spec describes is a state. -/
inductive Fault where
  /-- Raised by nothing: kept so that the type has a name for a stop the spec would leave without a state. Safe. -/
  | none
  deriving DecidableEq, Repr

/-- Why a command is refused by the model. -/
inductive Refusal where
  /-- A command whose meaning is not written yet. Safe: nothing can be proved of it. -/
  | notModelled (mnemonic : String)
  /-- TAP_INSTRUCTION with an instruction code that 23 R566 neither names nor gives an effect. Safe. -/
  | tapPrivate
  deriving DecidableEq, Repr

/-- The machine right after the release of RESET_N (log 2): every register at its reset value, every memory with
nothing listed, every queue empty. -/
def State.reset : State := {}

end Sys2Proof.Machine
end

