-- ==== Sys2Proof/Machine/Phy.lean ====
section
/-! DEFINITION. Phy.lean: what a lane puts on the wire and reads from it (11 R293 to R298, R302, R324, R325): striping, codewords,
the RS(544,514) code, interleave groups, Gray mapping, precoding, training frames and test patterns; and the Jionuk flit (15 R387). -/
namespace Sys2Proof.Machine

/-! ### Striping over the active lanes (10 R262) -/

/-- The bytes of a stream that go to the lane at position `i` of `w`. -/
def laneShare {α : Type} (w i : Nat) (stream : List α) : List α :=
  (stream.zipIdx.filter fun x => x.2 % w == i).map (·.1)

/-- The shares of a stream, by position. -/
def stripe {α : Type} (w : Nat) (stream : List α) : List (List α) := (List.range w).map fun i => laneShare w i stream

/-- Put shares of one length back together: byte k of the stream is byte k / w of the share at position k mod w. -/
def unstripe : Nat → List (List Byte) → List Byte
  | 0, _ => []
  | n + 1, shares => shares.flatMap (fun s => s.take 1) ++ unstripe n (shares.map (·.drop 1))

/-! ### The field of the Reed-Solomon code (R298; IEEE 802.3's polynomial, log 69) -/

/-- Multiply by α in GF(2^10), x^10 + x^3 + 1. -/
def gfDouble (a : Nat) : Nat := if 512 ≤ a then (2 * a) ^^^ 0x409 else 2 * a

/-- The product in GF(2^10). -/
def gfMul (a b : Nat) : Nat :=
  [9, 8, 7, 6, 5, 4, 3, 2, 1, 0].foldl (fun r i => gfDouble r ^^^ (if bitOf b i then a else 0)) 0

/-- The n-th power of α. -/
def gfExp : Nat → Nat
  | 0 => 1
  | n + 1 => gfDouble (gfExp n)

/-- The inverse of an element that is not 0: its power 2^10 − 2. -/
def gfInv (a : Nat) : Nat :=
  ((List.range 9).foldl (fun (x : Nat × Nat) _ => let q := gfMul x.1 x.1; (q, gfMul x.2 q)) (a, 1)).2

/-- The value of a polynomial, lowest coefficient first. -/
def gfEval (p : List Nat) (x : Nat) : Nat := p.foldr (fun c a => gfMul a x ^^^ c) 0

/-- The generator polynomial without its leading 1, highest coefficient first: the product of x + α^j, j from 0 to 29. -/
def rsGenerator : List Nat :=
  (List.range 30).foldl (fun g j =>
    let a := gfExp j
    (g ++ [0]).zipWith (fun hi lo => hi ^^^ gfMul a lo) (1 :: g)) []

/-- The 30 parity symbols of a message in the order sent: the remainder of m(x)·x^30. -/
def rsParity (gen msg : List Nat) : List Nat :=
  msg.foldl (fun r s =>
    let q := s ^^^ r.headD 0
    (r.drop 1 ++ [0]).zipWith (fun a g => a ^^^ gfMul q g) gen) (List.replicate 30 0)

/-- A codeword: 514 message symbols and 30 parity symbols (R295, R298). -/
def rsEncode (msg : List Nat) : List Nat := msg ++ rsParity rsGenerator msg

/-- The syndromes of a received word, first symbol the highest coefficient. -/
def rsSyndromes (word : List Nat) : List Nat :=
  (List.range 30).map fun j =>
    let a := gfExp j
    word.foldl (fun r s => gfMul r a ^^^ s) 0

/-- A step of the search for the error locator: locator, last locator, its length, shift and last discrepancy. -/
structure RsSearch where
  loc : List Nat := [1]
  last : List Nat := [1]
  len : Nat := 0
  shift : Nat := 1
  disc : Nat := 1

/-- Add polynomials. -/
def gfAdd : List Nat → List Nat → List Nat
  | [], b => b
  | a, [] => a
  | x :: a, y :: b => (x ^^^ y) :: gfAdd a b

/-- The shortest recurrence that the syndromes satisfy (Berlekamp and Massey). -/
def rsLocator (syn : List Nat) : RsSearch :=
  (List.range 30).foldl (fun s n =>
    let d := (List.range (s.len + 1)).foldl (fun a i => a ^^^ gfMul (s.loc.getD i 0) (syn.getD (n - i) 0)) 0
    if d = 0 then { s with shift := s.shift + 1 }
    else
      let c := gfMul d (gfInv s.disc)
      let next := gfAdd s.loc (List.replicate s.shift 0 ++ s.last.map (gfMul c))
      if 2 * s.len ≤ n then { loc := next, last := s.loc, len := n + 1 - s.len, shift := 1, disc := d }
      else { s with loc := next, shift := s.shift + 1 }) {}

/-- What is wrong with symbol `i` of a received word under a locator and its evaluator, 0 when nothing. -/
def rsErrorAt (loc omega : List Nat) (i : Nat) : Nat :=
  let x := gfExp (543 - i)
  let inv := gfInv x
  if gfEval loc inv ≠ 0 then 0
  else
    let odd := loc.zipIdx.map fun c => if c.2 % 2 = 1 then c.1 else 0
    gfMul (gfMul x (gfEval omega inv)) (gfInv (gfEval (odd.drop 1) inv))

/-- Decode a received word: the codeword with the number of symbols corrected, up to 15, or none when it cannot be corrected
(R298). -/
def rsDecode (word : List Nat) : Option (List Nat × Nat) :=
  let syn := rsSyndromes word
  if syn.all (· == 0) then some (word, 0)
  else
    let s := rsLocator syn
    if 15 < s.len then none
    else
      let omega := (List.range s.len).map fun k =>
        (List.range (k + 1)).foldl (fun a i => a ^^^ gfMul (s.loc.getD i 0) (syn.getD (k - i) 0)) 0
      let errs := (List.range 544).map (rsErrorAt s.loc omega)
      let fixed := word.zipWith (fun a b => a ^^^ b) errs
      let n := (errs.filter (· != 0)).length
      if n = s.len && (rsSyndromes fixed).all (· == 0) then some (fixed, n) else none

/-! ### Codewords and interleave groups (R295, R297) -/

/-- The lane control field. -/
def laneControl (cwi gseq cmd arg : Nat) : Nat :=
  cwi * 2 ^ 18 + gseq % 64 * 2 ^ 12 + (if cwi = 1 then cmd * 2 ^ 8 + arg else 0)

/-- The 514 message symbols: bits 0 to 19 the control field, bits 20 + 8k to 27 + 8k byte k of 640. -/
def codewordMessage (control : Nat) (bytes : List Byte) : List Nat :=
  unpackCodes 10 514 (control + 2 ^ 20 * leNat ((bytes ++ List.replicate 640 0).take 640))

/-- The four codewords of a group: control fields by index, 2,560 bytes in order. -/
def groupWords (gseq cmd arg : Nat) (bytes : List Byte) : List (List Nat) :=
  (piecesOf 640 4 (bytes ++ List.replicate 2560 0)).zipIdx.map fun x =>
    rsEncode (codewordMessage (laneControl x.2 gseq cmd arg) x.1)

/-- The symbols of four codewords on the wire: A0, B0, C0, D0, A1 and so on. -/
def interleave : Nat → List (List Nat) → List Nat
  | 0, _ => []
  | n + 1, ws => ws.flatMap (fun w => w.take 1) ++ interleave n (ws.map (·.drop 1))

/-! ### Gray mapping and precoding (R293, R294) -/

/-- The level index of a bit pair, 0 for −3 to 3 for +3; the first bit is the more significant. -/
def grayLevel (first second : Bool) : BitVec 2 :=
  match first, second with
  | false, false => 0 | false, true => 1 | true, true => 2 | true, false => 3

/-- The bit pair of a level index, as a number. -/
def grayPair (l : BitVec 2) : Nat := if l = 0 then 0 else if l = 1 then 1 else if l = 2 then 3 else 2

/-- The level itself: −3, −1, +1 or +3. -/
def levelValue (l : BitVec 2) : Int := 2 * (l.toNat : Int) - 3

/-- The five PAM4 symbols of a 10-bit symbol, least significant bit first. -/
def symbolLevels (s : Nat) : List (BitVec 2) := (List.range 5).map fun i => grayLevel (bitOf s (2 * i)) (bitOf s (2 * i + 1))

/-- The 10-bit symbol that five PAM4 symbols carry. -/
def levelsSymbol (l : List (BitVec 2)) : Nat :=
  l.foldr (fun x a => a * 4 + (grayPair x / 2 + grayPair x % 2 * 2)) 0

/-- Precode from the state y_(n−1): y_n = (x_n − y_(n−1)) mod 4. -/
def precode (y : BitVec 2) : List (BitVec 2) → List (BitVec 2)
  | [] => []
  | x :: t => (x - y) :: precode (x - y) t

/-- The receiver's inverse: x_n = (y_n + y_(n−1)) mod 4. -/
def unprecode (y : BitVec 2) : List (BitVec 2) → List (BitVec 2)
  | [] => []
  | z :: t => (z + y) :: unprecode z t

/-- A group of a lane as 10,880 levels, precoded from the state `y` when `on` (R294, R297). -/
def groupLevels (gseq cmd arg : Nat) (bytes : List Byte) (on : Bool) (y : BitVec 2) : List (BitVec 2) :=
  let l := (interleave 544 (groupWords gseq cmd arg bytes)).flatMap symbolLevels
  if on then precode y l else l

/-- What a receiver finds in the levels of a group: for each codeword its control field, its 640 bytes and the symbols corrected, or
none. -/
def groupRead (on : Bool) (y : BitVec 2) (levels : List (BitVec 2)) : List (Option (Nat × List Byte × Nat)) :=
  let syms := (piecesOf 5 2176 (if on then unprecode y levels else levels)).map levelsSymbol
  (List.range 4).map fun i => (rsDecode (laneShare 4 i syms)).map fun d =>
    let msg := packCodes 10 (d.1.take 514)
    (msg % 2 ^ 20, leBytes 640 (msg / 2 ^ 20), d.2)

/-- The stream bytes of a decoded group: a LOCK group, CMD 4, carries none (R297). -/
def groupStream (g : List (Option (Nat × List Byte × Nat))) : List Byte :=
  let cmd := match g.getD 1 none with
    | some x => bits x.1 11 8
    | none => 0
  if cmd = 4 then [] else g.flatMap fun c => (c.map (·.2.1)).getD (List.replicate 640 0)

/-! ### Test patterns and training frames (R302, R324, R325; IEEE 802.3's polynomials, log 69) -/

/-- The next state and bit of PRBS13: 1 + x + x^2 + x^12 + x^13. -/
def prbs13 (s : Nat) : Nat × Bool :=
  let b := (bitOf s 0).xor (bitOf s 1) |>.xor (bitOf s 11) |>.xor (bitOf s 12)
  (s * 2 % 2 ^ 13 + b2n b, b)

/-- The next state and bit of PRBS31: 1 + x^28 + x^31, sent inverted. -/
def prbs31 (s : Nat) : Nat × Bool :=
  let b := (bitOf s 27).xor (bitOf s 30)
  (s * 2 % 2 ^ 31 + b2n b, !b)

/-- The next symbol of a pattern and the state behind it: 1 PRBS13Q, 2 PRBS31Q, 3 SSPRQ, whose state is a place in it. -/
def patternNext (kind s : Nat) : BitVec 2 × Nat :=
  if kind = 3 then (Config.ssprq s, (s + 1) % 65535)
  else
    let g := if kind = 1 then prbs13 else prbs31
    let a := g s
    let b := g a.1
    (grayLevel a.2 b.2, b.1)

/-- The first `n` symbols of a pattern from a state. -/
def patternFrom (kind : Nat) : Nat → Nat → List (BitVec 2)
  | 0, _ => []
  | n + 1, s => (patternNext kind s).1 :: patternFrom kind n (patternNext kind s).2

/-- Injection inverts the less significant Gray bit: one step of level, one bit error (R325). -/
def injected (l : BitVec 2) : BitVec 2 := l ^^^ 1

/-- The symbols of a generator with injection: `every` 0 is once, at the place `at_`; else every so many symbols (R325). -/
def patternInjected (kind n s every at_ : Nat) : List (BitVec 2) :=
  (patternFrom kind n s).zipIdx.map fun x =>
    if (if every = 0 then x.2 == at_ else x.2 % every == at_ % every) then injected x.1 else x.1

/-- Gray distance of two levels: bit errors (R324). -/
def grayDistance (a b : BitVec 2) : Nat := popCount 2 (grayPair a ^^^ grayPair b)

/-- A checker meets one symbol: it locks after 256 error-free ones in a row and counts from then on (R324). -/
def Checker.meet (kind : Nat) (c : Checker) (l : BitVec 2) : Checker :=
  let e := patternNext kind c.at_
  let d := grayDistance e.1 l
  if c.locked then { c with at_ := e.2, syms := c.syms + (if d = 0 then 0 else 1), bits := c.bits + d }
  else
    let run := if d = 0 then c.run + 1 else 0
    { c with at_ := e.2, run, locked := decide (256 ≤ run) }

/-- A checker meets symbols in order. -/
def Checker.meetAll (kind : Nat) (c : Checker) (ls : List (BitVec 2)) : Checker := ls.foldl (Checker.meet kind) c

/-- A field bit of a training frame as four symbols (R302). -/
def cellLevels (b : Bool) : List (BitVec 2) := if b then [3, 3, 0, 0] else [0, 0, 3, 3]

/-- A 32-bit field of a training frame, most significant bit first. -/
def fieldLevels (w : Word) : List (BitVec 2) := (List.range 32).flatMap fun i => cellLevels (bitOf w.toNat (31 - i))

/-- Symbols 0 to 287 of a training frame: the marker and the two fields (R302). -/
def frameHead (control status : Word) : List (BitVec 2) :=
  List.replicate 16 3 ++ List.replicate 16 0 ++ fieldLevels control ++ fieldLevels status

/-- A whole training frame, 4,096 symbols, its PRBS13Q from a state (R302). -/
def frameLevels (control status : Word) (prbs : Nat) : List (BitVec 2) := frameHead control status ++ patternFrom 1 3808 prbs

/-- Read field bits; none when a cell is not well formed. -/
def readCells : Nat → List (BitVec 2) → Nat → Option Nat
  | 0, _, a => some a
  | n + 1, l, a =>
    if l.take 4 = cellLevels true then readCells n (l.drop 4) (2 * a + 1)
    else if l.take 4 = cellLevels false then readCells n (l.drop 4) (2 * a)
    else none

/-- Read a training frame from its symbols 0 to 287: inverted when its marker is, with its control and status fields; none when the
marker or a field bit is malformed (R302, R307). -/
def readFrame (levels : List (BitVec 2)) : Option (Bool × Word × Word) :=
  let inverted := levels.headD 0 == 0
  let l := if inverted then levels.map fun x => 3 - x else levels
  if l.take 32 ≠ List.replicate 16 3 ++ List.replicate 16 0 then none
  else
    match readCells 32 (l.drop 32) 0, readCells 32 (l.drop 160) 0 with
    | some c, some s => some (inverted, BitVec.ofNat 32 c, BitVec.ofNat 32 s)
    | _, _ => none

/-! ### The Jionuk flit (15 R387, R389) -/

/-- A Jionuk DATA flit: control word with EOP 1 and VC 0, 15 message slots, two reserved bytes, the FEC check bytes over the other
250 and the CRC, for which the check bytes count as 0 (log 70). -/
def jnkFlit (seq ack : Nat) (ackv : Bool) (slots : List Byte) : List Byte :=
  let body := leBytes 4 (1 * 2 ^ 29 + seq % 4096 * 2 ^ 17 + ack % 4096 * 2 ^ 5 + b2n ackv * 2 ^ 4 + 2 ^ 3) ++
    (slots ++ List.replicate 240 0).take 240 ++ [0, 0]
  let crc := leBytes 4 (crc32 (body ++ List.replicate 6 0))
  body ++ leBytes 6 (Config.jnkFec (body ++ crc)).toNat ++ crc

end Sys2Proof.Machine
end

