-- ==== Sys2Proof/Machine/RegMap.lean ====
section
/-! DEFINITION. RegMap.lean: the register map of 22 R542 to R551, transcribed from the register tables of
the chapters: every register's offset in the configuration window, its array strides, the access types of its bits
(00 R3) and its reset value. `Reg.NAME` is the offset of register NAME (of element i, or of element i, j, of an array). -/

namespace Sys2Proof.Machine

/-- One register, or one array of registers, of the map. `dims` lists (stride, count), outermost first. `rw`, `w1c`,
`w1s`, `rc` and `wo` are the masks of the bits of each access type of 00 R3; every other defined bit is RO. `port` says
the register exists only at the first lane of a configured port (11 R313). -/
structure RegDesc where
  base : Nat
  dims : List (Nat × Nat)
  ro : Nat
  rw : Nat
  w1c : Nat
  w1s : Nat
  rc : Nat
  wo : Nat
  reset : Nat
  port : Bool
  deriving DecidableEq, Repr

namespace Reg

abbrev GLB_ID : Nat := 0x0
abbrev GLB_VENDOR : Nat := 0x4
abbrev GLB_REV : Nat := 0x8
abbrev GLB_SUMMARY : Nat := 0xc
abbrev GLB_CFG_BASE_LO : Nat := 0x10
abbrev GLB_CFG_BASE_HI : Nat := 0x14
abbrev GLB_FMW_BASE_LO : Nat := 0x18
abbrev GLB_FMW_BASE_HI : Nat := 0x1c
abbrev GLB_WIN_CTL : Nat := 0x20
abbrev GLB_FEAT_EN : Nat := 0x30
abbrev GLB_LOCK : Nat := 0x34
abbrev GLB_SCRATCH_W (i : Nat) : Nat := 0x40 + 4 * i
abbrev BOOT_STATUS : Nat := 0x10000
abbrev BOOT_ELAPSED : Nat := 0x10004
abbrev BOOT_REPORT_SEL : Nat := 0x10008
abbrev BOOT_REPORT_W (i : Nat) : Nat := 0x10010 + 4 * i
abbrev BOOT_COLD_CNT : Nat := 0x10050
abbrev BOOT_WARM_CNT : Nat := 0x10054
abbrev FLT_FSW_LO : Nat := 0x20000
abbrev FLT_FSW_HI : Nat := 0x20004
abbrev FLT_GCLASS (i : Nat) : Nat := 0x20010 + 4 * i
abbrev FLT_MASK_LO : Nat := 0x20030
abbrev FLT_MASK_HI : Nat := 0x20034
abbrev FLT_CTL : Nat := 0x20040
abbrev FLT_SNUFFER : Nat := 0x20044
abbrev FLT_WDOG : Nat := 0x20048
abbrev FLT_NEXT : Nat := 0x2004c
abbrev FLT_FIRST_W (i : Nat) : Nat := 0x20050 + 4 * i
abbrev FLT_FC0_CNT : Nat := 0x20060
abbrev FLT_FC1_CNT : Nat := 0x20064
abbrev FLT_ESC_CNT : Nat := 0x20068
abbrev FLT_CLR_REFUSE_CNT : Nat := 0x2006c
abbrev FLT_INJ : Nat := 0x20080
abbrev FLT_INJ_ADDR : Nat := 0x20084
abbrev PWR_STATUS : Nat := 0x30000
abbrev PWR_LEVEL_REQ : Nat := 0x30004
abbrev PWR_CAP : Nat := 0x30008
abbrev PWR_STATE_REQ : Nat := 0x3000c
abbrev PWR_RETAIN : Nat := 0x30010
abbrev PWR_WAKE_CFG : Nat := 0x30014
abbrev PWR_WAKE_CAUSE : Nat := 0x30018
abbrev PWR_DOMAIN_OFF_W (i : Nat) : Nat := 0x30020 + 4 * i
abbrev PWR_DOMAIN_STAT_W (i : Nat) : Nat := 0x30030 + 4 * i
abbrev PWR_REFUSE_CNT : Nat := 0x30040
abbrev PWR_REFUSE_LAST : Nat := 0x30044
abbrev PWR_CAP_MISS_CNT : Nat := 0x30048
abbrev PWR_TEMP_W (i : Nat) : Nat := 0x30050 + 4 * i
abbrev PWR_VIN : Nat := 0x30058
abbrev SEC_ID : Nat := 0x40000
abbrev SEC_CTL : Nat := 0x40004
abbrev SEC_IMAGE : Nat := 0x40008
abbrev SEC_CERT_LEN : Nat := 0x4000c
abbrev SEC_ERR_CNT : Nat := 0x40010
abbrev SEC_UID_W (i : Nat) : Nat := 0x40020 + 4 * i
abbrev SEC_NONCE_W (i : Nat) : Nat := 0x40040 + 4 * i
abbrev SEC_EXT_W (i : Nat) : Nat := 0x40060 + 4 * i
abbrev SEC_MEAS_W (i : Nat) (j : Nat) : Nat := 0x40100 + 32 * i + 4 * j
abbrev SEC_QUOTE_W (i : Nat) : Nat := 0x40400 + 4 * i
abbrev SEC_FW_ADDR_LO : Nat := 0x40300
abbrev SEC_FW_ADDR_HI : Nat := 0x40304
abbrev SEC_FW_LEN : Nat := 0x40308
abbrev SEC_FW_CTL : Nat := 0x4030c
abbrev SEC_CERT_W (i : Nat) : Nat := 0x41000 + 4 * i
abbrev BST_BUDGET : Nat := 0x50000
abbrev BST_REQ : Nat := 0x50004
abbrev BST_STATUS : Nat := 0x50008
abbrev BST_SIG_LO : Nat := 0x50010
abbrev BST_SIG_HI : Nat := 0x50014
abbrev BST_REFUSE_CNT : Nat := 0x50018
abbrev BST_REFUSE_LAST : Nat := 0x5001c
abbrev JNK_STATUS : Nat := 0x60000
abbrev JNK_TIMEOUT : Nat := 0x60004
abbrev JNK_TIMEOUT_CNT : Nat := 0x60010
abbrev JNK_ERR_RSP_CNT : Nat := 0x60014
abbrev JNK_ERR_SENT_CNT : Nat := 0x60018
abbrev JNK_CFG_MISS_CNT : Nat := 0x6001c
abbrev JNK_REPLAY_CNT : Nat := 0x60020
abbrev JNK_LINK_DOWN_CNT : Nat := 0x60024
abbrev RNG_MGMT_DROP_CNT : Nat := 0x70000
abbrev RNG_DISCARD_CNT : Nat := 0x70004
abbrev RNG_CTL_M : Nat := 0x70100
abbrev RNG_CTL_G (i : Nat) : Nat := 0x71000 + 64 * i
abbrev RNG_SIZES_M : Nat := 0x70104
abbrev RNG_SIZES_G (i : Nat) : Nat := 0x71004 + 64 * i
abbrev RNG_VEC_M : Nat := 0x70108
abbrev RNG_VEC_G (i : Nat) : Nat := 0x71008 + 64 * i
abbrev RNG_HOLDOFF_M : Nat := 0x7010c
abbrev RNG_HOLDOFF_G (i : Nat) : Nat := 0x7100c + 64 * i
abbrev RNG_CMD_BASE_LO_M : Nat := 0x70110
abbrev RNG_CMD_BASE_LO_G (i : Nat) : Nat := 0x71010 + 64 * i
abbrev RNG_CMD_BASE_HI_M : Nat := 0x70114
abbrev RNG_CMD_BASE_HI_G (i : Nat) : Nat := 0x71014 + 64 * i
abbrev RNG_CPL_BASE_LO_M : Nat := 0x70118
abbrev RNG_CPL_BASE_LO_G (i : Nat) : Nat := 0x71018 + 64 * i
abbrev RNG_CPL_BASE_HI_M : Nat := 0x7011c
abbrev RNG_CPL_BASE_HI_G (i : Nat) : Nat := 0x7101c + 64 * i
abbrev RNG_EVT_BASE_LO_M : Nat := 0x70120
abbrev RNG_EVT_BASE_LO_G (i : Nat) : Nat := 0x71020 + 64 * i
abbrev RNG_EVT_BASE_HI_M : Nat := 0x70124
abbrev RNG_EVT_BASE_HI_G (i : Nat) : Nat := 0x71024 + 64 * i
abbrev RNG_DB_LO_M : Nat := 0x70128
abbrev RNG_DB_LO_G (i : Nat) : Nat := 0x71028 + 64 * i
abbrev RNG_DB_HI_M : Nat := 0x7012c
abbrev RNG_DB_HI_G (i : Nat) : Nat := 0x7102c + 64 * i
abbrev RNG_CMD_CONS_M : Nat := 0x70130
abbrev RNG_CMD_CONS_G (i : Nat) : Nat := 0x71030 + 64 * i
abbrev RNG_CPL_PROD_M : Nat := 0x70134
abbrev RNG_CPL_PROD_G (i : Nat) : Nat := 0x71034 + 64 * i
abbrev RNG_EVT_PROD_M : Nat := 0x70138
abbrev RNG_EVT_PROD_G (i : Nat) : Nat := 0x71038 + 64 * i
abbrev RNG_EVT_LOST_M : Nat := 0x7013c
abbrev RNG_EVT_LOST_G (i : Nat) : Nat := 0x7103c + 64 * i
abbrev GRP_FREE_H (i : Nat) : Nat := 0x80000 + 4 * i
abbrev GRP_MEMBERS_FREE : Nat := 0x80008
abbrev GRP_MISTILE_CNT : Nat := 0x80010
abbrev GRP_LATE_DISCARD_CNT : Nat := 0x80014
abbrev GRP_STRAG_CNT : Nat := 0x80018
abbrev GRP_QUOTA_G (i : Nat) : Nat := 0x80100 + 4 * i
abbrev RED_WINDOW_CNT : Nat := 0x90000
abbrev RED_DUP_CNT : Nat := 0x90004
abbrev RED_BADFMT_CNT : Nat := 0x90008
abbrev RED_POISON_CNT : Nat := 0x9000c
abbrev RED_RESIDUE_CNT : Nat := 0x90010
abbrev RED_NOTOWNER_CNT : Nat := 0x90014
abbrev RED_PARK_PEAK_H (i : Nat) : Nat := 0x90020 + 4 * i
abbrev RED_OPEN_H (i : Nat) : Nat := 0x90028 + 4 * i
abbrev ENG_ARITH_REV : Nat := 0xa0000
abbrev ENG_PRESENT : Nat := 0xa0004
abbrev ENG_SPARE : Nat := 0xa0008
abbrev ENG_FUSE_H (i : Nat) : Nat := 0xa0010 + 4 * i
abbrev ENG_SPARE_REQ : Nat := 0xa0018
abbrev ENG_TRAP_CNT : Nat := 0xa0020
abbrev ENG_RESIDUE_CNT : Nat := 0xa0024
abbrev ENG_NAN_CNT : Nat := 0xa0028
abbrev ENG_MAP_C (i : Nat) : Nat := 0xa0040 + 4 * i
abbrev LAY_SEQ_ERR_CNT : Nat := 0xb0000
abbrev LAY_START_CNT : Nat := 0xb0004
abbrev LAY_FAIL_CNT : Nat := 0xb0008
abbrev LAY_PF_LATE_CNT : Nat := 0xb000c
abbrev LAY_SESSION_S (i : Nat) : Nat := 0xb0020 + 4 * i
abbrev FMM_REFUSE_CNT : Nat := 0xc0000
abbrev FMM_CMD_CNT : Nat := 0xc0004
abbrev FMM_MEDIA_CNT : Nat := 0xc0008
abbrev FMM_WIN_ERR_CNT : Nat := 0xc000c
abbrev FMM_GFENCE_LO : Nat := 0xc0010
abbrev FMM_GFENCE_HI : Nat := 0xc0014
abbrev FMM_CHAN_HALT : Nat := 0xc0018
abbrev FMM_CHAN_RESTART : Nat := 0xc001c
abbrev FMM_QUOTA_G (i : Nat) : Nat := 0xc0100 + 4 * i
abbrev FMM_USED_G (i : Nat) : Nat := 0xc0200 + 4 * i
abbrev BPM_CTL : Nat := 0xd0000
abbrev BPM_SUMP_GIB : Nat := 0xd0004
abbrev BPM_FREE_CELL_H (i : Nat) : Nat := 0xd0010 + 4 * i
abbrev BPM_BADPTR_CNT : Nat := 0xd0020
abbrev BPM_LEAK_CNT : Nat := 0xd0024
abbrev BPM_RETIRE_SKIP_CNT : Nat := 0xd0028
abbrev BPM_FAULT : Nat := 0xd0030
abbrev BPM_FMEM_BASE_M (i : Nat) : Nat := 0xd0040 + 8 * i
abbrev BPM_FMEM_LIMIT_M (i : Nat) : Nat := 0xd0044 + 8 * i
abbrev BPM_FREE_SUMP_M (i : Nat) : Nat := 0xd0080 + 4 * i
abbrev BPM_FREE_FMEM_M (i : Nat) : Nat := 0xd00a0 + 4 * i
abbrev DGT_TEV_RETRY : Nat := 0xe0000
abbrev DGT_TEV_REFRESH : Nat := 0xe0004
abbrev DGT_TEV_THROTTLE : Nat := 0xe0008
abbrev DGT_TEV_CEWB : Nat := 0xe000c
abbrev DGT_TEV_TIME : Nat := 0xe0010
abbrev DGT_PROG_CTL : Nat := 0xe0020
abbrev DGT_WD_CNT : Nat := 0xe0024
abbrev DGT_WD_SEL : Nat := 0xe0028
abbrev DGT_WD_W (i : Nat) : Nat := 0xe0030 + 4 * i
abbrev DGT_SEED_S (i : Nat) (j : Nat) : Nat := 0xe0100 + 32 * i + 4 * j
abbrev DGT_CHAIN_S (i : Nat) (j : Nat) : Nat := 0xe0200 + 32 * i + 4 * j
abbrev DGT_AUDIT_S (i : Nat) : Nat := 0xe0300 + 16 * i
abbrev DGT_AUDIT_BASE_LO_S (i : Nat) : Nat := 0xe0304 + 16 * i
abbrev DGT_AUDIT_BASE_HI_S (i : Nat) : Nat := 0xe0308 + 16 * i
abbrev DGT_PD_G (i : Nat) (j : Nat) : Nat := 0xe0400 + 32 * i + 4 * j
abbrev ECC_CE_CNT : Nat := 0xf0000
abbrev ECC_UE_CNT : Nat := 0xf0004
abbrev ECC_HARD_CNT : Nat := 0xf0008
abbrev ECC_LOG_LOST_CNT : Nat := 0xf000c
abbrev ECC_LOG_CTL : Nat := 0xf0010
abbrev ECC_LOG_W (i : Nat) : Nat := 0xf0014 + 4 * i
abbrev ECC_SUMP_HALT : Nat := 0xf0030
abbrev ECC_SUMP_RESTART : Nat := 0xf0034
abbrev ECC_DMA_HALT : Nat := 0xf0038
abbrev ECC_DMA_RESTART : Nat := 0xf003c
abbrev ECC_RETIRE_ENTRY : Nat := 0xf0040
abbrev ECC_RETIRE_CTL : Nat := 0xf0044
abbrev ECC_SCR_LONG_C (i : Nat) (j : Nat) : Nat := 0xf1000 + 16 * i + 4 * j
abbrev ECC_REGION_M (i : Nat) (j : Nat) : Nat := 0xf2000 + 64 * i + 4 * j
abbrev RTE_CTL : Nat := 0x100000
abbrev RTE_STATUS : Nat := 0x100004
abbrev RTE_VC0_CNT : Nat := 0x100008
abbrev RTE_FLIP_ERR : Nat := 0x10000c
abbrev RTE_ESC_THRESH : Nat := 0x100010
abbrev RTE_ORDER_HOLD : Nat := 0x100014
abbrev RTE_NOROUTE_CNT : Nat := 0x100020
abbrev RTE_BADDEST_CNT : Nat := 0x100024
abbrev RTE_ESCAPE_CNT : Nat := 0x100028
abbrev RTE_ESC_BLOCK_CNT : Nat := 0x10002c
abbrev RTE_ESC_VIOL_CNT : Nat := 0x100030
abbrev RTE_UP_PORT_W (i : Nat) : Nat := 0x100040 + 4 * i
abbrev RTE_ENTRY_SEL : Nat := 0x100080
abbrev RTE_ENTRY_W (i : Nat) : Nat := 0x100084 + 4 * i
abbrev TIM_NOW_NS_LO : Nat := 0x120000
abbrev TIM_NOW_NS_HI : Nat := 0x120004
abbrev TIM_NOW_FRAC : Nat := 0x120008
abbrev TIM_CTL : Nat := 0x120010
abbrev TIM_STATUS : Nat := 0x120014
abbrev TIM_ADJ : Nat := 0x120018
abbrev TIM_LIMITS : Nat := 0x12001c
abbrev TIM_SET_NS_LO : Nat := 0x120020
abbrev TIM_SET_NS_HI : Nat := 0x120024
abbrev TIM_PPS_SEC : Nat := 0x120028
abbrev TIM_ERR_CNT : Nat := 0x12002c
abbrev TIM_CAL_CTL : Nat := 0x120040
abbrev TIM_CAL_BASE_LO : Nat := 0x120044
abbrev TIM_CAL_BASE_HI : Nat := 0x120048
abbrev TIM_CAL_SWITCH_LO : Nat := 0x12004c
abbrev TIM_CAL_SWITCH_HI : Nat := 0x120050
abbrev TIM_CAL_LEN : Nat := 0x120054
abbrev TIM_MASTER_W (i : Nat) : Nat := 0x120080 + 4 * i
abbrev TIM_CAL_BANK0 (i : Nat) : Nat := 0x128000 + 4 * i
abbrev TIM_CAL_BANK1 (i : Nat) : Nat := 0x130000 + 4 * i
abbrev LNE_TRAIN_CFG : Nat := 0x140000
abbrev LNE_REFUSE_CNT : Nat := 0x140004
abbrev LNE_REFUSE_LAST : Nat := 0x140008
abbrev LNE_CFG_ERR : Nat := 0x14000c
abbrev LNE_LANE_CFG (i : Nat) : Nat := 0x150000 + 64 * i
abbrev LNE_LANE_CTL (i : Nat) : Nat := 0x150004 + 64 * i
abbrev LNE_LANE_STATUS (i : Nat) : Nat := 0x150008 + 64 * i
abbrev LNE_TX_COEF (i : Nat) : Nat := 0x15000c + 64 * i
abbrev LNE_STORED_COEF (i : Nat) : Nat := 0x150010 + 64 * i
abbrev LNE_FEC_CORR_CNT (i : Nat) : Nat := 0x150014 + 64 * i
abbrev LNE_FEC_SYM_CNT (i : Nat) : Nat := 0x150018 + 64 * i
abbrev LNE_FEC_UNCORR_CNT (i : Nat) : Nat := 0x15001c + 64 * i
abbrev LNE_DROP_CNT (i : Nat) : Nat := 0x150020 + 64 * i
abbrev LNE_FEC_PEAK (i : Nat) : Nat := 0x150024 + 64 * i
abbrev LNE_RX_SNR (i : Nat) : Nat := 0x150028 + 64 * i
abbrev LNE_PRBS_CTL (i : Nat) : Nat := 0x15002c + 64 * i
abbrev LNE_PRBS_SYM_ERR (i : Nat) : Nat := 0x150030 + 64 * i
abbrev LNE_PRBS_BIT_ERR (i : Nat) : Nat := 0x150034 + 64 * i
abbrev TRL_REV : Nat := 0x160000
abbrev TRL_MALFORMED_CNT : Nat := 0x160010
abbrev TRL_XGAL_CNT : Nat := 0x160014
abbrev TRL_HOPS_CNT : Nat := 0x160018
abbrev TRL_REV_DROP_CNT : Nat := 0x16001c
abbrev TRL_FI_EN : Nat := 0x160020
abbrev TRL_FI_GAL_LO : Nat := 0x160024
abbrev TRL_FI_GAL_HI : Nat := 0x160028
abbrev TRL_PORT_CFG (i : Nat) : Nat := 0x170000 + 64 * i
abbrev TRL_PORT_STATUS (i : Nat) : Nat := 0x170004 + 64 * i
abbrev TRL_RETRY_CNT (i : Nat) : Nat := 0x170008 + 64 * i
abbrev TRL_CRC_CNT (i : Nat) : Nat := 0x17000c + 64 * i
abbrev TRL_FI_CNT (i : Nat) : Nat := 0x170010 + 64 * i
abbrev TRL_PEER_UID_W0 (i : Nat) : Nat := 0x170014 + 64 * i
abbrev TRL_PEER_UID_W1 (i : Nat) : Nat := 0x170018 + 64 * i
abbrev TRL_PEER_UID_W2 (i : Nat) : Nat := 0x17001c + 64 * i
abbrev TRL_PEER_UID_W3 (i : Nat) : Nat := 0x170020 + 64 * i
abbrev TRL_PEER_INFO (i : Nat) : Nat := 0x170024 + 64 * i
abbrev TRL_PEER_STRAPS (i : Nat) : Nat := 0x170028 + 64 * i
abbrev TRL_REPLAY_CFG (i : Nat) : Nat := 0x17002c + 64 * i
abbrev TRL_FI_CTL (i : Nat) : Nat := 0x170030 + 64 * i
abbrev TRL_FI_DELAY (i : Nat) : Nat := 0x170034 + 64 * i
abbrev SWC_HASH_SEED : Nat := 0x180000
abbrev SWC_REHASH_HOLD : Nat := 0x180004
abbrev SWC_MIN_WORK : Nat := 0x180008
abbrev SWC_STAGE : Nat := 0x18000c
abbrev SWC_FLOOR_H (i : Nat) : Nat := 0x180010 + 4 * i
abbrev SWC_INT_LIMIT_ENGINE : Nat := 0x180018
abbrev SWC_INT_LIMIT_FMEM : Nat := 0x18001c
abbrev SWC_INT_LIMIT_MGMT : Nat := 0x180020
abbrev SWC_SPILL_CNT : Nat := 0x180040
abbrev SWC_WITHHOLD_CNT : Nat := 0x180044
abbrev SWC_FLUSH_CNT : Nat := 0x180048
abbrev SWC_UNREACH_CNT : Nat := 0x18004c
abbrev SWC_OVERRUN_CNT : Nat := 0x180050
abbrev SWC_REHASH_CNT : Nat := 0x180054
abbrev SWC_GFLUSH_CNT : Nat := 0x180058
abbrev SWC_QCFG (i : Nat) (j : Nat) : Nat := 0x190000 + 32 * i + 4 * j
abbrev SWC_QSTAT (i : Nat) (j : Nat) : Nat := 0x1a0000 + 32 * i + 4 * j
abbrev SHP_CFG_ERR_CNT : Nat := 0x1c0000
abbrev SHP_WEIGHT_LO (i : Nat) : Nat := 0x1c8000 + 8 * i
abbrev SHP_WEIGHT_HI (i : Nat) : Nat := 0x1c8004 + 8 * i
abbrev SHP_CFG (i : Nat) (j : Nat) : Nat := 0x1d0000 + 256 * i + 32 * j
abbrev SHP_RATE (i : Nat) (j : Nat) : Nat := 0x1d0004 + 256 * i + 32 * j
abbrev SHP_CBS (i : Nat) (j : Nat) : Nat := 0x1d0008 + 256 * i + 32 * j
abbrev SHP_PBS (i : Nat) (j : Nat) : Nat := 0x1d000c + 256 * i + 32 * j
abbrev SHP_CLEVEL (i : Nat) (j : Nat) : Nat := 0x1d0010 + 256 * i + 32 * j
abbrev SHP_PLEVEL (i : Nat) (j : Nat) : Nat := 0x1d0014 + 256 * i + 32 * j
abbrev SVC_STRAPS : Nat := 0x200000
abbrev SVC_PLAN_CTL : Nat := 0x200004
abbrev SVC_PLAN_MISSING : Nat := 0x200008
abbrev SVC_BEACON : Nat := 0x200010
abbrev SVC_BUTTON : Nat := 0x200014
abbrev SVC_ISOLATE : Nat := 0x200020
abbrev SVC_PROTECT : Nat := 0x200024
abbrev SVC_ISO_DONE : Nat := 0x200028
abbrev SVC_DRAIN_NS : Nat := 0x20002c
abbrev SVC_QUAR_DROP_CNT : Nat := 0x200030
abbrev SVC_BTN_REFUSE_CNT : Nat := 0x200034
abbrev SVC_PORT_CTL (i : Nat) : Nat := 0x210000 + 64 * i
abbrev SVC_PLAN_W0 (i : Nat) : Nat := 0x220000 + 32 * i
abbrev SVC_PLAN_W1 (i : Nat) : Nat := 0x220004 + 32 * i
abbrev SVC_PLAN_W2 (i : Nat) : Nat := 0x220008 + 32 * i
abbrev SVC_PLAN_W3 (i : Nat) : Nat := 0x22000c + 32 * i
abbrev SVC_PLAN_UID_W0 (i : Nat) : Nat := 0x220010 + 32 * i
abbrev SVC_PLAN_UID_W1 (i : Nat) : Nat := 0x220014 + 32 * i
abbrev SVC_PLAN_UID_W2 (i : Nat) : Nat := 0x220018 + 32 * i
abbrev SVC_PLAN_UID_W3 (i : Nat) : Nat := 0x22001c + 32 * i

end Reg

/-- The registers of block GLB (22 R551). -/
def regsGLB : List RegDesc :=
  [⟨0x0, [], 0xfffffff0, 0, 0, 0, 0, 0, 0x51200010, false⟩,
   ⟨0x4, [], 0xffffffff, 0, 0, 0, 0, 0, 0x4b4c4849, false⟩,
   ⟨0x8, [], 0xffffffff, 0, 0, 0, 0, 0, 0x1010301, false⟩,
   ⟨0xc, [], 0xfff80000, 0, 0, 0, 0, 0, 0, false⟩,
   ⟨0x10, [], 0, 0xffffffff, 0, 0, 0, 0, 0, false⟩,
   ⟨0x14, [], 0, 0xffffffff, 0, 0, 0, 0, 0, false⟩,
   ⟨0x18, [], 0, 0xffffffff, 0, 0, 0, 0, 0, false⟩,
   ⟨0x1c, [], 0, 0xffffffff, 0, 0, 0, 0, 0, false⟩,
   ⟨0x20, [], 0x40000000, 0x80000000, 0, 0, 0, 0, 0, false⟩,
   ⟨0x30, [], 0, 0xf, 0, 0, 0, 0, 0xf, false⟩,
   ⟨0x34, [], 0, 0, 0, 0x7, 0, 0, 0, false⟩,
   ⟨0x40, [(4, 4)], 0, 0xffffffff, 0, 0, 0, 0, 0, false⟩]

/-- The registers of block BOOT (19 R501). -/
def regsBOOT : List RegDesc :=
  [⟨0x10000, [], 0xffc0ff00, 0, 0, 0, 0, 0, 0, false⟩,
   ⟨0x10004, [], 0xffffffff, 0, 0, 0, 0, 0, 0, false⟩,
   ⟨0x10008, [], 0, 0xf, 0, 0, 0, 0, 0, false⟩,
   ⟨0x10010, [(4, 15)], 0xffffffff, 0, 0, 0, 0, 0, 0, false⟩,
   ⟨0x10050, [], 0xffffffff, 0, 0, 0, 0, 0, 0, false⟩,
   ⟨0x10054, [], 0xffffffff, 0, 0, 0, 0, 0, 0, false⟩]

/-- The registers of block FLT (18 R479). -/
def regsFLT : List RegDesc :=
  [⟨0x20000, [], 0, 0, 0xffffffff, 0, 0, 0, 0, false⟩,
   ⟨0x20004, [], 0, 0, 0xffffffff, 0, 0, 0, 0, false⟩,
   ⟨0x20010, [(4, 8)], 0xffffffff, 0, 0, 0, 0, 0, 0, false⟩,
   ⟨0x20030, [], 0xffffffff, 0, 0, 0, 0, 0, 0, false⟩,
   ⟨0x20034, [], 0xffffffff, 0, 0, 0, 0, 0, 0, false⟩,
   ⟨0x20040, [], 0x80000000, 0x70000000, 0, 0, 0, 0x8000000, 0x80000000, false⟩,
   ⟨0x20044, [], 0, 0xfffff, 0, 0, 0, 0, 0x7d0, false⟩,
   ⟨0x20048, [], 0, 0x3fff, 0, 0, 0, 0x80000000, 0x64, false⟩,
   ⟨0x2004c, [], 0xfc0fffff, 0, 0, 0, 0, 0, 0, false⟩,
   ⟨0x20050, [(4, 4)], 0xffffffff, 0, 0, 0, 0, 0, 0, false⟩,
   ⟨0x20060, [], 0, 0, 0, 0, 0xffffffff, 0, 0, false⟩,
   ⟨0x20064, [], 0, 0, 0, 0, 0xffffffff, 0, 0, false⟩,
   ⟨0x20068, [], 0, 0, 0, 0, 0xffffffff, 0, 0, false⟩,
   ⟨0x2006c, [], 0, 0, 0, 0, 0xffffffff, 0, 0, false⟩,
   ⟨0x20080, [], 0, 0x7fc001ff, 0, 0, 0, 0x80000000, 0x8000000, false⟩,
   ⟨0x20084, [], 0, 0xffffffff, 0, 0, 0, 0, 0, false⟩]

/-- The registers of block PWR (21 R540). -/
def regsPWR : List RegDesc :=
  [⟨0x30000, [], 0xfc000fcf, 0, 0, 0, 0, 0, 0, false⟩,
   ⟨0x30004, [], 0, 0xfcf, 0, 0, 0, 0, 0, false⟩,
   ⟨0x30008, [], 0, 0x7ff, 0, 0, 0, 0, 0x76c, false⟩,
   ⟨0x3000c, [], 0, 0, 0, 0, 0, 0x80000003, 0, false⟩,
   ⟨0x30010, [], 0, 0xff3f, 0, 0, 0, 0, 0, false⟩,
   ⟨0x30014, [], 0, 0xe0ffff00, 0, 0, 0, 0, 0x80558c00, false⟩,
   ⟨0x30018, [], 0, 0, 0, 0, 0x3, 0, 0, false⟩,
   ⟨0x30020, [(4, 3)], 0, 0xffffffff, 0, 0, 0, 0, 0, false⟩,
   ⟨0x30030, [(4, 3)], 0xffffffff, 0, 0, 0, 0, 0, 0, false⟩,
   ⟨0x30040, [], 0, 0, 0, 0, 0xffffffff, 0, 0, false⟩,
   ⟨0x30044, [], 0xfc00007f, 0, 0, 0, 0, 0, 0, false⟩,
   ⟨0x30048, [], 0, 0, 0, 0, 0xffffffff, 0, 0, false⟩,
   ⟨0x30050, [(4, 2)], 0xffffffff, 0, 0, 0, 0, 0, 0, false⟩,
   ⟨0x30058, [], 0xffffffff, 0, 0, 0, 0, 0, 0, false⟩]

/-- The registers of block SEC (20 R521). -/
def regsSEC : List RegDesc :=
  [⟨0x40000, [], 0xffff, 0, 0, 0, 0, 0, 0, false⟩,
   ⟨0x40004, [], 0x1c000000, 0, 0, 0, 0, 0xe0000007, 0, false⟩,
   ⟨0x40008, [], 0xffffffff, 0, 0, 0, 0, 0, 0, false⟩,
   ⟨0x4000c, [], 0xffffffff, 0, 0, 0, 0, 0, 0, false⟩,
   ⟨0x40010, [], 0, 0, 0, 0, 0xffffffff, 0, 0, false⟩,
   ⟨0x40020, [(4, 4)], 0xffffffff, 0, 0, 0, 0, 0, 0, false⟩,
   ⟨0x40040, [(4, 8)], 0, 0xffffffff, 0, 0, 0, 0, 0, false⟩,
   ⟨0x40060, [(4, 16)], 0, 0xffffffff, 0, 0, 0, 0, 0, false⟩,
   ⟨0x40100, [(32, 8), (4, 8)], 0xffffffff, 0, 0, 0, 0, 0, 0, false⟩,
   ⟨0x40400, [(4, 100)], 0xffffffff, 0, 0, 0, 0, 0, 0, false⟩,
   ⟨0x40300, [], 0, 0xffffffff, 0, 0, 0, 0, 0, false⟩,
   ⟨0x40304, [], 0, 0xffffffff, 0, 0, 0, 0, 0, false⟩,
   ⟨0x40308, [], 0, 0xffffffff, 0, 0, 0, 0, 0, false⟩,
   ⟨0x4030c, [], 0x7fffffff, 0, 0, 0, 0, 0x80000000, 0, false⟩,
   ⟨0x41000, [(4, 2048)], 0xffffffff, 0, 0, 0, 0, 0, 0, false⟩]

/-- The registers of block BST (19 R502). -/
def regsBST : List RegDesc :=
  [⟨0x50000, [], 0x3ff, 0xffc00, 0, 0, 0, 0, 0x14000, false⟩,
   ⟨0x50004, [], 0, 0x7f, 0, 0, 0, 0x80000000, 0, false⟩,
   ⟨0x50008, [], 0xf01fffff, 0, 0, 0, 0, 0, 0, false⟩,
   ⟨0x50010, [], 0xffffffff, 0, 0, 0, 0, 0, 0, false⟩,
   ⟨0x50014, [], 0xffffffff, 0, 0, 0, 0, 0, 0, false⟩,
   ⟨0x50018, [], 0, 0, 0, 0, 0xffffffff, 0, 0, false⟩,
   ⟨0x5001c, [], 0xffff007f, 0, 0, 0, 0, 0, 0, false⟩]

/-- The registers of block JNK (15 R420). -/
def regsJNK : List RegDesc :=
  [⟨0x60000, [], 0xc01f0003, 0, 0, 0, 0, 0, 0, false⟩,
   ⟨0x60004, [], 0, 0xffff, 0, 0, 0, 0, 0x32, false⟩,
   ⟨0x60010, [], 0, 0, 0, 0, 0xffffffff, 0, 0, false⟩,
   ⟨0x60014, [], 0, 0, 0, 0, 0xffffffff, 0, 0, false⟩,
   ⟨0x60018, [], 0, 0, 0, 0, 0xffffffff, 0, 0, false⟩,
   ⟨0x6001c, [], 0, 0, 0, 0, 0xffffffff, 0, 0, false⟩,
   ⟨0x60020, [], 0, 0, 0, 0, 0xffffffff, 0, 0, false⟩,
   ⟨0x60024, [], 0, 0, 0, 0, 0xffffffff, 0, 0, false⟩]

/-- The registers of block RNG (15 R421); the event fields of the module set are reserved (00 R4, log 54). -/
def regsRNG : List RegDesc :=
  [⟨0x70000, [], 0, 0, 0, 0, 0xffffffff, 0, 0, false⟩,
   ⟨0x70004, [], 0, 0, 0, 0, 0xffffffff, 0, 0, false⟩,
   ⟨0x70100, [], 0x7c000000, 0x80000000, 0, 0, 0, 0, 0, false⟩,
   ⟨0x71000, [(64, 64)], 0x7c000000, 0x80000000, 0, 0, 0, 0, 0, false⟩,
   ⟨0x70104, [], 0, 0x1f1f, 0, 0, 0, 0, 0x606, false⟩,
   ⟨0x71004, [(64, 64)], 0, 0x1f1f1f, 0, 0, 0, 0, 0x60606, false⟩,
   ⟨0x70108, [], 0, 0xffff, 0, 0, 0, 0, 0, false⟩,
   ⟨0x71008, [(64, 64)], 0, 0xffffffff, 0, 0, 0, 0, 0, false⟩,
   ⟨0x7010c, [], 0, 0xffff, 0, 0, 0, 0, 0, false⟩,
   ⟨0x7100c, [(64, 64)], 0, 0xffff, 0, 0, 0, 0, 0, false⟩,
   ⟨0x70110, [], 0, 0xffffffff, 0, 0, 0, 0, 0, false⟩,
   ⟨0x71010, [(64, 64)], 0, 0xffffffff, 0, 0, 0, 0, 0, false⟩,
   ⟨0x70114, [], 0, 0xffffffff, 0, 0, 0, 0, 0, false⟩,
   ⟨0x71014, [(64, 64)], 0, 0xffffffff, 0, 0, 0, 0, 0, false⟩,
   ⟨0x70118, [], 0, 0xffffffff, 0, 0, 0, 0, 0, false⟩,
   ⟨0x71018, [(64, 64)], 0, 0xffffffff, 0, 0, 0, 0, 0, false⟩,
   ⟨0x7011c, [], 0, 0xffffffff, 0, 0, 0, 0, 0, false⟩,
   ⟨0x7101c, [(64, 64)], 0, 0xffffffff, 0, 0, 0, 0, 0, false⟩,
   ⟨0x70120, [], 0, 0, 0, 0, 0, 0, 0, false⟩,
   ⟨0x71020, [(64, 64)], 0, 0xffffffff, 0, 0, 0, 0, 0, false⟩,
   ⟨0x70124, [], 0, 0, 0, 0, 0, 0, 0, false⟩,
   ⟨0x71024, [(64, 64)], 0, 0xffffffff, 0, 0, 0, 0, 0, false⟩,
   ⟨0x70128, [], 0, 0xffffffff, 0, 0, 0, 0, 0, false⟩,
   ⟨0x71028, [(64, 64)], 0, 0xffffffff, 0, 0, 0, 0, 0, false⟩,
   ⟨0x7012c, [], 0, 0xffffffff, 0, 0, 0, 0, 0, false⟩,
   ⟨0x7102c, [(64, 64)], 0, 0xffffffff, 0, 0, 0, 0, 0, false⟩,
   ⟨0x70130, [], 0xffffffff, 0, 0, 0, 0, 0, 0, false⟩,
   ⟨0x71030, [(64, 64)], 0xffffffff, 0, 0, 0, 0, 0, 0, false⟩,
   ⟨0x70134, [], 0xffffffff, 0, 0, 0, 0, 0, 0, false⟩,
   ⟨0x71034, [(64, 64)], 0xffffffff, 0, 0, 0, 0, 0, 0, false⟩,
   ⟨0x70138, [], 0, 0, 0, 0, 0, 0, 0, false⟩,
   ⟨0x71038, [(64, 64)], 0xffffffff, 0, 0, 0, 0, 0, 0, false⟩,
   ⟨0x7013c, [], 0, 0, 0, 0, 0, 0, 0, false⟩,
   ⟨0x7103c, [(64, 64)], 0, 0, 0, 0, 0xffffffff, 0, 0, false⟩]

/-- The registers of block GRP (03 R89). -/
def regsGRP : List RegDesc :=
  [⟨0x80000, [(4, 2)], 0xffff3fff, 0, 0, 0, 0, 0, 0x40003000, false⟩,
   ⟨0x80008, [], 0x7ffff, 0, 0, 0, 0, 0, 0x40000, false⟩,
   ⟨0x80010, [], 0, 0, 0, 0, 0xffffffff, 0, 0, false⟩,
   ⟨0x80014, [], 0, 0, 0, 0, 0xffffffff, 0, 0, false⟩,
   ⟨0x80018, [], 0, 0, 0, 0, 0xffffffff, 0, 0, false⟩,
   ⟨0x80100, [(4, 64)], 0, 0xffff7fff, 0, 0, 0, 0, 0x80006000, false⟩]

/-- The registers of block RED (04 R121). -/
def regsRED : List RegDesc :=
  [⟨0x90000, [], 0, 0, 0, 0, 0xffffffff, 0, 0, false⟩,
   ⟨0x90004, [], 0, 0, 0, 0, 0xffffffff, 0, 0, false⟩,
   ⟨0x90008, [], 0, 0, 0, 0, 0xffffffff, 0, 0, false⟩,
   ⟨0x9000c, [], 0, 0, 0, 0, 0xffffffff, 0, 0, false⟩,
   ⟨0x90010, [], 0, 0, 0, 0, 0xffffffff, 0, 0, false⟩,
   ⟨0x90014, [], 0, 0, 0, 0, 0xffffffff, 0, 0, false⟩,
   ⟨0x90020, [(4, 2)], 0, 0, 0, 0, 0xffff, 0, 0, false⟩,
   ⟨0x90028, [(4, 2)], 0x3fff, 0, 0, 0, 0, 0, 0, false⟩]

/-- The registers of block ENG (05 R150). -/
def regsENG : List RegDesc :=
  [⟨0xa0000, [], 0xff, 0, 0, 0, 0, 0, 0x1, false⟩,
   ⟨0xa0004, [], 0xffffffff, 0, 0, 0, 0, 0, 0, false⟩,
   ⟨0xa0008, [], 0xffff, 0, 0, 0, 0, 0, 0, false⟩,
   ⟨0xa0010, [(4, 2)], 0xfffff, 0, 0, 0, 0, 0, 0, false⟩,
   ⟨0xa0018, [], 0, 0, 0, 0, 0, 0x3f, 0, false⟩,
   ⟨0xa0020, [], 0, 0, 0, 0, 0xffffffff, 0, 0, false⟩,
   ⟨0xa0024, [], 0, 0, 0, 0, 0xffffffff, 0, 0, false⟩,
   ⟨0xa0028, [], 0, 0, 0, 0, 0xffffffff, 0, 0, false⟩,
   ⟨0xa0040, [(4, 8)], 0x7fff, 0, 0, 0, 0, 0, 0x7fff, false⟩]

/-- The registers of block LAY (06 R181). -/
def regsLAY : List RegDesc :=
  [⟨0xb0000, [], 0, 0, 0, 0, 0xffffffff, 0, 0, false⟩,
   ⟨0xb0004, [], 0, 0, 0, 0, 0xffffffff, 0, 0, false⟩,
   ⟨0xb0008, [], 0, 0, 0, 0, 0xffffffff, 0, 0, false⟩,
   ⟨0xb000c, [], 0, 0, 0, 0, 0xffffffff, 0, 0, false⟩,
   ⟨0xb0020, [(4, 4)], 0xfffffe00, 0, 0, 0, 0, 0, 0, false⟩]

/-- The registers of block FMM (07 R210). -/
def regsFMM : List RegDesc :=
  [⟨0xc0000, [], 0, 0, 0, 0, 0xffffffff, 0, 0, false⟩,
   ⟨0xc0004, [], 0, 0, 0, 0, 0xffffffff, 0, 0, false⟩,
   ⟨0xc0008, [], 0, 0, 0, 0, 0xffffffff, 0, 0, false⟩,
   ⟨0xc000c, [], 0, 0, 0, 0, 0xffffffff, 0, 0, false⟩,
   ⟨0xc0010, [], 0, 0, 0xffffffff, 0, 0, 0, 0, false⟩,
   ⟨0xc0014, [], 0, 0, 0xffffffff, 0, 0, 0, 0, false⟩,
   ⟨0xc0018, [], 0xff, 0, 0, 0, 0, 0, 0, false⟩,
   ⟨0xc001c, [], 0, 0, 0, 0, 0, 0xff, 0, false⟩,
   ⟨0xc0100, [(4, 64)], 0, 0xffffff, 0, 0, 0, 0, 0, false⟩,
   ⟨0xc0200, [(4, 64)], 0xffffff, 0, 0, 0, 0, 0, 0, false⟩]

/-- The registers of block BPM (07 R209). -/
def regsBPM : List RegDesc :=
  [⟨0xd0000, [], 0x6, 0, 0, 0, 0, 0x1, 0x4, false⟩,
   ⟨0xd0004, [], 0, 0x3f, 0, 0, 0, 0, 0x8, false⟩,
   ⟨0xd0010, [(4, 2)], 0x7ffff, 0, 0, 0, 0, 0, 0x40000, false⟩,
   ⟨0xd0020, [], 0, 0, 0, 0, 0xffffffff, 0, 0, false⟩,
   ⟨0xd0024, [], 0, 0, 0, 0, 0xffffffff, 0, 0, false⟩,
   ⟨0xd0028, [], 0, 0, 0, 0, 0xffffffff, 0, 0, false⟩,
   ⟨0xd0030, [], 0, 0, 0x3f, 0, 0, 0, 0, false⟩,
   ⟨0xd0040, [(8, 8)], 0, 0xfffff, 0, 0, 0, 0, 0, false⟩,
   ⟨0xd0044, [(8, 8)], 0, 0xfffff, 0, 0, 0, 0, 0, false⟩,
   ⟨0xd0080, [(4, 8)], 0xffffff, 0, 0, 0, 0, 0, 0x200000, false⟩,
   ⟨0xd00a0, [(4, 8)], 0xffffff, 0, 0, 0, 0, 0, 0, false⟩]

/-- The registers of block DGT (08 R235). -/
def regsDGT : List RegDesc :=
  [⟨0xe0000, [], 0xffffffff, 0, 0, 0, 0, 0, 0, false⟩,
   ⟨0xe0004, [], 0xffffffff, 0, 0, 0, 0, 0, 0, false⟩,
   ⟨0xe0008, [], 0xffffffff, 0, 0, 0, 0, 0, 0, false⟩,
   ⟨0xe000c, [], 0xffffffff, 0, 0, 0, 0, 0, 0, false⟩,
   ⟨0xe0010, [], 0xffffffff, 0, 0, 0, 0, 0, 0, false⟩,
   ⟨0xe0020, [], 0x700, 0x3f, 0, 0, 0, 0x80, 0, false⟩,
   ⟨0xe0024, [], 0x7ff, 0, 0, 0, 0, 0, 0, false⟩,
   ⟨0xe0028, [], 0x80000000, 0x1fff, 0, 0, 0, 0, 0, false⟩,
   ⟨0xe0030, [(4, 8)], 0xffffffff, 0, 0, 0, 0, 0, 0, false⟩,
   ⟨0xe0100, [(32, 4), (4, 8)], 0, 0xffffffff, 0, 0, 0, 0, 0, false⟩,
   ⟨0xe0200, [(32, 4), (4, 8)], 0xffffffff, 0, 0, 0, 0, 0, 0, false⟩,
   ⟨0xe0300, [(16, 4)], 0, 0x8000001f, 0, 0, 0, 0, 0, false⟩,
   ⟨0xe0304, [(16, 4)], 0, 0xffffffff, 0, 0, 0, 0, 0, false⟩,
   ⟨0xe0308, [(16, 4)], 0, 0xffffffff, 0, 0, 0, 0, 0, false⟩,
   ⟨0xe0400, [(32, 64), (4, 8)], 0xffffffff, 0, 0, 0, 0, 0, 0, false⟩]

/-- The registers of block ECC (17 R460). -/
def regsECC : List RegDesc :=
  [⟨0xf0000, [], 0, 0, 0, 0, 0xffffffff, 0, 0, false⟩,
   ⟨0xf0004, [], 0, 0, 0, 0, 0xffffffff, 0, 0, false⟩,
   ⟨0xf0008, [], 0, 0, 0, 0, 0xffffffff, 0, 0, false⟩,
   ⟨0xf000c, [], 0, 0, 0, 0, 0xffffffff, 0, 0, false⟩,
   ⟨0xf0010, [], 0x1ff, 0x40000000, 0, 0, 0, 0x80000000, 0, false⟩,
   ⟨0xf0014, [(4, 4)], 0xffffffff, 0, 0, 0, 0, 0, 0, false⟩,
   ⟨0xf0030, [], 0xff, 0, 0, 0, 0, 0, 0, false⟩,
   ⟨0xf0034, [], 0, 0, 0, 0, 0, 0xff, 0, false⟩,
   ⟨0xf0038, [], 0xffffffff, 0, 0, 0, 0, 0, 0, false⟩,
   ⟨0xf003c, [], 0, 0, 0, 0, 0, 0xffffffff, 0, false⟩,
   ⟨0xf0040, [], 0, 0xc7ffffff, 0, 0, 0, 0, 0, false⟩,
   ⟨0xf0044, [], 0x300007ff, 0, 0, 0, 0, 0xc0000000, 0, false⟩,
   ⟨0xf1000, [(16, 32), (4, 4)], 0, 0xffffffff, 0, 0, 0, 0, 0, false⟩,
   ⟨0xf2000, [(64, 8), (4, 16)], 0, 0xc03fffff, 0, 0, 0, 0, 0, false⟩]

/-- The registers of block RTE (13 R369). -/
def regsRTE : List RegDesc :=
  [⟨0x100000, [], 0, 0x9, 0, 0, 0, 0x4, 0, false⟩,
   ⟨0x100004, [], 0xe007ffff, 0, 0, 0, 0x10000000, 0, 0, false⟩,
   ⟨0x100008, [], 0x7ffff, 0, 0, 0, 0, 0, 0, false⟩,
   ⟨0x10000c, [], 0xfffff, 0, 0, 0, 0, 0, 0, false⟩,
   ⟨0x100010, [], 0, 0xffffff, 0, 0, 0, 0, 0x2710, false⟩,
   ⟨0x100014, [], 0, 0xffffff, 0, 0, 0, 0, 0x4e20, false⟩,
   ⟨0x100020, [], 0, 0, 0, 0, 0xffffffff, 0, 0, false⟩,
   ⟨0x100024, [], 0, 0, 0, 0, 0xffffffff, 0, 0, false⟩,
   ⟨0x100028, [], 0, 0, 0, 0, 0xffffffff, 0, 0, false⟩,
   ⟨0x10002c, [], 0, 0, 0, 0, 0xffffffff, 0, 0, false⟩,
   ⟨0x100030, [], 0, 0, 0, 0, 0xffffffff, 0, 0, false⟩,
   ⟨0x100040, [(4, 16)], 0, 0xffffffff, 0, 0, 0, 0, 0, false⟩,
   ⟨0x100080, [], 0, 0x1ffff, 0, 0, 0, 0, 0, false⟩,
   ⟨0x100084, [(4, 4)], 0xffffffff, 0, 0, 0, 0, 0, 0, false⟩]

/-- The registers of block TIM (09 R258). -/
def regsTIM : List RegDesc :=
  [⟨0x120000, [], 0xffffffff, 0, 0, 0, 0, 0, 0, false⟩,
   ⟨0x120004, [], 0xffffffff, 0, 0, 0, 0, 0, 0, false⟩,
   ⟨0x120008, [], 0xffff, 0, 0, 0, 0, 0, 0, false⟩,
   ⟨0x120010, [], 0, 0x7ff07ff, 0, 0, 0, 0x80000000, 0x4000000, false⟩,
   ⟨0x120014, [], 0x7, 0, 0, 0, 0, 0, 0, false⟩,
   ⟨0x120018, [], 0xffffffff, 0, 0, 0, 0, 0, 0, false⟩,
   ⟨0x12001c, [], 0, 0x7fffff, 0, 0, 0, 0, 0x1903e8, false⟩,
   ⟨0x120020, [], 0, 0xffffffff, 0, 0, 0, 0, 0, false⟩,
   ⟨0x120024, [], 0, 0xffffffff, 0, 0, 0, 0, 0, false⟩,
   ⟨0x120028, [], 0, 0xffffffff, 0, 0, 0, 0, 0, false⟩,
   ⟨0x12002c, [], 0, 0, 0, 0, 0xffffffff, 0, 0, false⟩,
   ⟨0x120040, [], 0x33ffe000, 0x80001fff, 0, 0x40000000, 0, 0, 0, false⟩,
   ⟨0x120044, [], 0, 0xffffffff, 0, 0, 0, 0, 0, false⟩,
   ⟨0x120048, [], 0, 0xffffffff, 0, 0, 0, 0, 0, false⟩,
   ⟨0x12004c, [], 0, 0xffffffff, 0, 0, 0, 0, 0, false⟩,
   ⟨0x120050, [], 0, 0xffffffff, 0, 0, 0, 0, 0, false⟩,
   ⟨0x120054, [], 0xffffffff, 0, 0, 0, 0, 0, 0, false⟩,
   ⟨0x120080, [(4, 16)], 0, 0xffffffff, 0, 0, 0, 0, 0, false⟩,
   ⟨0x128000, [(4, 8192)], 0, 0xffffffff, 0, 0, 0, 0, 0, false⟩,
   ⟨0x130000, [(4, 8192)], 0, 0xffffffff, 0, 0, 0, 0, 0, false⟩]

/-- The registers of block LNE (11 R327). -/
def regsLNE : List RegDesc :=
  [⟨0x140000, [], 0, 0xffff, 0, 0, 0, 0, 0x3464, false⟩,
   ⟨0x140004, [], 0, 0, 0, 0, 0xffffffff, 0, 0, false⟩,
   ⟨0x140008, [], 0x3ffff, 0, 0, 0, 0, 0, 0, false⟩,
   ⟨0x14000c, [], 0x1ff, 0, 0x80000000, 0, 0, 0, 0, false⟩,
   ⟨0x150000, [(64, 512)], 0, 0x3ffb, 0, 0, 0, 0, 0x61, false⟩,
   ⟨0x150004, [(64, 512)], 0, 0x3, 0, 0, 0, 0xf0, 0, false⟩,
   ⟨0x150008, [(64, 512)], 0xffff0003, 0, 0, 0, 0, 0, 0x3, false⟩,
   ⟨0x15000c, [(64, 512)], 0xffffffff, 0, 0, 0, 0, 0, 0, false⟩,
   ⟨0x150010, [(64, 512)], 0xffffffff, 0, 0, 0, 0, 0, 0, false⟩,
   ⟨0x150014, [(64, 512)], 0, 0, 0, 0, 0xffffffff, 0, 0, false⟩,
   ⟨0x150018, [(64, 512)], 0, 0, 0, 0, 0xffffffff, 0, 0, false⟩,
   ⟨0x15001c, [(64, 512)], 0, 0, 0, 0, 0xffffffff, 0, 0, false⟩,
   ⟨0x150020, [(64, 512)], 0, 0, 0, 0, 0xffffffff, 0, 0, false⟩,
   ⟨0x150024, [(64, 512)], 0, 0, 0, 0, 0xffff, 0, 0, false⟩,
   ⟨0x150028, [(64, 512)], 0xffff, 0, 0, 0, 0, 0, 0, false⟩,
   ⟨0x15002c, [(64, 512)], 0x800000, 0xf7f0000, 0, 0, 0, 0x80000000, 0x80000, false⟩,
   ⟨0x150030, [(64, 512)], 0, 0, 0, 0, 0xffffffff, 0, 0, false⟩,
   ⟨0x150034, [(64, 512)], 0, 0, 0, 0, 0xffffffff, 0, 0, false⟩]

/-- The registers of block TRL (10 R290). -/
def regsTRL : List RegDesc :=
  [⟨0x160000, [], 0xffff, 0, 0, 0, 0, 0, 0x301, false⟩,
   ⟨0x160010, [], 0, 0, 0, 0, 0xffffffff, 0, 0, false⟩,
   ⟨0x160014, [], 0, 0, 0, 0, 0xffffffff, 0, 0, false⟩,
   ⟨0x160018, [], 0, 0, 0, 0, 0xffffffff, 0, 0, false⟩,
   ⟨0x16001c, [], 0, 0, 0, 0, 0xffffffff, 0, 0, false⟩,
   ⟨0x160020, [], 0, 0x80000000, 0, 0, 0, 0, 0, false⟩,
   ⟨0x160024, [], 0, 0xffffffff, 0, 0, 0, 0, 0, false⟩,
   ⟨0x160028, [], 0, 0xffffffff, 0, 0, 0, 0, 0, false⟩,
   ⟨0x170000, [(64, 512)], 0, 0x3fff, 0, 0, 0, 0, 0, true⟩,
   ⟨0x170004, [(64, 512)], 0xffffff03, 0, 0, 0, 0, 0, 0, true⟩,
   ⟨0x170008, [(64, 512)], 0, 0, 0, 0, 0xffffffff, 0, 0, true⟩,
   ⟨0x17000c, [(64, 512)], 0, 0, 0, 0, 0xffffffff, 0, 0, true⟩,
   ⟨0x170010, [(64, 512)], 0, 0, 0, 0, 0xffffffff, 0, 0, true⟩,
   ⟨0x170014, [(64, 512)], 0xffffffff, 0, 0, 0, 0, 0, 0, true⟩,
   ⟨0x170018, [(64, 512)], 0xffffffff, 0, 0, 0, 0, 0, 0, true⟩,
   ⟨0x17001c, [(64, 512)], 0xffffffff, 0, 0, 0, 0, 0, 0, true⟩,
   ⟨0x170020, [(64, 512)], 0xffffffff, 0, 0, 0, 0, 0, 0, true⟩,
   ⟨0x170024, [(64, 512)], 0xffffff80, 0, 0, 0, 0, 0, 0, true⟩,
   ⟨0x170028, [(64, 512)], 0x3ffff, 0, 0, 0, 0, 0, 0, true⟩,
   ⟨0x17002c, [(64, 512)], 0, 0xfffff, 0, 0, 0, 0, 0x80010, true⟩,
   ⟨0x170030, [(64, 512)], 0, 0x7f0007ff, 0, 0, 0, 0x80000000, 0, true⟩,
   ⟨0x170034, [(64, 512)], 0, 0xffff, 0, 0, 0, 0, 0, true⟩]

/-- The registers of block SWC (12 R349). -/
def regsSWC : List RegDesc :=
  [⟨0x180000, [], 0, 0xffffffff, 0, 0, 0, 0, 0, false⟩,
   ⟨0x180004, [], 0, 0xffffff, 0, 0, 0, 0, 0x2710, false⟩,
   ⟨0x180008, [], 0, 0x3ffff, 0, 0, 0, 0, 0x8000, false⟩,
   ⟨0x18000c, [], 0, 0x3ffff, 0, 0, 0, 0, 0x2000, false⟩,
   ⟨0x180010, [(4, 2)], 0x7ffff, 0, 0, 0, 0, 0, 0, false⟩,
   ⟨0x180018, [], 0, 0x3ffff, 0, 0, 0, 0, 0x4000, false⟩,
   ⟨0x18001c, [], 0, 0x3ffff, 0, 0, 0, 0, 0x800, false⟩,
   ⟨0x180020, [], 0, 0x3ffff, 0, 0, 0, 0, 0x100, false⟩,
   ⟨0x180040, [], 0, 0, 0, 0, 0xffffffff, 0, 0, false⟩,
   ⟨0x180044, [], 0, 0, 0, 0, 0xffffffff, 0, 0, false⟩,
   ⟨0x180048, [], 0, 0, 0, 0, 0xffffffff, 0, 0, false⟩,
   ⟨0x18004c, [], 0, 0, 0, 0, 0xffffffff, 0, 0, false⟩,
   ⟨0x180050, [], 0, 0, 0, 0, 0xffffffff, 0, 0, false⟩,
   ⟨0x180054, [], 0, 0, 0, 0, 0xffffffff, 0, 0, false⟩,
   ⟨0x180058, [], 0, 0, 0, 0, 0xffffffff, 0, 0, false⟩,
   ⟨0x190000, [(32, 512), (4, 8)], 0, 0xffff1fff, 0, 0, 0, 0, 0, true⟩,
   ⟨0x1a0000, [(32, 512), (4, 8)], 0xffffdfff, 0, 0, 0, 0, 0, 0, true⟩]

/-- The registers of block SHP (14 R384). -/
def regsSHP : List RegDesc :=
  [⟨0x1c0000, [], 0, 0, 0, 0, 0xffffffff, 0, 0, false⟩,
   ⟨0x1c8000, [(8, 512)], 0, 0xffffffff, 0, 0, 0, 0, 0x4040101, true⟩,
   ⟨0x1c8004, [(8, 512)], 0, 0xffffffff, 0, 0, 0, 0, 0x1010202, true⟩,
   ⟨0x1d0000, [(256, 512), (32, 8)], 0, 0xc000003f, 0, 0, 0, 0, 0, true⟩,
   ⟨0x1d0004, [(256, 512), (32, 8)], 0, 0xffffffff, 0, 0, 0, 0, 0, true⟩,
   ⟨0x1d0008, [(256, 512), (32, 8)], 0, 0xffffff, 0, 0, 0, 0, 0x109f, true⟩,
   ⟨0x1d000c, [(256, 512), (32, 8)], 0, 0xffffff, 0, 0, 0, 0, 0x109f, true⟩,
   ⟨0x1d0010, [(256, 512), (32, 8)], 0xffffff, 0, 0, 0, 0, 0, 0x109f, true⟩,
   ⟨0x1d0014, [(256, 512), (32, 8)], 0xffffff, 0, 0, 0, 0, 0, 0x109f, true⟩]

/-- The registers of block SVC (16 R443). -/
def regsSVC : List RegDesc :=
  [⟨0x200000, [], 0x3ffff, 0, 0, 0, 0, 0, 0, false⟩,
   ⟨0x200004, [], 0x40000000, 0x8000ffff, 0, 0, 0, 0, 0x800003e8, false⟩,
   ⟨0x200008, [], 0x3ff, 0, 0, 0, 0, 0, 0, false⟩,
   ⟨0x200010, [], 0x500003e0, 0xa000001f, 0, 0, 0, 0, 0, false⟩,
   ⟨0x200014, [], 0, 0, 0, 0, 0xffffff00, 0, 0, false⟩,
   ⟨0x200020, [], 0, 0xffffffff, 0, 0, 0, 0, 0, false⟩,
   ⟨0x200024, [], 0, 0xffffffff, 0, 0, 0, 0, 0, false⟩,
   ⟨0x200028, [], 0xffffffff, 0, 0, 0, 0, 0, 0, false⟩,
   ⟨0x20002c, [], 0, 0xffffff, 0, 0, 0, 0, 0x186a0, false⟩,
   ⟨0x200030, [], 0, 0, 0, 0, 0xffffffff, 0, 0, false⟩,
   ⟨0x200034, [], 0, 0, 0, 0, 0xffffffff, 0, 0, false⟩,
   ⟨0x210000, [(64, 512)], 0x787, 0x20000000, 0, 0, 0, 0xc0000000, 0, true⟩,
   ⟨0x220000, [(32, 512)], 0, 0xf8000000, 0, 0, 0, 0, 0, true⟩,
   ⟨0x220004, [(32, 512)], 0, 0xffff01ff, 0, 0, 0, 0, 0, true⟩,
   ⟨0x220008, [(32, 512)], 0, 0x3ffff, 0, 0, 0, 0, 0, true⟩,
   ⟨0x22000c, [(32, 512)], 0, 0, 0, 0, 0, 0, 0, true⟩,
   ⟨0x220010, [(32, 512)], 0, 0xffffffff, 0, 0, 0, 0, 0, true⟩,
   ⟨0x220014, [(32, 512)], 0, 0xffffffff, 0, 0, 0, 0, 0, true⟩,
   ⟨0x220018, [(32, 512)], 0, 0xffffffff, 0, 0, 0, 0, 0, true⟩,
   ⟨0x22001c, [(32, 512)], 0, 0xffffffff, 0, 0, 0, 0, 0, true⟩]

/-- The blocks of the configuration window in address order: the offset at which a block ends, and its registers (22 R551). -/
def regBlocks : List (Nat × List RegDesc) :=
  [(0x10000, regsGLB),
   (0x20000, regsBOOT),
   (0x30000, regsFLT),
   (0x40000, regsPWR),
   (0x50000, regsSEC),
   (0x60000, regsBST),
   (0x70000, regsJNK),
   (0x80000, regsRNG),
   (0x90000, regsGRP),
   (0xa0000, regsRED),
   (0xb0000, regsENG),
   (0xc0000, regsLAY),
   (0xd0000, regsFMM),
   (0xe0000, regsBPM),
   (0xf0000, regsDGT),
   (0x100000, regsECC),
   (0x120000, regsRTE),
   (0x140000, regsTIM),
   (0x160000, regsLNE),
   (0x180000, regsTRL),
   (0x1c0000, regsSWC),
   (0x200000, regsSHP),
   (0x400000, regsSVC)]

/-- `x`, a distance from the base, is the distance of an element of the array with these dimensions. -/
def dimsCover : List (Nat × Nat) → Nat → Bool
  | [], x => x == 0
  | (st, n) :: t, x => decide (x / st < n) && dimsCover t (x % st)

/-- Register descriptor `d` covers window offset `off`. -/
def RegDesc.covers (d : RegDesc) (off : Nat) : Bool :=
  decide (d.base ≤ off) && dimsCover d.dims (off - d.base)

/-- The descriptor of the register at window offset `off`, if there is one. -/
def regDesc? (off : Nat) : Option RegDesc :=
  match regBlocks.find? (fun b => decide (off < b.1)) with
  | some b => b.2.find? (fun d => d.covers off)
  | none => none

/-- The reset value of the register at `off`; 0 where there is no register. -/
def regReset (off : Nat) : Word :=
  match regDesc? off with
  | some d => BitVec.ofNat 32 d.reset
  | none => 0

end Sys2Proof.Machine
end

