-- ==== Sys2Proof/Machine/Ops.lean ====
section
/-! DEFINITION. Ops.lean: the named operations over the machine: how a command's meaning acts on the state, reading and
writing registers, counting, free values, fabric time, the output log, ring records and events, error pins and safe
state. -/
namespace Sys2Proof.Machine

/-! ### How a meaning acts on the state -/

/-- A command that changes the machine and may read the memories. -/
def State.runM (s : State) (f : Store → Mach → Mach) : Host.Outcome State Fault Refusal :=
  .next { s with mach := f s.store s.mach }

/-- A command that changes the machine and the memories. -/
def State.runMS (s : State) (f : Store → Mach → Mach × Store) : Host.Outcome State Fault Refusal :=
  .next { s with mach := (f s.store s.mach).1, store := (f s.store s.mach).2 }

/-! ### Registers -/

/-- The word a register holds. -/
def Mach.rd (m : Mach) (off : Nat) : Word := sget regReset m.regs off

/-- Set the word a register holds. -/
def Mach.wr (m : Mach) (off : Nat) (v : Word) : Mach := { m with regs := sput regReset m.regs off v }

/-- Bits hi to lo of a register. -/
def Mach.fld (m : Mach) (off hi lo : Nat) : Nat := bits (m.rd off).toNat hi lo

/-- Set bits hi to lo of a register. -/
def Mach.setFld (m : Mach) (off hi lo v : Nat) : Mach :=
  m.wr off (BitVec.ofNat 32 (setBits (m.rd off).toNat hi lo v))

/-- Bit i of a register. -/
def Mach.flag (m : Mach) (off i : Nat) : Bool := bitOf (m.rd off).toNat i

/-- Set bit i of a register. -/
def Mach.setFlag (m : Mach) (off i : Nat) (b : Bool) : Mach := m.setFld off i i (b2n b)

/-- Count `n` events in a 32-bit counter that saturates at 0xFFFF_FFFF. -/
def Mach.countN (m : Mach) (off n : Nat) : Mach :=
  m.wr off (BitVec.ofNat 32 (satAdd 0xFFFFFFFF (m.rd off).toNat n))

/-- Count one event. -/
def Mach.count (m : Mach) (off : Nat) : Mach := m.countN off 1

/-- Put every register back to its reset value in a range of offsets. -/
def Mach.clearRegs (m : Mach) (lo hi : Nat) : Mach := { m with regs := sclear m.regs lo hi }

/-- A 64-bit value held in a LO and a HI register (22 R549). -/
def Mach.rd64 (m : Mach) (lo hi : Nat) : Nat := (m.rd lo).toNat + 2 ^ 32 * (m.rd hi).toNat

/-! ### Free values (log 6) -/

/-- The next free value of `w` bits, and the machine that has drawn it. -/
def Mach.draw (m : Mach) (w : Nat) : Nat × Mach :=
  (Config.freeValue m.free % 2 ^ w, { m with free := m.free + 1 })

/-! ### Output and fabric time -/

/-- Append to the output log. -/
def Mach.emit (m : Mach) (o : Out) : Mach := { m with out := m.out ++ [o] }

/-- One nanosecond in units of the fabric-time accumulator: 2^16 × 10^6 (09 R237). -/
def nsUnit : Nat := 65536000000

/-- NS, whole nanoseconds of fabric time (09 R237). -/
def Mach.now (m : Mach) : Nat := m.time.acc / nsUnit % 2 ^ 64

/-- Whole nanoseconds by which fabric time has advanced, steps excluded: what intervals are measured in (09 R247). -/
def Mach.advNs (m : Mach) : Nat := m.time.adv / nsUnit

/-- Low 32 bits of NS, the stamp of records (09 R238). -/
def Mach.now32 (m : Mach) : Nat := m.now % 2 ^ 32

/-- FRAC, the fraction in units of 2^-16 ns (09 R237). -/
def Mach.frac (m : Mach) : Nat := m.time.acc % nsUnit / 1000000

/-! ### Conditions of the whole module -/

/-- Bring-up stage reached (19 R501). -/
def Mach.stage (m : Mach) : Nat := m.fld Reg.BOOT_STATUS 31 28

/-- Module state 0 to 3 (21 R530). -/
def Mach.mstate (m : Mach) : Nat := m.fld Reg.PWR_STATUS 31 30

/-- Halted in bring-up (19 R485). -/
def Mach.halted (m : Mach) : Bool := m.flag Reg.BOOT_STATUS 22

/-- The module is out of reset, not in safe state, and awake. -/
def Mach.awake (m : Mach) : Bool :=
  !m.boot.resetN && !m.boot.warmN && !m.flt.safe && !m.pwr.lost && decide (m.mstate ≤ 1) &&
    m.pwr.entering.all fun e => decide (e.step < 4)

/-- The data path runs: tables cleared at B7 (19 R481), no halt (R485). -/
def Mach.running (m : Mach) : Bool := m.awake && !m.halted && decide (8 ≤ m.stage)

/-- A meaning that acts only while the data path runs (log 16). -/
def Mach.whenRunning (m : Mach) (f : Mach → Mach) : Mach := if m.running then f m else m

/-- Power domain Dn is off (21 R524). -/
def Mach.domainOff (m : Mach) (d : Nat) : Bool := m.flag (Reg.PWR_DOMAIN_STAT_W (d / 32)) (d % 32)

/-- The feature enables of 22 R553. -/
def Mach.feature (m : Mach) (bit : Nat) : Bool := m.flag Reg.GLB_FEAT_EN bit

/-! ### Jionuk messages and ring registers (15) -/

/-- The Jionuk link is up. -/
def Mach.jnkUp (m : Mach) : Bool := m.flag Reg.JNK_STATUS 31

/-- Register at set offset k of a ring set; set 64 is the module set (15 R421). -/
def ringReg (set k : Nat) : Nat := if set = 64 then 0x70100 + k else 0x71000 + 64 * set + k

/-- EN of a ring set. -/
def Mach.ringEn (m : Mach) (set : Nat) : Bool := m.flag (ringReg set 0) 31

/-- A ring set that is enabled and not halted takes and writes entries (15 R408). -/
def Mach.ringOpen (m : Mach) (set : Nat) : Bool := m.ringEn set && !m.flag (ringReg set 0) 30

/-- What a ring set holds beside its registers. -/
def Mach.ring (m : Mach) (set : Nat) : RingSt := (m.jnk.rings.find? fun r => r.set == set).getD { set := set }

/-- Replace what a ring set holds. -/
def Mach.setRing (m : Mach) (r : RingSt) : Mach :=
  { m with jnk := { m.jnk with rings := r :: m.jnk.rings.filter fun x => x.set != r.set } }

/-- Entries of a ring: `f` is 0 for the command ring, 1 for the completion ring, 2 for the event ring (15 R402). -/
def Mach.ringSize (m : Mach) (set f : Nat) : Nat := 2 ^ m.fld (ringReg set 4) (8 * f + 4) (8 * f)

/-- The slots of a message: the header, and four data slots when it has data (15 R389). -/
def JnkMsg.slots (x : JnkMsg) : List Byte :=
  let ch := if x.opc < 0x10 then 0 else if x.opc < 0x20 then 1 else 2
  leBytes 4 (ch * 2 ^ 30 + x.opc * 2 ^ 24 + x.tag % 4096 * 2 ^ 12 + x.status * 2 ^ 5 + (if x.data.isEmpty then 0 else 2 ^ 4)) ++
    leBytes 8 x.addr ++ leBytes 4 x.value ++ (if x.data.isEmpty then [] else (x.data ++ List.replicate 64 0).take 64)

/-- Send a Jionuk message, in a DATA flit of its own (15 R387, log 70). -/
def Mach.sendJnk (m : Mach) (x : JnkMsg) : Mach :=
  let ack := Config.jnkAck m.jnk.txSeq
  { (m.emit (.jnk x)).emit (.jnkFlit (jnkFlit m.jnk.txSeq ack.2.toNat ack.1 x.slots)) with
    jnk := { m.jnk with txSeq := (m.jnk.txSeq + 1) % 4096 } }

/-- The lowest tag no outstanding request holds (log 22). -/
def freeTag (l : List JnkReq) : Nat :=
  ((List.range (l.length + 1)).find? fun t => l.all fun r => r.tag != t).getD 0

/-- Send a Jionuk request and remember it until it is answered (15 R396). -/
def Mach.jnkReq (m : Mach) (opc addr : Nat) (data : List Byte) (why : JnkWhy) : Mach :=
  let tag := freeTag m.jnk.reqs
  let m1 := m.sendJnk { opc := opc, tag := tag, addr := addr, data := data }
  { m1 with jnk := { m1.jnk with reqs := m1.jnk.reqs ++ [{ tag := tag, opc := opc, addr := addr, why := why, at_ := m.aon }] } }

/-- Answer a companion request (15 R390). -/
def Mach.jnkRsp (m : Mach) (opc tag addr value : Nat) (data : List Byte) : Mach :=
  m.sendJnk { opc := opc, tag := tag, addr := addr, value := value, data := data }

/-- Answer a companion request with ERR (15 R393). -/
def Mach.jnkErrRsp (m : Mach) (tag addr : Nat) (st : Status) : Mach :=
  m.sendJnk { opc := 0x3F, tag := tag, addr := addr, status := statusCode st }

/-! ### Report records (15 R413 to R415) -/

/-- PHASE of the entry at a free-running index (15 R402). -/
def ringPhase (index size : Nat) : Nat := (index / size + 1) % 2

/-- Write the slots of a record that starts at free-running index `i`, the first slot last (15 R404). -/
def Mach.writeSlots (m : Mach) (i : Nat) (filler : Bool) (slots : List (List Word)) : Mach :=
  let size := m.ringSize 64 1
  let base := m.rd64 (ringReg 64 0x18) (ringReg 64 0x1C)
  (slots.zipIdx.reverse).foldl
    (fun a p => a.jnkReq 4 (base + 64 * ((i + p.2) % size)) (wordBytes p.1) (.record 64 false (i + p.2) (p.2 == 0 && !filler))) m

/-- A report record of kind and tag in `w0` and slots, written when the report ring has room for it and for the SKIP
filler it may need (15 R413); none when it has not. -/
def Mach.tryReport (m : Mach) (w0 : Nat) (slots : List (List Word)) : Option Mach :=
  let size := m.ringSize 64 1
  let p := (m.rd (ringReg 64 0x34)).toNat
  let used := (p + 2 ^ 32 - (m.ring 64).cplCons) % 2 ^ 32
  let n := slots.length
  let skip := if size < p % size + n then size - p % size else 0
  if m.ringOpen 64 && m.jnkUp && decide (used + skip + n ≤ size) then
    let filler : List (List Word) := (List.range skip).map fun j =>
      if j = 0 then [BitVec.ofNat 32 (2 ^ 31 * ringPhase p size + 7 * 2 ^ 28 + (skip - 1) * 2 ^ 21)] ++ List.replicate 15 0
      else List.replicate 16 0
    let q := p + skip
    let first := BitVec.ofNat 32 (2 ^ 31 * ringPhase q size + w0 + (n - 1) * 2 ^ 21)
    let body := match slots with
      | [] => []
      | sl :: rest => (first :: sl.drop 1) :: rest
    let m1 := if skip = 0 then m else m.writeSlots p true filler
    let m2 := m1.writeSlots q false body
    some (m2.wr (ringReg 64 0x34) (BitVec.ofNat 32 (q + n)))
  else none

/-- A TU_CPL or STAGE record: written when there is room and none waits before it, else it waits (15 R415); discarded
and counted while the link is down (15 R397). -/
def Mach.report (m : Mach) (w0 : Nat) (slot : List Word) : Mach :=
  if !m.jnkUp || !m.ringOpen 64 then m.count Reg.RNG_DISCARD_CNT
  else if m.jnk.reports.isEmpty then
    match m.tryReport w0 [slot] with
    | some m' => m'
    | none => { m with jnk := { m.jnk with reports := [(w0, 1, slot)] } }
  else { m with jnk := { m.jnk with reports := m.jnk.reports ++ [(w0, 1, slot)] } }

/-- Write the waiting records that now have room, oldest first. -/
def Mach.flushReports (m : Mach) : Nat → Mach
  | 0 => m
  | n + 1 =>
    match m.jnk.reports with
    | [] => m
    | (w0, _, slot) :: t =>
      match m.tryReport w0 [slot] with
      | some m' => Mach.flushReports { m' with jnk := { m'.jnk with reports := t } } n
      | none => m

/-- A table-update descriptor: its OPC and fields (15 R409); `rsvd` joins its reserved bits. -/
def tuDescOf (ws : List Word) : Nat × TuDesc :=
  let w (i : Nat) : Word := ws.getD i 0
  ((w 0).toNat / 2 ^ 24,
    { gallery := (w 0).extractLsb' 16 6, tag := (w 0).extractLsb' 0 16, flags := (w 1).extractLsb' 16 16, arg0 := (w 1).extractLsb' 0 16
      arg1 := w 2, count := w 3, src := w 5 ++ w 4, len := w 6, rsvd := w 7 ||| (w 0 &&& 0x00C00000), inline := (ws.drop 8).take 8 })

/-- The table-update command whose descriptor has been taken and whose data has come (15 R411). -/
def Mach.tuTaken (m : Mach) (opc : Nat) (d : TuDesc) : Bool :=
  m.jnk.tu.any fun t => t.ready && decide (tuDescOf t.words = (opc, d))

/-- The taken descriptor's command begins, so the ring may take the next (15 R411). -/
def Mach.tuBegin (m : Mach) : Mach := { m with jnk := { m.jnk with tu := none } }

/-- A table-update command acts while the data path runs (log 16), once its descriptor has been taken and its data has come. -/
def Mach.tuCmd (m : Mach) (opc : Nat) (d : TuDesc) (f : Mach → Mach) : Mach :=
  if m.running && m.tuTaken opc d then f m.tuBegin else m

/-- The same for a command that also writes the addressed memories. -/
def Mach.tuCmdS (m : Mach) (st : Store) (opc : Nat) (d : TuDesc) (f : Mach → Mach × Store) : Mach × Store :=
  if m.running && m.tuTaken opc d then f m.tuBegin else (m, st)

/-- A descriptor's FLAGS bit 0 clear, or set: the two forms of a command that it tells apart (15 R410). -/
def tuPlain (d : TuDesc) : TuDesc := { d with flags := d.flags &&& 0xFFFE }

/-- See `tuPlain`. -/
def tuMarked (d : TuDesc) : TuDesc := { d with flags := d.flags ||| 1 }

/-- The TU_CPL record of a table-update command (15 R414): `w8` is its word at offset 8. -/
def Mach.tuDone (m : Mach) (opc : Nat) (d : TuDesc) (st : Status) (reason w8 : Nat) : Mach :=
  m.report (2 ^ 28 + d.tag.toNat)
    ([0, BitVec.ofNat 32 (opc * 2 ^ 24 + statusCode st * 2 ^ 20 + reason * 2 ^ 16 + d.arg0.toNat), BitVec.ofNat 32 w8, 0,
      BitVec.ofNat 32 m.now, BitVec.ofNat 32 (m.now / 2 ^ 32)] ++ List.replicate 10 0)

/-! ### Events (15 R416, R417) -/

/-- The eight words of an event record: common header, five body words from offset 8, and the stamp at 28. -/
def eventWords (phase lost seq fclass type gal : Nat) (lostCount : Nat) (body : List Nat) (stamp : Nat) : List Word :=
  [BitVec.ofNat 32 (phase * 2 ^ 31 + lost * 2 ^ 30 + fclass * 2 ^ 27 + type * 2 ^ 16 + seq % 65536),
   BitVec.ofNat 32 (min lostCount 0xFFFF * 2 ^ 16 + gal)] ++ (body.map (BitVec.ofNat 32)) ++ [BitVec.ofNat 32 stamp]

/-- An event dropped for want of room: counted until the next record written, and in RNG_EVT_LOST of a gallery set; one
that the link's loss keeps from being written counts in RNG_DISCARD_CNT too (15 R397). -/
def Mach.dropEvent (m : Mach) (set : Nat) : Mach :=
  let r := m.ring set
  let m0 := if m.ringEn set && !m.jnkUp then m.count Reg.RNG_DISCARD_CNT else m
  let m1 := m0.setRing { r with seq := r.seq + 1, lost := r.lost + 1 }
  if set = 64 then m1 else m1.count (ringReg set 0x3C)

/-- Write an event to a gallery's event ring, or drop it when the ring is full (15 R416). -/
def Mach.eventToGallery (m : Mach) (g type fclass : Nat) (body : List Nat) : Mach :=
  let size := m.ringSize g 2
  let p := (m.rd (ringReg g 0x38)).toNat
  let r := m.ring g
  if m.ringOpen g && m.jnkUp && decide ((p + 2 ^ 32 - r.evtCons) % 2 ^ 32 < size) then
    let ws := eventWords (ringPhase p size) (b2n (r.lost != 0)) r.seq fclass type g r.lost body m.now32
    let addr := m.rd64 (ringReg g 0x20) (ringReg g 0x24) + 32 * (p % size)
    let data := if addr / 32 % 2 = 0 then wordBytes ws ++ List.replicate 32 0 else List.replicate 32 0 ++ wordBytes ws
    ((m.setRing { r with seq := r.seq + 1, lost := 0 }).jnkReq 5 addr data (.record g true p true)).wr (ringReg g 0x38)
      (BitVec.ofNat 32 (p + 1))
  else m.dropEvent g

/-- Write an event to the report ring as an EVENT record, or drop it when the ring has no room (15 R415). -/
def Mach.eventToReport (m : Mach) (gal type fclass : Nat) (body : List Nat) : Mach :=
  let r := m.ring 64
  let size := m.ringSize 64 1
  let p := (m.rd (ringReg 64 0x34)).toNat
  let ws := eventWords (ringPhase p size) (b2n (r.lost != 0)) r.seq fclass type gal r.lost body m.now32
  match m.tryReport (2 * 2 ^ 28) [List.replicate 8 0 ++ ws] with
  | some m' => m'.setRing { m'.ring 64 with seq := r.seq + 1, lost := 0 }
  | none => m.dropEvent 64

/-- Raise a gallery event: to its gallery's ring, or to the report ring when that ring set is not enabled (R417). -/
def Mach.galEvent (m : Mach) (g type fclass : Nat) (body : List Nat) : Mach :=
  if m.ringEn g then m.eventToGallery g type fclass body else m.eventToReport g type fclass body

/-- Raise a module-wide event (R417). -/
def Mach.modEvent (m : Mach) (type fclass : Nat) (body : List Nat) : Mach := m.eventToReport 0 type fclass body

/-- FCLASS of an event that reports no fault (15 R416). -/
def noFault : Nat := 7

/-! ### Error pins, the collector and safe state (18) -/

/-- Class of an FSW group in FLT_GCLASS, 0 when none is latched (18 R463). -/
def Mach.gclass (m : Mach) (g : Nat) : Nat := m.fld (Reg.FLT_GCLASS (g / 8)) (4 * (g % 8) + 3) (4 * (g % 8))

/-- Set the class of a group. -/
def Mach.setGclass (m : Mach) (g c : Nat) : Mach := m.setFld (Reg.FLT_GCLASS (g / 8)) (4 * (g % 8) + 3) (4 * (g % 8)) c

/-- FSW bit of a group. -/
def Mach.fsw (m : Mach) (g : Nat) : Bool := m.flag (if g < 32 then Reg.FLT_FSW_LO else Reg.FLT_FSW_HI) (g % 32)

/-- Set or clear an FSW bit. -/
def Mach.setFsw (m : Mach) (g : Nat) (b : Bool) : Mach :=
  m.setFlag (if g < 32 then Reg.FLT_FSW_LO else Reg.FLT_FSW_HI) (g % 32) b

/-- T, the Snuffer time in µs (18 R466). -/
def Mach.snufferUs (m : Mach) : Nat := min 1000000 (max 50 (m.fld Reg.FLT_SNUFFER 19 0))

/-- Groups whose faults enter safe state at any time (18 R469). -/
def alwaysFatal (g : Nat) : Bool := g == 31 || g == 32 || g == 33 || g == 34 || g == 38

/-- Group g is bypassed: start-up, test or recovery (18 R469). -/
def Mach.bypassed (m : Mach) (g : Nat) : Bool :=
  !alwaysFatal g && (m.flag Reg.FLT_CTL 31 || m.flag (if g < 32 then Reg.FLT_MASK_LO else Reg.FLT_MASK_HI) (g % 32))

/-- Whole µs left of a group's Snuffer timer, 0 when none runs; safe state freezes them (18 R478). -/
def Mach.remainUs (m : Mach) (g : Nat) : Nat :=
  match m.flt.timers.find? fun t => t.1 == g with
  | some t => (t.2 - if m.flt.safe then m.flt.safeAt else m.aon) / 1000
  | none => 0

/-- Start a group's Snuffer timer at T (18 R466). -/
def Mach.startTimer (m : Mach) (g : Nat) : Mach :=
  { m with flt := { m.flt with timers := (g, m.aon + 1000 * m.snufferUs) :: m.flt.timers.filter fun t => t.1 != g } }

/-- Stop a group's Snuffer timer. -/
def Mach.stopTimer (m : Mach) (g : Nat) : Mach :=
  { m with flt := { m.flt with timers := m.flt.timers.filter fun t => t.1 != g } }

/-- Body word at offset 8 of a FAULT event (18 R477): class 0 stands for none and is reported as 7. -/
def faultWord8 (g old new cause : Nat) : Nat :=
  g * 2 ^ 26 + (if old = 0 then 7 else old) * 2 ^ 23 + new * 2 ^ 20 + cause * 2 ^ 16

/-- Raise a FAULT event; `new` 7 says none. -/
def Mach.faultEvent (m : Mach) (g old new cause unit detail : Nat) : Mach :=
  m.modEvent 0x19 new [faultWord8 g old new cause, unit * 2 ^ 16 + detail, m.remainUs g, 0, 0]

/-- The safe-state record of 18 R473. -/
def Mach.safeRecord (m : Mach) : List Byte :=
  let body := leBytes 4 (m.rd Reg.FLT_FSW_LO).toNat ++ leBytes 4 (m.rd Reg.FLT_FSW_HI).toNat ++
    ((List.range 8).flatMap fun i => leBytes 4 (m.rd (Reg.FLT_GCLASS i)).toNat) ++
    ((List.range 4).flatMap fun i => leBytes 4 (m.rd (Reg.FLT_FIRST_W i)).toNat) ++
    leBytes 4 m.stage ++ leBytes 4 m.flt.safeEntries ++
    leBytes 8 m.flt.safeNs ++ List.replicate 176 0
  body ++ leBytes 8 (crc64 body)

/-- Enter safe state (18 R471), steps 1 to 3: FSW bit 63, FLT_FIRST from the FAULT event of the cause, FATAL once on Jionuk, every
lane transmitter off, the warm token lost. The stop of everything else follows from `flt.safe`; steps 4 and 5 are `safeTick`'s. -/
def Mach.enterSafe (m : Mach) (g old cause unit detail : Nat) : Mach :=
  if m.flt.safe then m
  else
    let m1 := m.faultEvent g old 4 cause unit detail
    let m2 := (((m1.setFsw 63 true).wr (Reg.FLT_FIRST_W 0) (BitVec.ofNat 32 (faultWord8 g old 4 cause))).wr
      (Reg.FLT_FIRST_W 1) (BitVec.ofNat 32 (unit * 2 ^ 16 + detail))).wr (Reg.FLT_FIRST_W 2) 0
    let m3 := (m2.wr (Reg.FLT_FIRST_W 3) (BitVec.ofNat 32 m.now32)).setFlag Reg.BOOT_STATUS 23 false
    let m4 := if m3.jnkUp then (m3.sendJnk { opc := 0x0B, tag := 0, addr := 0 }).setFlag Reg.JNK_STATUS 30 true else m3
    let m5 := { m4 with flt := { m4.flt with
      safe := true, safeEntries := m4.flt.safeEntries + 1, safeAt := m4.aon, safeStep := 3
      safeNs := if m4.fld Reg.TIM_STATUS 1 0 = 0 then 0 else m4.now } }
    m5.ports.foldl (fun a p => (List.range p.width).foldl (fun b i => b.emit (.transmitterOff (p.first + i))) a) m5

/-- Latch a pin of class `c` into the FSW (18 R463, R466): the event, the timer and, at FC4, safe state. At FC3 the group joins the
fences in force; what a fence does at once beyond that is in Faults.lean. -/
def Mach.latch (m : Mach) (g c unit detail : Nat) : Mach :=
  let old := m.gclass g
  if m.flt.safe then (m.setFsw g true).setGclass g (max old c)
  else if alwaysFatal g || c = 4 then
    ((m.setFsw g true).setGclass g 4).enterSafe g old 0 unit detail
  else
    let m0 := (m.setFsw g true).setGclass g (max old c)
    let m1 := if old = 0 then { m0 with flt := { m0.flt with
      latched := (g, unit, detail) :: m0.flt.latched.filter fun x => x.1 != g } } else m0
    let m2 := if decide (old < c) then m1.startTimer g else m1
    let esc := old == 2 && c == 3
    let m3 := if esc then m2.count Reg.FLT_ESC_CNT else m2
    let m4 := if 3 ≤ c && !m3.flt.fences.contains g then
      { m3 with flt := { m3.flt with fences := g :: m3.flt.fences } } else m3
    m4.faultEvent g old (max old c) (b2n esc) unit detail

/-- A pulsed FC0 or FC1 pin (18 R461, R463): counted, and an event only when EVT_FC01 is 1. -/
def Mach.note (m : Mach) (g c unit detail : Nat) : Mach :=
  let m1 := m.count (if c = 0 then Reg.FLT_FC0_CNT else Reg.FLT_FC1_CNT)
  if m.flag Reg.FLT_CTL 30 then
    m1.modEvent 0x19 c [faultWord8 g (m.gclass g) c 4, unit * 2 ^ 16 + detail, m1.remainUs g, 0, 0]
  else m1

/-- Assert an error pin at FC2 or above; it latches unless its group is bypassed (18 R461, R463, R469). -/
def Mach.raisePin (m : Mach) (g c unit detail : Nat) : Mach :=
  let p : Pin := ⟨g, c, unit, detail⟩
  let m1 := if m.flt.pins.contains p then m else { m with flt := { m.flt with pins := m.flt.pins ++ [p] } }
  if m.bypassed g then m1 else m1.latch g c unit detail

/-- Deassert the pins of a group that satisfy `q` (18 R461). -/
def Mach.dropPins (m : Mach) (q : Pin → Bool) : Mach :=
  { m with flt := { m.flt with pins := m.flt.pins.filter fun p => !q p } }

/-- A cause whose chapter names no status to clear and whose reaction is complete at once: its pin is asserted no longer than
that (18 R461). -/
def Mach.pulsePin (m : Mach) (g c unit detail : Nat) : Mach :=
  (m.raisePin g c unit detail).dropPins fun p => p == ⟨g, c, unit, detail⟩

/-- Bypass a group for test or recovery: no timer runs for it (18 R469). -/
def Mach.bypassOn (m : Mach) (g : Nat) : Mach :=
  (m.setFlag (if g < 32 then Reg.FLT_MASK_LO else Reg.FLT_MASK_HI) (g % 32) true).stopTimer g

/-- A pin still asserted when a group's bypass ends latches with a fresh timer (18 R469). -/
def Mach.latchPending (m : Mach) (g : Nat) : Mach :=
  match m.flt.pins.find? fun p => p.group == g with
  | none => m
  | some p =>
    let old := m.gclass g
    let new := (m.flt.pins.filter fun q => q.group == g).foldl (fun a q => max a q.cls) old
    let m1 := ((m.setFsw g true).setGclass g new).startTimer g
    let m2 := { m1 with flt := { m1.flt with
      latched := (g, p.unit, p.detail) :: m1.flt.latched.filter fun x => x.1 != g
      fences := if new = 3 then g :: m1.flt.fences.filter (· != g) else m1.flt.fences } }
    m2.faultEvent g old new 5 p.unit p.detail

/-- End a group's bypass for test or recovery (18 R469). -/
def Mach.bypassOff (m : Mach) (g : Nat) : Mach :=
  let m1 := m.setFlag (if g < 32 then Reg.FLT_MASK_LO else Reg.FLT_MASK_HI) (g % 32) false
  if m1.bypassed g then m1 else m1.latchPending g

/-- ALERT_N asserted: any of FSW bits 0 to 62, safe state, or a halt (18 R468, R471, 19 R485). -/
def Mach.alert (m : Mach) : Bool :=
  (m.rd Reg.FLT_FSW_LO).toNat != 0 || (m.rd Reg.FLT_FSW_HI).toNat % 2 ^ 31 != 0 || m.flt.safe || m.halted

/-- FAULT_N asserted: safe state only (18 R468). -/
def Mach.faultPin (m : Mach) : Bool := m.flt.safe

end Sys2Proof.Machine
end

