-- ==== Sys2Proof/Machine/Ecc.lean ====
section
/-! DEFINITION. Ecc.lean: stored-data protection of 17 as operations: the error log, corrected and uncorrectable errors,
fenced tables, and injected check bits (18 R476). -/
namespace Sys2Proof.Machine

/-- Hub die whose log takes an error of a store and unit (17 R457). -/
def eccDie (store unit : Nat) : Nat :=
  if 3 ≤ store && store ≤ 5 then unit / 16
  else if store = 11 then unit / 256
  else if 14 ≤ store then unit / 4
  else unit % 2

/-- FSW group of a store's errors (18 R462). -/
def eccGroup (store unit : Nat) : Nat :=
  if store = 0 then 12 + unit
  else if store ≤ 2 then 18 + unit
  else if store ≤ 5 then 4 + unit / 4
  else if store ≤ 9 then 16 + unit
  else if store = 10 || store = 12 then 14 + unit
  else if store = 11 then unit / 128
  else if store = 13 then 35
  else 20 + unit % 8

/-- UNIT of a FAULT event about a store (18 R477): 0 for Lantern's memories, which belong to group 35. -/
def eccUnit (store unit : Nat) : Nat := if store = 13 then 0 else unit

/-- Put an entry in a die's log (17 R457): a correction of a listed address raises REPEAT; a full log loses a CE, and
gives a UE or HARD entry the place of its oldest CE. -/
def logInsert (l : List EccEntry) (e : EccEntry) : List EccEntry × Nat :=
  let same (x : EccEntry) : Bool := x.kind != 1 && x.store == e.store && x.unit == e.unit && x.addr == e.addr
  if e.kind = 0 && l.any same then
    (modFirst same (fun x => { x with repeats := min 255 (x.repeats + 1) }) l, 0)
  else if l.length < 256 then (l ++ [e], 0)
  else if e.kind ≠ 0 && l.any (fun x => x.kind == 0) then (eraseFirst (fun x => x.kind == 0) l ++ [e], 1)
  else (l, 1)

/-- Log an error (17 R457). -/
def Mach.eccLog (m : Mach) (kind store unit pos addr : Nat) : Mach :=
  let die := eccDie store unit
  let r := logInsert (m.ecc.logs.getD die []) ⟨kind, store, unit, pos, 0, addr, m.now32⟩
  { m with ecc := { m.ecc with logs := modNth (fun _ => r.1) die m.ecc.logs } }.countN Reg.ECC_LOG_LOST_CNT r.2

/-- Count in a counter that wraps at 2^32 (08 R218). -/
def Mach.countWrap (m : Mach) (off : Nat) : Mach := m.wr off (m.rd off + 1)

/-- A corrected error (17 R451): counted, written back and logged as CE or HARD; an FC1 note of the store's group. -/
def Mach.eccCe (m : Mach) (store unit pos addr : Nat) (hard : Bool) : Mach :=
  let m1 := ((m.count Reg.ECC_CE_CNT).countWrap Reg.DGT_TEV_CEWB).eccLog (if hard then 2 else 0) store unit pos addr
  let m2 := if hard then m1.count Reg.ECC_HARD_CNT else m1
  m2.note (eccGroup store unit) 1 (eccUnit store unit) 0

/-- An uncorrectable error counted and logged (17 R454); the caller acts by store. -/
def Mach.eccUe (m : Mach) (store unit pos addr : Nat) : Mach :=
  (m.count Reg.ECC_UE_CNT).eccLog 1 store unit pos addr

/-- An uncorrectable error whose outcome is an FC0 note (17 R454). -/
def Mach.eccUeNote (m : Mach) (store unit pos addr : Nat) : Mach :=
  (m.eccUe store unit pos addr).note (eccGroup store unit) 0 (eccUnit store unit) 4

/-- A table of hub die `die` fails and is fenced: FC3 in TABLE_Hd, whose pin stays until the last reload (17 R456). -/
def Mach.fenceTable (m : Mach) (die : Nat) (f : TableFence) : Mach :=
  let m1 := if m.ecc.fenced.contains (die, f) then m else
    { m with ecc := { m.ecc with fenced := m.ecc.fenced ++ [(die, f)] } }
  m1.raisePin (16 + die) 3 die 4

/-- Tables that satisfy `q` have been reloaded; a die without a fenced table deasserts its pin (17 R456). -/
def Mach.unfence (m : Mach) (q : TableFence → Bool) : Mach :=
  let left := m.ecc.fenced.filter fun x => !q x.2
  let m1 := { m with ecc := { m.ecc with fenced := left } }
  m1.dropPins fun p => (p.group == 16 || p.group == 17) && !left.any fun x => 16 + x.1 == p.group

/-- A table entry is fenced. -/
def Mach.fencedTable (m : Mach) (f : TableFence) : Bool := m.ecc.fenced.any fun x => x.2 == f

/-! ### Failed pointers (07 R187, R188) -/

/-- A pointer of a pool fails its check: the failure and its lost buffer are counted, the pool's bit of BPM_FAULT is set and its
die's group raises FC2 (07 R188). -/
def Mach.ptrFailed (m : Mach) (pool : Nat) : Mach :=
  (((m.count Reg.BPM_BADPTR_CNT).count Reg.BPM_LEAK_CNT).setFlag Reg.BPM_FAULT pool true).raisePin (14 + pool % 2) 2 (pool % 2) 0x30

/-- The failed pointer of a pool that a command meets, on stack `st` when the pool has a body in HBM: one that fails the check, or a free-stack
entry that fails its code (17 R454, stores 10 and 16). -/
def Mach.ptrFault (m : Mach) (err : HwErr) (pool st : Nat) : Option Mach :=
  match err with
  | .badPtr p => if p.toNat = pool then some (m.ptrFailed pool) else none
  | .ue store pos addr =>
    if store = 10 then some ((m.eccUe 10 (pool % 2) pos.toNat addr.toNat).ptrFailed pool)
    else if store = 16 && 2 ≤ pool then some ((m.eccUe 16 st pos.toNat addr.toNat).ptrFailed pool)
    else none
  | _ => none

/-- A cell of a hub die is lost to its pool (07 R188). -/
def Mach.loseCell (m : Mach) (die : Nat) : Mach :=
  { m with sw := { m.sw with lostCells := modNth (· + 1) die m.sw.lostCells } }

/-- The pool area of a stack (07 R184), in bytes from the stack's base. -/
def poolArea : Nat := 2 ^ 36 - 2 ^ 26

/-- HBM byte address of the page-table entry of a 64 KiB page: 8 bytes for each page position of its stack (07 R184). -/
def pageEntryAddr (p : Nat) : Nat := p / 2 ^ 20 * 2 ^ 36 + poolArea + 8 * (p % 2 ^ 20)

/-- HBM byte address of entry `i` of a stack's FMEM free-stack body (07 R184). -/
def fmBodyAddr (s i : Nat) : Nat := s * 2 ^ 36 + poolArea + 2 ^ 23 + 4 * i

/-- HBM byte address of entry `i` of a stack's SUMP free-stack body (07 R184). -/
def sumpBodyAddr (s i : Nat) : Nat := s * 2 ^ 36 + poolArea + 12 * 2 ^ 20 + 4 * i

/-- HBM byte address of the part of a stack's pool area kept for Lantern firmware, up to the stack's end (07 R184). -/
def firmwareAddr (s : Nat) : Nat := s * 2 ^ 36 + poolArea + 44 * 2 ^ 20

/-! ### Which code a word is under (17 R446 to R449) -/

/-- The ECC region that a 64 MiB unit of a stack lies in: of overlapping ones the lowest-numbered (17 R449). -/
def Mach.eccRegion? (m : Mach) (s u : Nat) : Option Nat :=
  (List.range 16).find? fun j => m.flag (Reg.ECC_REGION_M s j) 31 && decide (m.fld (Reg.ECC_REGION_M s j) 10 0 ≤ u) &&
    decide (u < m.fld (Reg.ECC_REGION_M s j) 21 11)

/-- STORE of a private HBM line, by the ECC regions of its stack (17 R449): 18 in an enabled region, else 17. -/
def Mach.hbmStore (m : Mach) (addr : Nat) : Nat :=
  if (m.eccRegion? (addr / 2 ^ 36) (addr % 2 ^ 36 / 2 ^ 26)).isSome then 18 else 17

/-- A private 64 MiB unit of a stack is under the light code (17 R449). -/
def Mach.unitLight (m : Mach) (s u : Nat) : Bool :=
  match m.eccRegion? s u with
  | some j => m.flag (Reg.ECC_REGION_M s j) 30
  | none => false

/-- A store uses the strong code (17 R447, R449); scratch and private lines are told by their STORE value. -/
def storeStrong (store : Nat) : Bool :=
  (4 ≤ store && store ≤ 10) || store == 12 || store == 13 || (15 ≤ store && store ≤ 17)

/-- The strong code covers a word or line of a store: inside an ECC region its CODE says (17 R449). -/
def Mach.strongAt (m : Mach) (store unit word : Nat) : Bool :=
  if store = 18 then !m.unitLight unit (word / 2 ^ 20) else storeStrong store

/-- The parts of `x` outside `r`. -/
def CodeRange.cut (r x : CodeRange) : List CodeRange :=
  if x.hbm != r.hbm || x.unit != r.unit || decide (r.hi ≤ x.lo) || decide (x.hi ≤ r.lo) then [x]
  else (if x.lo < r.lo then [{ x with hi := r.lo }] else []) ++ (if r.hi < x.hi then [{ x with lo := r.hi }] else [])

/-- The parts of some ranges outside `r`. -/
def cutRanges (l : List CodeRange) (r : CodeRange) : List CodeRange := l.flatMap r.cut

/-- The code of the words of `r` changes: those written under it are under the other code now, and the reverse (17 R446). -/
def flipRange (l : List CodeRange) (r : CodeRange) : List CodeRange := cutRanges l r ++ l.foldl cutRanges [r]

/-- The ranges that a store's words may be listed in: scratch, or private lines. -/
def codeSpace (store : Nat) : Option Bool :=
  if store = 3 || store = 4 then some false else if store = 17 || store = 18 then some true else none

/-- The lowest of some positions. -/
def lowestOf : List Nat → Option Nat
  | [] => none
  | a :: l => some (l.foldl min a)

/-- The lowest of the words `lo` to `hi − 1` that was written under the other code: it decodes as uncorrectable (17 R446). -/
def Mach.wrongCode (m : Mach) (store unit lo hi : Nat) : Option Nat :=
  match codeSpace store with
  | none => none
  | some h => lowestOf ((m.ecc.otherCode.filter fun r => r.hbm == h && r.unit == unit && decide (r.lo < hi) && decide (lo < r.hi)).map
      fun r => max lo r.lo)

/-- Words are written, under the code of their range. -/
def Mach.codeWritten (m : Mach) (store unit lo hi : Nat) : Mach :=
  match codeSpace store with
  | none => m
  | some h => if m.ecc.otherCode.isEmpty then m else
      { m with ecc := { m.ecc with otherCode := cutRanges m.ecc.otherCode ⟨h, unit, lo, hi⟩ } }

/-- Lines of a stack under a fixed code, in Sump, FMEM and the pool area (17 R449, 07 R184). -/
def Pool.fixedLines (q : Pool) : List CodeRange :=
  [⟨true, q.stack, 0, q.sumpPages * 64⟩, ⟨true, q.stack, q.fmBase * 1024, q.fmLimit * 1024⟩,
    ⟨true, q.stack, poolArea / 64, 2 ^ 30⟩]

/-- A 64 MiB unit of a stack, in lines. -/
def unitLines (s u : Nat) : CodeRange := ⟨true, s, u * 2 ^ 20, (u + 1) * 2 ^ 20⟩

/-- The code of the private lines among `parts` of a stack changes. -/
def Pool.flipPrivate (q : Pool) (parts codes : List CodeRange) : List CodeRange :=
  (q.fixedLines.foldl cutRanges parts).foldl flipRange codes

/-! ### Injected check bits (18 R476) -/

/-- Outcome of `n` inverted check bits in a store: 1 corrected, 2 uncorrectable (18 R476). -/
def injOutcome (store n : Nat) (strong : Bool) : Nat :=
  if !strong then (if n ≤ 1 then 1 else 2)
  else if store ≤ 13 then (if n ≤ 2 then 1 else 2)
  else (if n ≤ 1 then 1 else 2)

/-- Words `lo` to `hi − 1` of a store are written: an armed injection that matches is used up and spoils its word, and
words written clean are good again. -/
def Mach.injWrite (m : Mach) (store unit lo hi : Nat) : Mach :=
  let m0 := m.codeWritten store unit lo hi
  let inRange (a : Nat) : Bool := decide (lo ≤ a) && decide (a < hi)
  let hit := m0.flt.injections.find? fun j => j.2.1 == store && j.2.2.1 == unit && inRange j.2.2.2.1 && (j.1 == 0 || j.1 == 1)
  let left := m0.ecc.bad.filter fun b => !(b.1 == store && b.2.1 == unit && inRange b.2.2.1)
  match hit with
  | some j =>
    { m0 with ecc := { m0.ecc with bad := (store, unit, j.2.2.2.1, j.2.2.2.2) :: left },
              flt := { m0.flt with injections := m0.flt.injections.filter fun x => x != j } }
  | none => if left.length = m0.ecc.bad.length then m0 else { m0 with ecc := { m0.ecc with bad := left } }

/-- Words with injected check bits among `lo` to `hi − 1` whose outcome is `c`: 1 corrected, 2 uncorrectable (18 R476). -/
def Mach.badWords (m : Mach) (store unit lo hi c : Nat) : List Nat :=
  (m.ecc.bad.filter fun b => b.1 == store && b.2.1 == unit && decide (lo ≤ b.2.2.1) && decide (b.2.2.1 < hi) &&
    injOutcome store b.2.2.2 (m.strongAt store unit b.2.2.1) == c).map (·.2.2.1)

/-- Words `lo` to `hi − 1` of a store are read: the lowest uncorrectable one, by injected check bits or by the other code (17
R446), else the lowest corrected one, and the machine with the corrected words written back clean and the further ones
logged (17 R451). -/
def Mach.injRead (m : Mach) (store unit lo hi : Nat) : HwErr × Mach :=
  match lowestOf ((m.wrongCode store unit lo hi).toList ++ m.badWords store unit lo hi 2) with
  | some w => (.ue (BitVec.ofNat 5 store) 0 (BitVec.ofNat 64 w), m)
  | none =>
    let ces := m.badWords store unit lo hi 1
    match lowestOf ces with
    | none => (.none, m)
    | some w =>
      let m1 := { m with ecc := { m.ecc with bad := m.ecc.bad.filter fun b => !(b.1 == store && b.2.1 == unit && ces.contains b.2.2.1) } }
      (.ce (BitVec.ofNat 5 store) 0 (BitVec.ofNat 64 w) false,
        (ces.filter (· != w)).foldl (fun a x => a.eccCe store unit 0 x false) m1)

/-- The error a command meets: the one it names or the one injected bits give; an uncorrectable one before a corrected one. -/
def orErr (a b : HwErr) : HwErr :=
  match a, b with
  | .none, _ => b
  | .ce .., .ue .. => b
  | _, _ => a

/-- An armed residue injection of a core's unit is used up (18 R476). -/
def Mach.takeResidue (m : Mach) (core unit : Nat) : Bool × Mach :=
  match m.flt.injections.find? fun j => j.1 == 2 && j.2.2.1 == core && j.2.2.2.1 == unit with
  | some j => (true, { m with flt := { m.flt with injections := m.flt.injections.filter fun x => x != j } })
  | none => (false, m)

end Sys2Proof.Machine
end

