-- ==== Sys2Proof/Machine/Switch.lean ====
section
/-! DEFINITION. Switch.lean: the switch core of 12 and the lookup of 13 as operations: ports, cells and chains, limits,
spill to Sump, route choice, queueing one copy or a multicast. -/
namespace Sys2Proof.Machine

/-! ### Packets -/

/-- Trailer bytes of a packet type (10 R283). -/
def trailerLen (type : Nat) : Nat := if type = 9 || type = 10 then 32 else if type = 11 then 64 else 0

/-- Bytes of a packet on the wire: header, payload and trailer (10 R264). -/
def pktBytes (p : Packet) : Nat := 32 + p.length.toNat + trailerLen p.type.toNat

/-- Flits of a packet (10 R264). -/
def pktFlits (p : Packet) : Nat := ((pktBytes p) + 247) / 248

/-- Cells of a packet (12 R330). -/
def pktCells (p : Packet) : Nat := ((pktBytes p) + 255) / 256

/-- The 32 header bytes (10 R282). -/
def pktHeader (p : Packet) : List Byte :=
  leBytes 4 (p.type.toNat * 2 ^ 27 + p.vc.toNat * 2 ^ 24 + b2n p.ordered * 2 ^ 23 + b2n p.last * 2 ^ 22 +
    b2n p.poison * 2 ^ 21 + b2n p.escape * 2 ^ 20 + b2n p.epoch * 2 ^ 19 + p.gallery.toNat * 2 ^ 13 + p.length.toNat) ++
  leBytes 4 (p.dest.toNat * 2 ^ 16 + p.src.toNat) ++
  leBytes 4 (p.flow.toNat * 2 ^ 12 + p.group.toNat) ++
  leBytes 4 (p.opSeq.toNat * 2 ^ 16 + p.tile.toNat) ++
  leBytes 4 (p.segment.toNat * 2 ^ 24 + p.format.toNat * 2 ^ 19 + p.rank.toNat * 2 ^ 9 + p.hops.toNat * 2 ^ 4) ++
  List.replicate 12 0

/-- The packet whose 32 header bytes are given, without payload or trailer (10 R282). -/
def pktOfHeader (bs : List Byte) : Packet :=
  let w (i : Nat) : Nat := leNat ((bs.drop (4 * i)).take 4)
  { type := BitVec.ofNat 5 (bits (w 0) 31 27), vc := BitVec.ofNat 3 (bits (w 0) 26 24), ordered := bitOf (w 0) 23,
    last := bitOf (w 0) 22, poison := bitOf (w 0) 21, escape := bitOf (w 0) 20, epoch := bitOf (w 0) 19,
    gallery := BitVec.ofNat 6 (bits (w 0) 18 13), length := BitVec.ofNat 13 (bits (w 0) 12 0),
    dest := BitVec.ofNat 16 (bits (w 1) 31 16), src := BitVec.ofNat 16 (bits (w 1) 15 0),
    flow := BitVec.ofNat 20 (bits (w 2) 31 12), group := BitVec.ofNat 12 (bits (w 2) 11 0),
    opSeq := BitVec.ofNat 16 (bits (w 3) 31 16), tile := BitVec.ofNat 16 (bits (w 3) 15 0),
    segment := BitVec.ofNat 8 (bits (w 4) 31 24), format := BitVec.ofNat 5 (bits (w 4) 23 19),
    rank := BitVec.ofNat 10 (bits (w 4) 18 9), hops := BitVec.ofNat 5 (bits (w 4) 8 4) }

/-- The bytes of a packet. -/
def pktWire (p : Packet) : List Byte := (pktHeader p) ++ p.payload ++ p.trailer

/-- The lowest Trovor revision whose features a packet needs (10 R280). -/
def pktRev (p : Packet) : Nat :=
  if p.type = 11 then 3
  else if p.type = 8 && p.flow.toNat / 2 ^ 17 = 7 then 3
  else if p.type = 9 then 2
  else if p.format = 15 && (p.type = 8 || p.type = 10) then 2
  else 1

/-! ### Ports -/

/-- The configured port whose first lane is `f`. -/
def Mach.port? (m : Mach) (f : Nat) : Option Port := m.ports.find? fun p => p.first == f

/-- Change a port. -/
def Mach.modPort (m : Mach) (f : Nat) (g : Port → Port) : Mach :=
  { m with ports := modFirst (fun p => p.first == f) g m.ports }

/-- UP or DEGRADED (13 R353). -/
def Port.usable (p : Port) : Bool := p.state == .up || p.state == .degraded

/-- The partner's identity, while the port has a partner (10 R280). -/
def Port.partner (p : Port) : Option Ident := if p.partnerSeen then p.ident else none

/-- A port is usable for routing (13 R353); a port under isolation is not (16 R439). -/
def Mach.portUsable (m : Mach) (f : Nat) : Bool :=
  match m.port? f with
  | some p => p.usable && p.isoStep == 0
  | none => false

/-- Hub die that serves a port (01 R9). -/
def dieOf (port : Nat) : Nat := port / 256

/-- Active lanes of a mask. -/
def maskWidth (mask : Nat) : Nat := popCount 8 mask

/-- Active lanes of a port. -/
def Mach.activeLanes (m : Mach) (f : Nat) : Nat :=
  match m.port? f with
  | some p => maskWidth p.mask
  | none => 0

/-- Return to the partner of the ingress port the credit of the flits of a packet that came on it (10 R268, R269). -/
def Mach.returnCredit (m : Mach) (ingress : Option (Nat × Nat)) (vc : Nat) : Mach :=
  match ingress with
  | some (f, n) => m.modPort f fun p => { p with retOut := modNth (fun x => (x + n) % 65536) vc p.retOut }
  | none => m

/-- VC of a packet type, none for a reserved type (10 R283); DATA by its ORDERED. -/
def typeVc (p : Packet) : Option Nat :=
  match p.type.toNat with
  | 1 => some (if p.ordered then 6 else 7)
  | 2 | 3 => some 1
  | 8 | 9 => some 2
  | 10 | 11 => some 3
  | 16 => some 4
  | 17 => some 5
  | _ => none

/-- The first of the ingress checks 1 to 5 of 10 R287 that a packet fails, by its counter. -/
def headerBad (q : Port) (p : Packet) : Option Nat :=
  match typeVc p with
  | none => some Reg.TRL_MALFORMED_CNT
  | some v =>
    if p.vc.toNat ≠ 0 && p.vc.toNat ≠ v then some Reg.TRL_MALFORMED_CNT
    else if p.vc = 0 && !(p.escape && q.shared) then some Reg.TRL_MALFORMED_CNT
    else if q.negRev < pktRev p then some Reg.TRL_REV_DROP_CNT
    else if !q.shared && p.gallery.toNat ≠ q.gallery && p.vc ≠ 1 then some Reg.TRL_XGAL_CNT
    else if 4096 < p.length.toNat then some Reg.TRL_MALFORMED_CNT
    else none

/-! ### Cells, chains, limits (12 R330 to R340) -/

/-- A queue, empty when none is listed. -/
def Mach.queue (m : Mach) (k : QKey) : Queue := (m.sw.queues.find? fun q => q.key == k).getD { key := k }

/-- Replace a queue; an empty idle queue is not listed. -/
def Mach.setQueue (m : Mach) (q : Queue) : Mach :=
  let rest := m.sw.queues.filter fun x => x.key != q.key
  { m with sw := { m.sw with queues := if q == { key := q.key } then rest else q :: rest } }

/-- Hub die of a queue. -/
def QKey.die : QKey → Nat
  | .port p _ => dieOf p
  | .engine d => d
  | .fmem d => d
  | .mgmt d => d

/-- LIMIT of a queue in cells (12 R333). -/
def Mach.qLimit (m : Mach) (k : QKey) : Nat :=
  match k with
  | .port p v => m.fld (Reg.SWC_QCFG p v) 12 0
  | .engine _ => m.fld Reg.SWC_INT_LIMIT_ENGINE 17 0
  | .fmem _ => m.fld Reg.SWC_INT_LIMIT_FMEM 17 0
  | .mgmt _ => m.fld Reg.SWC_INT_LIMIT_MGMT 17 0

/-- On-die cells a queue holds, those the fill engine has taken included (12 R349). -/
def Queue.onDie (q : Queue) : Nat :=
  sumOf (fun p => if p.loc == .onDie || p.loc == .filling then p.cells else 0) q.pkts

/-- Free packet cells of a hub die (07 R182), but for those that failed pointers have lost (07 R188): cells are counted, not
addressed (log 14). -/
def Mach.freeCells (m : Mach) (die : Nat) : Nat :=
  262144 - m.sw.lostCells.getD die 0 - m.sw.chains.foldl (fun a c => if c.die == die then a + c.cells else a) 0

/-- FLOOR of a hub die (12 R334). -/
def Mach.floorOf (m : Mach) (die : Nat) : Nat :=
  m.ports.foldl (fun a p => if dieOf p.first == die && (p.usable || p.exchanging) then a + p.advertised.foldl (· + ·) 0
    else a) 0

/-- Take a chain of cells with a reference count. -/
def Mach.newChain (m : Mach) (die cells refs : Nat) : Nat × Mach :=
  let id := m.sw.nextChain
  (id, { m with sw := { m.sw with nextChain := id + 1, chains := ⟨id, die, cells, refs⟩ :: m.sw.chains } })

/-- Decrement a chain; its cells are free when no copy is left (07 R189). -/
def Mach.dropChain (m : Mach) (id : Nat) : Mach :=
  let dec (c : Chain) : Chain := if c.id == id then { c with refs := c.refs - 1 } else c
  { m with sw := { m.sw with chains := (m.sw.chains.map dec).filter (fun c => c.refs != 0) } }

/-- The pools of a stack. -/
def Mach.pool (m : Mach) (st : Nat) : Pool := (m.pools.find? fun p => p.stack == st).getD { stack := st }

/-- Replace the pools of a stack. -/
def Mach.setPool (m : Mach) (p : Pool) : Mach :=
  { m with pools := p :: m.pools.filter fun x => x.stack != p.stack }

/-- The pops of a stack find it empty: its domain is off, its FSW group is fenced, or the pool has failed
(21 R524, 18 R462, 07 R188). -/
def Mach.stackShut (m : Mach) (st : Nat) : Bool := m.domainOff (78 + st) || m.flt.fences.contains (20 + st)

/-- Stack of a Sump page. -/
def pageStack (p : Nat) : Nat := p / 2 ^ 24 % 8

/-- Sump pages a stack's queues hold. -/
def Mach.sumpUsed (m : Mach) (st : Nat) : Nat :=
  m.sw.queues.foldl (fun a q => a + (q.pages.filter fun x => pageStack x == st).length) 0

/-- Pointers on a stack's SUMP free stack (07 R209). -/
def Pool.sumpCount (q : Pool) : Nat := q.spFree.length + q.spTop

/-- A page lies on a stack's SUMP free stack. -/
def Pool.sumpHas (q : Pool) (p : Nat) : Bool :=
  q.spFree.contains p || (p / 2 ^ 24 == q.stack && decide (p % 2 ^ 24 < q.spTop))

/-- Pop the top pointer of a stack's SUMP free stack (07 R183). -/
def Pool.sumpPop (q : Pool) : Option (Nat × Pool) :=
  match q.spFree with
  | x :: t => some (x, { q with spFree := t })
  | [] => if q.spTop = 0 then none else some (q.stack * 2 ^ 24 + q.spTop - 1, { q with spTop := q.spTop - 1 })

/-- A 4 KiB page is named in the retire map in use (17 R458). -/
def Mach.sumpRetired (m : Mach) (p : Nat) : Bool := m.ecc.retire.contains (0, p)

/-- Pop past retired pages, each discarded and counted (07 R190). -/
def Mach.sumpPopGood (m : Mach) (st : Nat) : Nat → Option (Nat × Mach)
  | 0 => none
  | n + 1 =>
    match (m.pool st).sumpPop with
    | none => none
    | some (p, q) =>
      if m.sumpRetired p then Mach.sumpPopGood ((m.setPool q).count Reg.BPM_RETIRE_SKIP_CNT) st n
      else some (p, m.setPool q)

/-- A Sump page pointer passes the check of 07 R187. -/
def Mach.sumpPtrOk (m : Mach) (p : Nat) : Bool := decide (p < 2 ^ 27) && decide (p % 2 ^ 24 < (m.pool (p / 2 ^ 24)).sumpPages)

/-- Free a Sump page: it is pushed unless it is retired (07 R190) or its pointer fails (R187). -/
def Mach.freeSump (m : Mach) (p : Nat) : Mach :=
  if m.sumpRetired p || !m.sumpPtrOk p then m
  else
    let q := m.pool (p / 2 ^ 24)
    m.setPool { q with spFree := p :: q.spFree }

/-- Free pages of a stack's SUMP pool: the pointers that its pops will not skip (07 R190). -/
def Mach.sumpFree (m : Mach) (st : Nat) : Nat :=
  let q := m.pool st
  if m.stackShut st || !m.flag Reg.BPM_CTL 2 then 0
  else q.sumpCount - ((m.ecc.retire.filter fun r => r.1 == 0 && q.sumpHas r.2).eraseDups).length

/-- Free Sump pages of a hub die. -/
def Mach.dieSumpFree (m : Mach) (die : Nat) : Nat :=
  (List.range 4).foldl (fun a i => a + m.sumpFree (4 * die + i)) 0

/-- Pop `n` Sump pages from a die's stacks in rotation, skipping an empty one (12 R337): the pages, and the machine
with the rotation moved on. Stops short when every stack is empty. -/
def Mach.takePages (m : Mach) (die : Nat) (held : List Nat) : Nat → List Nat × Mach
  | 0 => (held, m)
  | n + 1 =>
    let r := m.sw.rotate.getD die 0
    match ((List.range 4).map fun i => 4 * die + (r + i) % 4).find? fun st => m.sumpFree st != 0 with
    | some st =>
      match m.sumpPopGood st (m.ecc.retire.length + 1) with
      | some (p, a) =>
        Mach.takePages { a with sw := { a.sw with rotate := modNth (fun _ => (st + 1) % 4) die a.sw.rotate } } die (held ++ [p]) n
      | none => (held, m)
    | none => (held, m)

/-- Pages that a packet of `c` cells would add to a queue's Sump part: pages hold 15 cells, packets are packed one after
another (12 R337). -/
def Queue.newPages (q : Queue) (c : Nat) : Nat := (q.headCells + q.sumpCells + c + 14) / 15 - q.pages.length

/-- Spilled packets waiting to be written, in cells, on a die (12 R339). -/
def Mach.stagedCells (m : Mach) (die : Nat) : Nat :=
  m.sw.queues.foldl (fun a q => if q.key.die == die then
    q.pkts.foldl (fun b p => if p.loc == .staged then b + p.cells else b) a else a) 0

/-- Sump is full for a queue and a packet of `c` cells (12 R339). -/
def Mach.sumpFull (m : Mach) (q : Queue) (c : Nat) : Bool :=
  let n := q.newPages c
  let cap := match q.key with
    | .port p v => m.fld (Reg.SWC_QCFG p v) 31 16
    | _ => 0
  let free := m.dieSumpFree q.key.die
  free == 0 || decide (free < n) || (cap != 0 && decide (cap * 64 < q.pages.length + n)) ||
    decide (m.fld Reg.SWC_STAGE 17 0 < m.stagedCells q.key.die)

/-- Write a packet into a queue's Sump part: pages, one decrement of its chain, and its credit back (12 R337, R341). -/
def Mach.writeSump (m : Mach) (q : Queue) (x : QPkt) : Queue × Mach :=
  let t := m.takePages q.key.die [] (q.newPages x.cells)
  let m1 := (t.2.dropChain x.chain).returnCredit x.ingress x.pkt.vc.toNat
  ({ q with pages := q.pages ++ t.1, sumpCells := q.sumpCells + x.cells }, m1)

/-- Queue one copy that holds a reference on its chain: on-die under R335, else spilled under R336, R337 and R339. -/
def Mach.place (m : Mach) (k : QKey) (x : QPkt) : Mach :=
  let q := m.queue k
  let die := k.die
  let onDie := !q.spilled && decide (q.onDie + x.cells ≤ m.qLimit k) && decide (m.floorOf die ≤ m.freeCells die)
  if onDie then
    (m.setQueue { q with pkts := q.pkts ++ [{ x with loc := .onDie }] }).returnCredit x.ingress x.pkt.vc.toNat
  else
    let m1 := m.count Reg.SWC_SPILL_CNT
    if q.pkts.any (fun p => p.loc == .staged) || m1.sumpFull q x.cells then
      (m1.count Reg.SWC_WITHHOLD_CNT).setQueue { q with pkts := q.pkts ++ [{ x with loc := .staged }], spilled := true }
    else
      let r := m1.writeSump q x
      r.2.setQueue { r.1 with pkts := r.1.pkts ++ [{ x with loc := .sump, chain := 0, whole := true }], spilled := true }

/-- The reset generation of a gallery (12 R347). -/
def Mach.galGen (m : Mach) (g : Nat) : Nat := (sget zeroCell m.sw.gens g).toNat

/-- A packet copy stamped for queueing. -/
def Mach.stampCopy (m : Mach) (pkt : Packet) (chain : Nat) (ingress : Option (Nat × Nat)) (routed held whole : Bool) (badFrom : Option Nat := none) : QPkt × Mach :=
  ({ pkt := pkt, cells := (pktCells pkt), loc := .onDie, chain := chain, gen := m.galGen pkt.gallery.toNat,
     seq := m.sw.nextSeq, ingress := ingress, routed := routed, held := held, whole := whole,
     badFrom := badFrom },
   { m with sw := { m.sw with nextSeq := m.sw.nextSeq + 1 } })

/-- A pop that finds the die's cells exhausted poisons the packet, is counted and raises FC3 (12 R340). -/
def Mach.overrun (m : Mach) (die : Nat) : Mach :=
  (m.count Reg.SWC_OVERRUN_CNT).pulsePin (12 + die) 3 die 0x50

/-- Queue one unicast copy in a chain of its own. -/
def Mach.enqueue (m : Mach) (k : QKey) (pkt : Packet) (ingress : Option (Nat × Nat)) (routed held whole : Bool)
    (badFrom : Option Nat := none) : Mach :=
  let excess := decide (m.freeCells k.die < (pktCells pkt))
  let m1 := if excess then m.overrun k.die else m
  let c := m1.newChain k.die (pktCells pkt) 1
  let x := c.2.stampCopy (if excess then { pkt with poison := true } else pkt) c.1 ingress routed held whole badFrom
  x.2.place k x.1

/-! ### Route entries and choice (13 R351 to R357) -/

/-- A destination table entry as a 128-bit number. -/
def Store.routeEntry (st : Store) (bank feid : Nat) : Nat := (sget zeroCell st.route (bank * 65536 + feid)).toNat

/-- The entry for an FEID as one hub die's copy of a bank reads it: a failed entry has VALID 0 (13 R351, 17 R454). -/
def Mach.routeEntry (m : Mach) (st : Store) (die bank feid : Nat) : Nat :=
  if m.ecc.badRoutes.contains (die, bank * 65536 + feid) then setBits (st.routeEntry bank feid) 31 31 0 else st.routeEntry bank feid

/-- VALID. -/
def reValid (e : Nat) : Bool := bitOf e 31
/-- MODE: 0 SINGLE, 1 HASHED, 2 ADAPTIVE. -/
def reMode (e : Nat) : Nat := bits e 30 29
/-- ESC_VALID. -/
def reEscValid (e : Nat) : Bool := bitOf e 25
/-- ESC_PORT. -/
def reEscPort (e : Nat) : Nat := bits e 17 9
/-- The eight candidate fields of an entry (13 R354). -/
def reFields (e : Nat) : List Nat :=
  [bits e 8 0, bits e 40 32, bits e 49 41, bits e 58 50, bits e 72 64, bits e 81 73, bits e 90 82, bits e 104 96]

/-- Its candidates, NCAND_M1 + 1 of them (13 R354). -/
def reCands (e : Nat) : List Nat := (reFields e).take (bits e 28 26 + 1)

/-- What the FLOW bytes of the hash key carry: TILE on collective packets (12 R342). -/
def hashFlow (p : Packet) : Nat :=
  if p.type = 8 || p.type = 9 || p.type = 10 || p.type = 11 then p.tile.toNat else p.flow.toNat

/-- The 12-byte hash key (12 R342). -/
def Mach.hashKey (m : Mach) (p : Packet) : List Byte :=
  leBytes 4 (m.rd Reg.SWC_HASH_SEED).toNat ++ leBytes 2 p.dest.toNat ++ leBytes 2 p.src.toNat ++ leBytes 3 (hashFlow p) ++
    leBytes 1 p.gallery.toNat

/-- Index of the hashed candidate (12 R342). -/
def Mach.hashIndex (m : Mach) (p : Packet) (n : Nat) : Nat := crc32 (m.hashKey p) / 65536 * n / 65536

/-- Cells of a port queue for the adaptive choice: on-die cells plus 15 per Sump page (13 R356). -/
def Mach.adaptiveCells (m : Mach) (f vc : Nat) : Nat :=
  let q := m.queue (.port f vc)
  q.onDie + 15 * q.pages.length

/-- The usable candidate with the fewest cells per active lane, compared by cross-multiplying; ties go to the first
(13 R356). -/
def Mach.adaptiveBest (m : Mach) (vc : Nat) : List Nat → Option Nat
  | [] => none
  | f :: t =>
    match Mach.adaptiveBest m vc t with
    | none => if m.portUsable f then some f else none
    | some g =>
      if m.portUsable f && decide (m.adaptiveCells f vc * m.activeLanes g ≤ m.adaptiveCells g vc * m.activeLanes f)
      then some f else some g

/-- A route choice: the port and VC, whether the first packet of a moved ordered flow must be held, and the machine with
the move recorded (12 R344). -/
structure RouteChoice where
  port : Option Nat
  hold : Bool
  mach : Mach

/-- Record where a hashed flow goes and whether that is a move (12 R344). -/
def Mach.noteMove (m : Mach) (p : Packet) (hashed chosen : Nat) : Bool × Mach :=
  let same (f : MovedFlow) : Bool := f.dest == p.dest.toNat && f.src == p.src.toNat && f.flow == hashFlow p &&
    f.gallery == p.gallery.toNat
  let cur := (m.sw.moved.find? same).map (·.port)
  let entry : MovedFlow := ⟨p.dest.toNat, p.src.toNat, hashFlow p, p.gallery.toNat, chosen⟩
  let rest := m.sw.moved.filter fun f => !same f
  if chosen = cur.getD hashed then (false, m)
  else
    let m1 := { m with sw := { m.sw with moved := if chosen = hashed then rest else entry :: rest } }
    (p.ordered, m1.count Reg.SWC_REHASH_CNT)

/-- Choose the egress port of a packet from a valid entry (13 R356, R360). -/
def Mach.chooseRoute (m : Mach) (e : Nat) (p : Packet) : RouteChoice :=
  if p.escape then
    ⟨if reEscValid e && m.portUsable (reEscPort e) then some (reEscPort e) else none, false, m⟩
  else
    let cs := reCands e
    let h := m.hashIndex p cs.length
    let fromHash := cs.drop h ++ cs.take h
    if reMode e = 0 then ⟨(cs.head?).filter m.portUsable, false, m⟩
    else if reMode e = 2 && !p.ordered then ⟨m.adaptiveBest p.vc.toNat fromHash, false, m⟩
    else
      match fromHash.find? m.portUsable with
      | none => ⟨none, false, m⟩
      | some f =>
        let r := m.noteMove p (fromHash.headD 0) f
        ⟨some f, r.1, r.2⟩

/-- Discard checks at egress: a link that runs (12 R346), the port's gallery (10 R287) and its negotiated revision (10
R280); some counter means the packet is discarded and counted there. -/
def Mach.egressBar (m : Mach) (f : Nat) (p : Packet) : Option Nat :=
  match m.port? f with
  | none => some Reg.SWC_UNREACH_CNT
  | some q =>
    if !q.usable && q.state != .quarantine then some Reg.SWC_UNREACH_CNT
    else if !q.shared && q.gallery != p.gallery.toNat && p.vc != 1 then some Reg.TRL_XGAL_CNT
    else if q.negRev < (pktRev p) then some Reg.TRL_REV_DROP_CNT
    else none

/-- Queue a packet on a port's queue of its VC, subject to the egress checks. -/
def Mach.toPort (m : Mach) (f : Nat) (p : Packet) (ingress : Option (Nat × Nat)) (routed held whole : Bool)
    (badFrom : Option Nat := none) : Mach :=
  match m.egressBar f p with
  | some cnt => (m.count cnt).returnCredit ingress p.vc.toNat
  | none => m.enqueue (.port f p.vc.toNat) p ingress routed held whole badFrom

/-- Route a packet by its DEST in the bank of its EPOCH and queue it (13 R351 to R356), with the tables of the hub die that
accepted or made it. -/
def Mach.routePacket (m : Mach) (st : Store) (p : Packet) (ingress : Option (Nat × Nat)) (whole : Bool) (die : Nat := 0)
    (badFrom : Option Nat := none) : Mach :=
  let e := m.routeEntry st ((ingress.map fun i => dieOf i.1).getD die) (b2n p.epoch) p.dest.toNat
  if !reValid e then (m.count Reg.RTE_NOROUTE_CNT).returnCredit ingress p.vc.toNat
  else
    let r := m.chooseRoute e p
    match r.port with
    | none => (r.mach.count Reg.SWC_UNREACH_CNT).returnCredit ingress p.vc.toNat
    | some f => r.mach.toPort f p ingress true r.hold whole badFrom

/-- Resolve the copies of a multicast to ports, each by its own lookup or by the port it names. -/
def Mach.resolveCopies (m : Mach) (st : Store) (die : Nat) : List (Option Nat × Packet) → List (Nat × Packet × Bool × Bool) × Mach
  | [] => ([], m)
  | (some f, p) :: t =>
    match m.egressBar f p with
    | some cnt => Mach.resolveCopies (m.count cnt) st die t
    | none => let r := Mach.resolveCopies m st die t
              ((f, p, false, false) :: r.1, r.2)
  | (none, p) :: t =>
    let e := m.routeEntry st die (b2n p.epoch) p.dest.toNat
    if !reValid e then Mach.resolveCopies (m.count Reg.RTE_NOROUTE_CNT) st die t
    else
      let c := m.chooseRoute e p
      match c.port with
      | none => Mach.resolveCopies (c.mach.count Reg.SWC_UNREACH_CNT) st die t
      | some f =>
        match c.mach.egressBar f p with
        | some cnt => Mach.resolveCopies (c.mach.count cnt) st die t
        | none => let r := Mach.resolveCopies c.mach st die t
                  ((f, p, true, c.hold) :: r.1, r.2)

/-- Queue the copies of one die from one shared chain (01 R10, 12 R341). -/
def Mach.placeCopies (m : Mach) (die : Nat) (l : List (Nat × Packet × Bool × Bool)) : Mach :=
  match l with
  | [] => m
  | (_, p, _) :: _ =>
    let excess := decide (m.freeCells die < (pktCells p))
    let m1 := if excess then m.overrun die else m
    let c := m1.newChain die (pktCells p) l.length
    l.foldl (fun a t =>
      let x := a.stampCopy (if excess then { t.2.1 with poison := true } else t.2.1) c.1 none t.2.2.1 t.2.2.2 true
      x.2.place (.port t.1 t.2.1.vc.toNat) x.1) c.2

/-- Multicast a module-made packet: one reference-counted chain per hub die (01 R10). -/
def Mach.multicast (m : Mach) (st : Store) (copies : List (Option Nat × Packet)) (die : Nat := 0) : Mach :=
  let r := m.resolveCopies st die copies
  let m1 := r.2.placeCopies 0 (r.1.filter fun t => dieOf t.1 == 0)
  m1.placeCopies 1 (r.1.filter fun t => dieOf t.1 == 1)

/-! ### Taking packets out of queues -/

/-- Forget a copy: its chain's reference, or its Sump cells. -/
def Mach.freeCopy (m : Mach) (x : QPkt) : Mach :=
  let m1 := m.dropChain x.chain
  if x.loc == .staged then m1.returnCredit x.ingress x.pkt.vc.toNat else m1

/-- Flush a queue whole: chains decremented, Sump pages freed, each packet counted in SWC_FLUSH_CNT (12 R346). -/
def Mach.flushQueue (m : Mach) (k : QKey) : Mach :=
  let q := m.queue k
  let m1 := q.pkts.foldl (fun a x => (a.freeCopy x).count Reg.SWC_FLUSH_CNT) m
  (q.pages.foldl Mach.freeSump m1).setQueue { key := k, escape := q.escape }

/-- Read `c` cells off the front of a queue's Sump part; a page whose last cell is read is freed (12 R337). -/
def Mach.readSump (m : Mach) (q : Queue) (c : Nat) : Queue × Mach :=
  let left := q.sumpCells - c
  let n := if left = 0 then q.pages.length else (q.headCells + c) / 15
  ({ q with sumpCells := left, headCells := if left = 0 then 0 else (q.headCells + c) % 15, pages := q.pages.drop n },
    (q.pages.take n).foldl Mach.freeSump m)

/-- Read packets off a queue's Sump part, oldest first. -/
def Mach.readSumpAll (m : Mach) (q : Queue) (l : List QPkt) : Queue × Mach :=
  (l.filter fun x => x.loc == .sump).foldl (fun r x => r.2.readSump r.1 x.cells) (q, m)

/-- Discard heads whose generation stamp is not their gallery's (12 R347). -/
def Mach.dropStale (m : Mach) (k : QKey) : Nat → Mach
  | 0 => m
  | n + 1 =>
    let q := m.queue k
    match q.pkts with
    | x :: t =>
      if x.loc == .onDie && x.gen != m.galGen x.pkt.gallery.toNat then
        Mach.dropStale (((m.setQueue { q with pkts := t }).freeCopy x).count Reg.SWC_GFLUSH_CNT) k n
      else m
    | [] => m

/-- OLD_CNT: copies routed by table whose EPOCH differs from STAMP, queued, held by REORDER injection, or sent and
unacknowledged (13 R364). -/
def Mach.oldCnt (m : Mach) : Nat :=
  let old (e : Bool) : Bool := e != m.sw.stamp
  let queued := m.sw.queues.foldl (fun a q => a + (q.pkts.filter fun x => x.routed && old x.pkt.epoch).length) 0
  let sent := m.ports.foldl (fun a p => a + (p.sent.filter fun x => x.routed && old x.epoch).length +
    (p.fiHeld.filter fun x => x.routed && old x.pkt.epoch).length) 0
  min 0x7FFFF (queued + sent)

/-- RTE_VC0_CNT: packets in VC0 queues (13 R369). -/
def Mach.vc0Cnt (m : Mach) : Nat :=
  min 0x7FFFF (m.sw.queues.foldl (fun a q => match q.key with
    | .port _ 0 => a + q.pkts.length
    | _ => a) 0)

end Sys2Proof.Machine
end

