-- ==== Sys2Proof/Machine/Digest.lean ====
section
/-! DEFINITION. Digest.lean: SM3, and the audit chain of 08 as operations: steps of a session, their running digests and
the audit record. -/
namespace Sys2Proof.Machine

/-! ### SM3 (GB/T 32905, log 8) -/

/-- Rotate a 32-bit word left. -/
def rol (x : Word) (n : Nat) : Word := x.rotateLeft (n % 32)

/-- Permutation P0. -/
def sm3P0 (x : Word) : Word := x ^^^ rol x 9 ^^^ rol x 17

/-- Permutation P1. -/
def sm3P1 (x : Word) : Word := x ^^^ rol x 15 ^^^ rol x 23

/-- The next message word from the sixteen before it, oldest first. -/
def sm3Next (w : List Word) : Word :=
  let g (i : Nat) : Word := w.getD i 0
  sm3P1 (g 0 ^^^ g 7 ^^^ rol (g 13) 15) ^^^ rol (g 3) 7 ^^^ g 10

/-- The message words W from 16 up, by a sliding window. -/
def sm3Expand : Nat → List Word → List Word
  | 0, w => w
  | n + 1, w => w.headD 0 :: sm3Expand n (w.drop 1 ++ [sm3Next w])

/-- One round on the eight working words. -/
def sm3Round (j : Nat) (v : List Word) (w w' : Word) : List Word :=
  let g (i : Nat) : Word := v.getD i 0
  let t : Word := if j < 16 then 0x79cc4519 else 0x7a879d8a
  let ss1 := rol (rol (g 0) 12 + g 4 + rol t j) 7
  let ss2 := ss1 ^^^ rol (g 0) 12
  let ff := if j < 16 then g 0 ^^^ g 1 ^^^ g 2 else (g 0 &&& g 1) ||| (g 0 &&& g 2) ||| (g 1 &&& g 2)
  let gg := if j < 16 then g 4 ^^^ g 5 ^^^ g 6 else (g 4 &&& g 5) ||| (~~~(g 4) &&& g 6)
  let tt1 := ff + g 3 + ss2 + w'
  let tt2 := gg + g 7 + ss1 + w
  [tt1, g 0, rol (g 1) 9, g 2, sm3P0 tt2, g 4, rol (g 5) 19, g 6]

/-- The rounds from `j` on over the expanded words. -/
def sm3Rounds : Nat → Nat → List Word → List Word → List Word
  | 0, _, v, _ => v
  | n + 1, j, v, w => sm3Rounds n (j + 1) (sm3Round j v (w.headD 0) (w.headD 0 ^^^ w.getD 4 0)) (w.drop 1)

/-- Compress one 64-byte block given as sixteen big-endian words. -/
def sm3Block (v w : List Word) : List Word :=
  (v.zip (sm3Rounds 64 0 v (sm3Expand 52 w))).map fun p => p.1 ^^^ p.2

/-- A big-endian word from four bytes. -/
def beWord (b : List Byte) : Word := BitVec.ofNat 32 (leNat b.reverse)

/-- SM3 of a byte string, 32 bytes in its output byte order (08 R230). -/
def sm3 (m : List Byte) : List Byte :=
  let l := m.length
  let pad := m ++ [0x80] ++ List.replicate ((119 - l % 64) % 64) 0 ++ (leBytes 8 (8 * l)).reverse
  let blocks := piecesOf 64 (l / 64 + 2) pad
  let iv : List Word := [0x7380166f, 0x4914b2b9, 0x172442d7, 0xda8a0600, 0xa96f30bc, 0x163138aa, 0xe38dee4d, 0xb0fb0e4e]
  let v := blocks.foldl (fun v b => sm3Block v ((piecesOf 4 16 b).map beWord)) iv
  v.flatMap fun x => (leBytes 4 x.toNat).reverse

/-! ### Sessions and steps (08 R226 to R231) -/

/-- A session that is not FREE. -/
def Mach.session? (m : Mach) (n : Nat) : Option Session := m.sessions.find? fun s => s.n == n

/-- Change a session. -/
def Mach.modSession (m : Mach) (n : Nat) (f : Session → Session) : Mach :=
  { m with sessions := modFirst (fun s => s.n == n) f m.sessions }

/-- Words of a layer table entry, zeros where none is loaded; VALID of a fenced entry reads 0 (06 R152, 17 R454). -/
def Mach.layerWord (m : Mach) (i k : Nat) : Nat :=
  match m.layers.find? fun l => l.idx == i with
  | some l =>
    let w := (l.words.getD k 0).toNat
    if k = 0 && m.fencedTable (.layer i) then w % 2 ^ 31 else w
  | none => 0

/-- A field of a layer table entry. -/
def Mach.lay (m : Mach) (i k hi lo : Nat) : Nat := bits (m.layerWord i k) hi lo

/-- The five DGT_TEV counters in the order of 08 R231. -/
def Mach.tevs (m : Mach) : List Nat :=
  [(m.rd Reg.DGT_TEV_RETRY).toNat, (m.rd Reg.DGT_TEV_REFRESH).toNat, (m.rd Reg.DGT_TEV_THROTTLE).toNat,
   (m.rd Reg.DGT_TEV_CEWB).toNat, (m.rd Reg.DGT_TEV_TIME).toNat]

/-- The program digest registers of a gallery, 32 bytes. -/
def Mach.pdBytes (m : Mach) (g : Nat) : List Byte := wordBytes ((List.range 8).map fun w => m.rd (Reg.DGT_PD_G g w))

/-- A step begins at the start of FIRST_LAYER's program (08, The audit chain): the settings of R236 take effect. -/
def Mach.auditBegin (m : Mach) (s : Session) : Session :=
  let valid := m.dgt.valid.contains s.gallery
  { s with audit := { s.audit with
      on := m.flag (Reg.DGT_AUDIT_S s.n) 31, depth := m.fld (Reg.DGT_AUDIT_S s.n) 4 0,
      base := m.rd64 (Reg.DGT_AUDIT_BASE_LO_S s.n) (Reg.DGT_AUDIT_BASE_HI_S s.n), started := true, startNs := m.now,
      entries := 0, status := .ok, unreg := false, mayVary := false, stale := !valid || m.dgt.stale.contains s.gallery,
      pd := if valid then m.pdBytes s.gallery else List.replicate 32 0, ws := [], cd := 0, ld := 0, tev := m.tevs } }

/-- A layer program of the step starts: its weight record joins WS (08 R226, R227). -/
def Mach.auditEntry (m : Mach) (s : Session) : Session :=
  match m.dgt.records.find? fun r => r.layer == s.cur && r.core == s.home with
  | some r => { s with audit := { s.audit with entries := s.audit.entries + 1, ws := s.audit.ws ++ r.wd } }
  | none => { s with audit := { s.audit with entries := s.audit.entries + 1, unreg := true,
                                             ws := s.audit.ws ++ List.replicate 32 0 } }

/-- Insert a digest part by its place. -/
def partInsert (p : Nat × Nat × Nat) : List (Nat × Nat × Nat) → List (Nat × Nat × Nat)
  | [] => [p]
  | a :: t => if p.1 < a.1 || (p.1 == a.1 && decide (p.2.1 < a.2.1)) then p :: a :: t else a :: partInsert p t

/-- The parts of an entry join CD and LD in order when its program ends or fails (08 R226); of the return operations only
those of chosen experts do. -/
def auditFlush (a : Audit) : Audit :=
  let cds := a.cdParts.filter fun p => decide (p.1 < 2) || a.chosen.contains (p.1 - 2)
  { a with cd := cds.foldl (fun c p => crc64Append c (leBytes 8 p.2.2)) a.cd,
           ld := a.ldParts.foldl (fun c p => crc64Combine c p.2.2 p.2.1) a.ld, cdParts := [], ldParts := [], chosen := [] }

/-- An expert map entry: RET_GROUP and OWNER (06 R154); a fenced entry reads as zero (17 R454). -/
def Mach.expert (m : Mach) (st : Store) (i : Nat) : Nat :=
  if m.fencedTable (.expert i) then 0 else (sget zeroCell st.expmap i).toNat

/-- The session of an operation of its running entry, and its place among them (06 R158, 08 R226): ATTN_GROUP 0,
SHARED_GROUP 1, the return operation of expert e 2 + e, a PEER exchange 4,096. -/
def Mach.roleOf (m : Mach) (st : Store) (g : Group) (o : Op) : Option (Nat × Nat) :=
  match m.session? (o.seq / 2 ^ 14) with
  | none => none
  | some s =>
    if s.failed || s.gallery != g.gallery || o.seq / 2 ^ 10 % 16 != s.rseq then none
    else if o.kind = 7 then (if m.lay s.cur 1 23 12 = g.id then some (s.n, 4096) else none)
    else if o.kind != 6 then none
    else if m.lay s.cur 0 11 0 = g.id && o.seq % 2 ^ 10 = 0 then some (s.n, 0)
    else if m.lay s.cur 1 11 0 = g.id && o.seq % 2 ^ 10 = 0 then some (s.n, 1)
    else
      ((List.range (m.lay s.cur 2 10 0 + 1)).find? fun e =>
        e % 2 ^ 10 == o.seq % 2 ^ 10 && bits (m.expert st (m.lay s.cur 3 15 0 + e)) 27 16 == g.id).map fun e => (s.n, 2 + e)

/-- An operation's status and its use of arrival mode or EXCLUDE join a step's audit (08 R231). -/
def auditJoin (g : Group) (o : Op) (a : Audit) : Audit :=
  { a with status := worst a.status o.status, mayVary := a.mayVary || g.arrival || !o.excluded.isEmpty }

/-- An operation that ends joins the audit of its session's step (08 R231). -/
def Mach.auditOp (m : Mach) (st : Store) (g : Group) (o : Op) : Mach :=
  match m.roleOf st g o with
  | some (n, _) => m.modSession n fun s => { s with audit := auditJoin g o s.audit }
  | none => m

/-- The 256-byte audit record of 08 R231. -/
def Mach.auditBytes (m : Mach) (s : Session) (failed : Bool) (chain : List Byte) : List Byte :=
  let a := s.audit
  let delta := (m.tevs.zip a.tev).map fun p => (p.1 + 2 ^ 32 - p.2) % 2 ^ 32
  let stale := a.stale || m.dgt.stale.contains s.gallery
  let flags := b2n stale * 16 + b2n a.unreg * 8 + b2n a.mayVary * 4 + b2n (delta.any (· != 0)) * 2 + b2n failed
  leBytes 8 a.step ++
    leBytes 4 (statusCode a.status * 2 ^ 28 + flags * 2 ^ 23 + a.entries % 256 * 2 ^ 8 + s.gallery * 4 + s.n) ++
    leBytes 4 1 ++ leBytes 8 a.startNs ++ leBytes 8 m.now ++ a.chain ++ a.pd ++ sm3 a.ws ++ leBytes 8 a.cd ++
    leBytes 8 a.ld ++ chain ++ delta.flatMap (leBytes 4) ++ List.replicate 60 0

/-- End a step (08 R230 to R233): the chain value, the record through Jionuk, AUDIT_STEP; STEP advances. -/
def Mach.auditEnd (m : Mach) (n : Nat) (failed : Bool) : Mach :=
  match m.session? n with
  | none => m
  | some s0 =>
    let s := { s0 with audit := auditFlush s0.audit }
    let a := s.audit
    if !a.started then m.modSession n fun _ => s
    else if !a.on then m.modSession n fun _ => { s with audit := { a with step := a.step + 1, started := false } }
    else
      let chain := if failed then a.chain else
        sm3 (a.chain ++ a.pd ++ sm3 a.ws ++ leBytes 8 a.cd ++ leBytes 8 a.ld)
      let rec256 := m.auditBytes s failed chain
      let addr := a.base + a.step % 2 ^ a.depth * 256
      let m1 := (List.range 4).foldl (fun b i =>
        b.jnkReq 4 (addr + 64 * i) ((rec256.drop (64 * i)).take 64) (.audit n)) m
      let m2 := (List.range 8).foldl (fun b w =>
        b.wr (Reg.DGT_CHAIN_S n w) (BitVec.ofNat 32 (leNat ((chain.drop (4 * w)).take 4)))) m1
      let m3 := m2.galEvent s.gallery 0x06 noFault
        [leNat ((rec256.drop 8).take 4) / 2 ^ 23 * 2 ^ 23 + s.gallery * 4 + n, a.step % 2 ^ 32, leNat (chain.take 4),
          leNat ((chain.drop 4).take 4), 0]
      m3.modSession n fun _ => { s with audit := { a with chain := chain, step := a.step + 1, started := false } }

/-- A table update of a gallery, or of a program store when `g` is none, marks program digests STALE (08 R229, R234). -/
def Mach.markStale (m : Mach) (g : Option Nat) : Mach :=
  let add := match g with
    | some x => if m.dgt.valid.contains x && !m.dgt.stale.contains x then [x] else []
    | none => m.dgt.valid.filter fun x => !m.dgt.stale.contains x
  { m with dgt := { m.dgt with stale := add ++ m.dgt.stale } }

end Sys2Proof.Machine
end

