-- ==== Sys2Proof/Machine/Operands.lean ====
section
/-! DEFINITION. Operands.lean: the tensor number formats of 02: the sixteen format codes, FP32 arithmetic, decoding of
a tile to FP32 or INT32, encoding from FP32 or INT32, microscaling blocks and ABF4. -/
namespace Sys2Proof.Machine

/-! ### Format codes (R24 to R27) -/

/-- The family of a format (R24). -/
inductive Family where
  | float | integer | bitwise
  deriving DecidableEq, Repr

/-- A format code the module knows (R24); 16 is B32, 17 to 31 are reserved. -/
def fmtKnown (f : Nat) : Bool := decide (f ≤ 16)

/-- Family of a known format code (R24). -/
def fmtFamily (f : Nat) : Family :=
  if f ≤ 10 || f = 15 then .float else if f = 16 then .bitwise else .integer

/-- Tile payload in bytes of a format other than ABF4, and the shortest ABF4 tile (R24). -/
def fmtBytes (f : Nat) : Nat :=
  match f with
  | 0 => 4096 | 1 => 2048 | 2 => 2048 | 3 => 1024 | 4 => 1024 | 5 => 1056 | 6 => 1056 | 7 => 800 | 8 => 800
  | 9 => 544 | 10 => 1056 | 11 => 4096 | 12 => 2048 | 13 => 1024 | 14 => 512 | 15 => 548 | 16 => 4096
  | _ => 0

/-- Accepted as a dispatch format of SND (R26). -/
def fmtDispatchOk (f : Nat) : Bool := fmtKnown f && fmtFamily f == .float

/-- Accepted as an MMA operand (R26). -/
def fmtMmaOk (f : Nat) : Bool := (decide (1 ≤ f) && decide (f ≤ 10)) || f == 13 || f == 14

/-- An ABF4 tile's length from its flare bitmap (R43). -/
def abf4Bytes (bitmap : Nat) : Nat := 548 + 16 * popCount 32 bitmap

/-- Element width in bits in which MMA reckons a product's rate: 16, 8 or 4 (R56). -/
def fmtMmaWidth (f : Nat) : Nat :=
  if f = 1 || f = 2 then 16 else if f = 9 || f = 14 then 4 else 8

/-! ### FP32 (R28 to R33) -/

/-- Sign bit of an FP32 word. -/
def fSign (x : Word) : Bool := bitOf x.toNat 31

/-- Exponent field. -/
def fExp (x : Word) : Nat := bits x.toNat 30 23

/-- Mantissa field. -/
def fMan (x : Word) : Nat := bits x.toNat 22 0

/-- NaN: exponent 0xFF, mantissa not 0 (R28). -/
def fIsNan (x : Word) : Bool := fExp x == 255 && fMan x != 0

/-- Infinity (R28). -/
def fIsInf (x : Word) : Bool := fExp x == 255 && fMan x == 0

/-- Subnormal: exponent 0, mantissa not 0. -/
def fIsSub (x : Word) : Bool := fExp x == 0 && fMan x != 0

/-- Zero of either sign. -/
def fIsZero (x : Word) : Bool := fExp x == 0 && fMan x == 0

/-- The canonical FP32 NaN (R29). -/
def fNan : Word := 0x7FC00000

/-- Zero with a sign. -/
def fZero (s : Bool) : Word := if s then 0x80000000 else 0

/-- Infinity with a sign. -/
def fInf (s : Bool) : Word := if s then 0xFF800000 else 0x7F800000

/-- Largest finite value with a sign. -/
def fMax (s : Bool) : Word := if s then 0xFF7FFFFF else 0x7F7FFFFF

/-- 1.0. -/
def fOne : Word := 0x3F800000

/-- A subnormal input reads as a zero of its sign (R32). -/
def fFlush (x : Word) : Word := if fIsSub x then fZero (fSign x) else x

/-- Significand of a finite, flushed FP32 word as an integer: the value is `fSig × 2^fQ`. -/
def fSig (x : Word) : Nat := if fExp x = 0 then 0 else 2 ^ 23 + fMan x

/-- Exponent of the unit of `fSig`. -/
def fQ (x : Word) : Int := (fExp x : Int) - 150

/-- Signed significand. -/
def fSigI (x : Word) : Int := if fSign x then -(fSig x : Int) else (fSig x : Int)

/-- What one FP32 operation gives: the word, whether arithmetic made a NaN from operands that were none (R33), and
whether a nonzero value became zero (R31, R53). -/
structure FRes where
  bits : Word
  nan : Bool := false
  flush : Bool := false
  deriving DecidableEq, Repr

/-- Round `m × 2^e` (sign `s`) to FP32: nearest even with unbounded exponent, then flush below the smallest normal,
then infinity above the largest finite (R30 to R33). -/
def fRound (s : Bool) (m : Nat) (e : Int) : FRes :=
  if m = 0 then { bits := fZero s }
  else
    let p : Int := (Nat.log2 m : Int) + e
    let k := rneShift m (e - (p - 23))
    let p' := if k = 2 ^ 24 then p + 1 else p
    let k' := if k = 2 ^ 24 then 2 ^ 23 else k
    if p' < -126 then { bits := fZero s, flush := true }
    else if 127 < p' then { bits := fInf s }
    else { bits := BitVec.ofNat 32 ((if s then 2 ^ 31 else 0) + (p' + 127).toNat * 2 ^ 23 + (k' - 2 ^ 23)) }

/-- Round a signed exact dyadic; an exact zero takes sign `z`. -/
def fRoundI (z : Bool) (m : Int) (e : Int) : FRes :=
  if m = 0 then { bits := fZero z } else fRound (decide (m < 0)) m.natAbs e

/-- Exact sum of two dyadics `m1 × 2^e1 + m2 × 2^e2`, as a mantissa over the smaller exponent. -/
def dyAdd (m1 : Int) (e1 : Int) (m2 : Int) (e2 : Int) : Int × Int :=
  if e1 ≤ e2 then (m1 + m2 * 2 ^ (e2 - e1).toNat, e1) else (m1 * 2 ^ (e1 - e2).toNat + m2, e2)

/-- FP32 addition (R30, R33): opposite infinities give NaN, an exact cancellation gives +0, two negative zeros −0. -/
def fAdd (a0 b0 : Word) : FRes :=
  let a := fFlush a0
  let b := fFlush b0
  if fIsNan a || fIsNan b then { bits := fNan }
  else if fIsInf a then
    if fIsInf b && (fSign a != fSign b) then { bits := fNan, nan := true } else { bits := a }
  else if fIsInf b then { bits := b }
  else
    let s := dyAdd (fSigI a) (fQ a) (fSigI b) (fQ b)
    fRoundI (fSign a && fSign b) s.1 s.2

/-- FP32 multiplication (R30, R33): zero times infinity gives NaN. -/
def fMul (a0 b0 : Word) : FRes :=
  let a := fFlush a0
  let b := fFlush b0
  let s := fSign a != fSign b
  if fIsNan a || fIsNan b then { bits := fNan }
  else if fIsInf a || fIsInf b then
    if fIsZero a || fIsZero b then { bits := fNan, nan := true } else { bits := fInf s }
  else fRound s (fSig a * fSig b) (fQ a + fQ b)

/-- Fused multiply-add `a × b + c`, rounded once (R30). -/
def fFma (a0 b0 c0 : Word) : FRes :=
  let a := fFlush a0
  let b := fFlush b0
  let c := fFlush c0
  let s := fSign a != fSign b
  if fIsNan a || fIsNan b || fIsNan c then { bits := fNan }
  else if fIsInf a || fIsInf b then
    if fIsZero a || fIsZero b then { bits := fNan, nan := true }
    else if fIsInf c && (fSign c != s) then { bits := fNan, nan := true }
    else { bits := fInf s }
  else if fIsInf c then { bits := c }
  else
    let pm : Int := if s then -((fSig a * fSig b : Nat) : Int) else ((fSig a * fSig b : Nat) : Int)
    let t := dyAdd pm (fQ a + fQ b) (fSigI c) (fQ c)
    fRoundI (s && fSign c) t.1 t.2

/-- Order of two FP32 words that are no NaN, with −0 below +0: −1, 0 or 1 by their sign-magnitude codes. -/
def fKey (x : Word) : Int :=
  if fSign x then -((bits x.toNat 30 0 : Nat) : Int) - 1 else ((bits x.toNat 30 0 : Nat) : Int)

/-- Magnitude of an FP32 word. -/
def fAbs (x : Word) : Word := BitVec.ofNat 32 (bits x.toNat 30 0)

/-- An FP32 word of an exact integer, rounded (R55). -/
def fOfInt (i : Int) : FRes := fRoundI false i 0

/-! ### Elements -/

/-- Where a NaN was met (R52, KIND). -/
inductive NanKind where
  | input | scale | arith | mxInput | operand
  deriving DecidableEq, Repr

/-- The KIND code of R52. -/
def NanKind.code : NanKind → Nat
  | .input => 0 | .scale => 1 | .arith => 2 | .mxInput => 3 | .operand => 4

/-- A decoded element: its FP32 word (INT32 or B32 for those families), the NaN it is with the raw bits, and the
events of R53. -/
structure Elem where
  bits : Word
  nan : Option (NanKind × Word) := none
  sat : Bool := false
  flush : Bool := false
  deriving DecidableEq, Repr

/-- Layout of a float code: exponent bits, mantissa bits, bias; whether it has infinities; its largest finite code. -/
structure FloatFmt where
  eb : Nat
  mb : Nat
  bias : Nat
  inf : Bool
  maxCode : Nat
  nanCode : Nat
  deriving DecidableEq, Repr

/-- BF16 (R28, R29). -/
def bf16 : FloatFmt := ⟨8, 7, 127, true, 0x7F7F, 0x7FC0⟩
/-- FP16 (R28, R29). -/
def fp16 : FloatFmt := ⟨5, 10, 15, true, 0x7BFF, 0x7E00⟩
/-- FP8 E4M3 (R28, R29). -/
def e4m3 : FloatFmt := ⟨4, 3, 7, false, 0x7E, 0x7F⟩
/-- FP8 E5M2 (R28, R29). -/
def e5m2 : FloatFmt := ⟨5, 2, 15, true, 0x7B, 0x7E⟩
/-- FP6 E3M2 (R38). -/
def e3m2 : FloatFmt := ⟨3, 2, 3, false, 0x1F, 0⟩
/-- FP6 E2M3 (R38). -/
def e2m3 : FloatFmt := ⟨2, 3, 1, false, 0x1F, 0⟩
/-- FP4 E2M1 (R38). -/
def e2m1 : FloatFmt := ⟨2, 1, 1, false, 0x7, 0⟩

/-- Width of a code in bits. -/
def FloatFmt.width (f : FloatFmt) : Nat := 1 + f.eb + f.mb

/-- Magnitude of a code as `(m, q)`: the value is m × 2^q, subnormal codes included (R40). -/
def FloatFmt.mag (f : FloatFmt) (c : Nat) : Nat × Int :=
  let ex := c / 2 ^ f.mb % 2 ^ f.eb
  let mn := c % 2 ^ f.mb
  if ex = 0 then (mn, 1 - (f.bias : Int) - f.mb) else (2 ^ f.mb + mn, (ex : Int) - f.bias - f.mb)

/-- A code that is NaN: above the largest finite code and no infinity (R28, R38); the MX types of six and four bits
have none. -/
def FloatFmt.isNan (f : FloatFmt) (c : Nat) : Bool :=
  let m := c % 2 ^ (f.eb + f.mb)
  f.nanCode != 0 && decide (f.maxCode + b2n f.inf < m)

/-- A code that is an infinity. -/
def FloatFmt.isInf (f : FloatFmt) (c : Nat) : Bool :=
  f.inf && c % 2 ^ (f.eb + f.mb) == f.maxCode + 1

/-- Decode a scalar float code to FP32, subnormal inputs flushed (R32, R55). -/
def decScalar (f : FloatFmt) (c : Nat) : Elem :=
  let s := bitOf c (f.eb + f.mb)
  if f.isNan c then { bits := fNan, nan := some (.input, BitVec.ofNat 32 c) }
  else if f.isInf c then { bits := fInf s }
  else
    let ex := c / 2 ^ f.mb % 2 ^ f.eb
    if ex = 0 then { bits := fZero s, flush := c % 2 ^ f.mb != 0 }
    else
      let m := f.mag c
      { bits := (fRound s m.1 m.2).bits }

/-- Decode an FP32 element: a NaN traps, a subnormal flushes (R32). -/
def decFp32 (x : Word) : Elem :=
  if fIsNan x then { bits := fNan, nan := some (.input, x) }
  else { bits := fFlush x, flush := fIsSub x }

/-- Decode an MX float element with scale byte `sc` (R41). -/
def decMx (f : FloatFmt) (sc c : Nat) : Elem :=
  let s := bitOf c (f.eb + f.mb)
  if sc = 255 then { bits := fNan, nan := some (.scale, 0xFF) }
  else if f.isNan c then { bits := fNan, nan := some (.input, BitVec.ofNat 32 c) }
  else if f.isInf c then { bits := fInf s }
  else
    let m := f.mag c
    let r := fRound s m.1 (m.2 + (sc : Int) - 127)
    if fIsInf r.bits then { bits := fMax s, sat := true } else { bits := r.bits, flush := r.flush }

/-- Decode an MXINT8 element k × 2^-6 with its scale (R38, R39, R41). -/
def decMxInt (sc c : Nat) : Elem :=
  let k := sext 8 c
  if sc = 255 then { bits := fNan, nan := some (.scale, 0xFF) }
  else
    let r := fRoundI false k ((sc : Int) - 133)
    if fIsInf r.bits then { bits := fMax (decide (k < 0)), sat := true } else { bits := r.bits, flush := r.flush }

/-- Decode a two's-complement element of `w` bits to INT32 (R48, R55). -/
def decInt (w c : Nat) : Elem := { bits := BitVec.ofNat 32 (tcBits 32 (sext w c)) }

/-- The blocks of a microscaled tile: 32 scales, then element codes of `w` bits in block order (R37). -/
def decMxTile (dec : Nat → Nat → Elem) (w : Nat) (x : Nat) : List Elem :=
  let scales := unpackCodes 8 32 x
  let data := unpackCodes w 1024 (x / 2 ^ 256)
  data.zipIdx.map fun p => dec (scales.getD (p.2 / 32) 0) p.1

/-- Decode blocks of an ABF4 tile in order from their packed data (R43). -/
def decAbf4Blocks (bitmap : Nat) : List Nat → Nat → Nat → List Elem
  | [], _, _ => []
  | sc :: t, b, x =>
    if bitOf bitmap b then
      (unpackCodes 8 32 x).map (decMx e4m3 sc) ++ decAbf4Blocks bitmap t (b + 1) (x / 2 ^ 256)
    else
      (unpackCodes 4 32 x).map (decMx e2m1 sc) ++ decAbf4Blocks bitmap t (b + 1) (x / 2 ^ 128)

/-- Decode an ABF4 tile (R43, R44). -/
def decAbf4 (x : Nat) : List Elem :=
  decAbf4Blocks (x % 2 ^ 32) (unpackCodes 8 32 (x / 2 ^ 32)) 0 (x / 2 ^ 288)

/-- The 1,024 elements of a tile payload, given as the number its bytes spell (R24, R28, R37, R43, R48). -/
def decodeTile (f x : Nat) : List Elem :=
  match f with
  | 0 => (unpackCodes 32 1024 x).map fun c => decFp32 (BitVec.ofNat 32 c)
  | 1 => (unpackCodes 16 1024 x).map (decScalar bf16)
  | 2 => (unpackCodes 16 1024 x).map (decScalar fp16)
  | 3 => (unpackCodes 8 1024 x).map (decScalar e4m3)
  | 4 => (unpackCodes 8 1024 x).map (decScalar e5m2)
  | 5 => decMxTile (decMx e4m3) 8 x
  | 6 => decMxTile (decMx e5m2) 8 x
  | 7 => decMxTile (decMx e3m2) 6 x
  | 8 => decMxTile (decMx e2m3) 6 x
  | 9 => decMxTile (decMx e2m1) 4 x
  | 10 => decMxTile decMxInt 8 x
  | 11 => (unpackCodes 32 1024 x).map (decInt 32)
  | 12 => (unpackCodes 16 1024 x).map (decInt 16)
  | 13 => (unpackCodes 8 1024 x).map (decInt 8)
  | 14 => (unpackCodes 4 1024 x).map (decInt 4)
  | 15 => decAbf4 x
  | 16 => (unpackCodes 32 1024 x).map fun c => { bits := BitVec.ofNat 32 c }
  | _ => []

/-! ### Encoding -/

/-- An encoded code with the events of R53. -/
structure Code where
  code : Nat
  sat : Bool := false
  flush : Bool := false
  deriving DecidableEq, Repr

/-- Encode `m × 2^e` of sign `s` into a scalar float format (R30 to R33). -/
def encFinite (f : FloatFmt) (s : Bool) (m : Nat) (e : Int) : Code :=
  let sg := if s then 2 ^ (f.eb + f.mb) else 0
  if m = 0 then { code := sg }
  else
    let p : Int := (Nat.log2 m : Int) + e
    let k := rneShift m (e - (p - f.mb))
    let c : Int := (p + f.bias - 1) * (2 : Int) ^ f.mb + k
    if p + (f.bias : Int) < 1 && c < (2 : Int) ^ f.mb then { code := sg, flush := true }
    else if (f.maxCode : Int) < c then
      if f.inf then { code := sg + f.maxCode + 1 } else { code := sg + f.maxCode, sat := true }
    else { code := sg + c.toNat }

/-- Encode an FP32 word into a scalar float format; NaN gives the canonical code, infinity saturates where the format
has none (R29, R33). -/
def encScalar (f : FloatFmt) (x0 : Word) : Code :=
  let x := fFlush x0
  let s := fSign x
  let sg := if s then 2 ^ (f.eb + f.mb) else 0
  if fIsNan x then { code := f.nanCode }
  else if fIsInf x then
    if f.inf then { code := sg + f.maxCode + 1 } else { code := sg + f.maxCode, sat := true }
  else
    let r := encFinite f s (fSig x) (fQ x)
    { r with flush := r.flush || fIsSub x0 }

/-- `round_element` of R42 for a float element, of a nonzero magnitude m × 2^e already scaled. -/
def roundElement (f : FloatFmt) (s : Bool) (m : Nat) (e : Int) : Code :=
  let sg := if s then 2 ^ (f.eb + f.mb) else 0
  if m = 0 then { code := sg }
  else
    let p : Int := (Nat.log2 m : Int) + e
    let qe : Int := if p < 1 - (f.bias : Int) then 1 - (f.bias : Int) - f.mb else p - f.mb
    let k := rneShift m (e - qe)
    if k = 0 then { code := sg, flush := true }
    else
      let c : Int := (qe + f.mb + f.bias - 1) * (2 : Int) ^ f.mb + k
      if (f.maxCode : Int) < c then { code := sg + f.maxCode, sat := true } else { code := sg + c.toNat }

/-- `round_element` of R42 for MXINT8. -/
def roundElementInt (s : Bool) (m : Nat) (e : Int) : Code :=
  let k := rneShift m (e + 6)
  let k' := min k 127
  { code := tcBits 8 (if s then -(k' : Int) else k'), sat := decide (127 < k), flush := k == 0 && m != 0 }

/-- An encoded block: scale byte, element codes, events, and the lowest element that made it a NaN block. -/
structure Block where
  scale : Nat
  codes : List Nat
  sat : Nat
  flush : Nat
  bad : Option Nat
  deriving DecidableEq, Repr

/-- `encode_mx` of R42: choose the shared scale from the 32 values and round each element; `emax` by R38. -/
def encodeMx (emax : Int) (rnd : Bool → Nat → Int → Code) (vs : List Word) : Block :=
  match indicesOf (fun v => fIsNan v || fIsInf v) vs with
  | i :: _ => ⟨255, vs.map fun _ => 0, 0, 0, some i⟩
  | [] =>
    let m := vs.foldl (fun a v => max a (bits v.toNat 30 23)) 0
    if m = 0 then
      let cs := vs.map fun v => rnd (fSign v) 0 0
      ⟨127, cs.map (·.code), 0, 0, none⟩
    else
      let e : Int := max (-127) ((m : Int) - 127 - emax)
      let cs := vs.map fun v => rnd (fSign v) (fSig v) (fQ v - e)
      ⟨(e + 127).toNat, cs.map (·.code), (cs.filter (·.sat)).length, (cs.filter (·.flush)).length, none⟩

/-- The MX block encoder of a format code (R38): element exponent of the largest power of two and rounding. -/
def encodeMxOf (f : Nat) : List Word → Block :=
  match f with
  | 5 => encodeMx 8 (roundElement e4m3)
  | 6 => encodeMx 15 (roundElement e5m2)
  | 7 => encodeMx 4 (roundElement e3m2)
  | 8 => encodeMx 2 (roundElement e2m3)
  | 9 => encodeMx 2 (roundElement e2m1)
  | _ => encodeMx 0 roundElementInt

/-- Element width of an MX format. -/
def mxWidth (f : Nat) : Nat := if f = 7 || f = 8 then 6 else if f = 9 then 4 else 8

/-- An encoded tile: its bytes, the counts of R53 and, for MX and ABF4, the lowest element of the tile whose block
held a NaN or an infinity. -/
structure Encoded where
  payload : List Byte
  sat : Nat
  flush : Nat
  bad : List Nat
  deriving DecidableEq, Repr

/-- Join encoded blocks under R37: scales first, then the element data. -/
def joinMx (w : Nat) (bs : List Block) : Encoded :=
  { payload := bs.map (fun b => BitVec.ofNat 8 b.scale) ++
      bs.flatMap (fun b => leBytes (4 * w) (packCodes w b.codes)),
    sat := sumOf (·.sat) bs, flush := sumOf (·.flush) bs,
    bad := bs.zipIdx.filterMap fun p => p.1.bad.map (· + 32 * p.2) }

/-- `encode_abf4` of R45: the block and whether it flared. -/
def encodeAbf4Block (fs ff : Nat) (vs : List Word) : Block × Bool :=
  let b4 := encodeMxOf 9 vs
  if b4.bad.isSome then (b4, false)
  else if fs < b4.sat || ff < b4.flush then (encodeMxOf 5 vs, true)
  else (b4, false)

/-- Join ABF4 blocks under R43: bitmap, scales, data. -/
def joinAbf4 (bs : List (Block × Bool)) : Encoded :=
  { payload := leBytes 4 (bitsMask (indicesOf (fun b => b.2) bs)) ++
      bs.map (fun b => BitVec.ofNat 8 b.1.scale) ++
      bs.flatMap (fun b => if b.2 then leBytes 32 (packCodes 8 b.1.codes) else leBytes 16 (packCodes 4 b.1.codes)),
    sat := sumOf (·.1.sat) bs, flush := sumOf (·.1.flush) bs,
    bad := bs.zipIdx.filterMap fun p => p.1.1.bad.map (· + 32 * p.2) }

/-- Join scalar codes of `w` bits. -/
def joinCodes (w : Nat) (cs : List Code) : Encoded :=
  { payload := leBytes (w * cs.length / 8) (packCodes w (cs.map (·.code))),
    sat := (cs.filter (·.sat)).length, flush := (cs.filter (·.flush)).length, bad := [] }

/-- Narrow an INT32 to `w` bits: saturate, or wrap when INT_WRAP is 1 (R49). -/
def narrowInt (w : Nat) (wrap : Bool) (i : Int) : Code :=
  let lo : Int := -(2 : Int) ^ (w - 1)
  let hi : Int := (2 : Int) ^ (w - 1) - 1
  let c := max lo (min hi i)
  if c = i then { code := tcBits w i }
  else { code := tcBits w (if wrap then i else c), sat := true }

/-- Convert an FP32 word to an integer of `w` bits: nearest even, then saturate or wrap; infinity saturates; NaN gives
the most negative value (R49, R51). -/
def floatToInt (w : Nat) (wrap : Bool) (x0 : Word) : Code :=
  let x := fFlush x0
  if fIsNan x then { code := 2 ^ (w - 1) }
  else if fIsInf x then { code := if fSign x then 2 ^ (w - 1) else 2 ^ (w - 1) - 1, sat := true }
  else
    let k : Int := (rneShift (fSig x) (fQ x) : Int)
    let r := narrowInt w wrap (if fSign x then -k else k)
    { r with flush := fIsSub x0 }

/-- Integer width of a format code of the integer family. -/
def intWidth (f : Nat) : Nat := if f = 11 then 32 else if f = 12 then 16 else if f = 13 then 8 else 4

/-- Count `n` more flushes: subnormal inputs flushed before a block is encoded (R32, R34). -/
def Encoded.addFlush (e : Encoded) (n : Nat) : Encoded := { e with flush := e.flush + n }

/-- Encode 1,024 FP32 words into a float-family format; `fs` and `ff` are the flare thresholds of R45. -/
def encodeFloatTile (f fs ff : Nat) (vs : List Word) : Encoded :=
  match f with
  | 0 => joinCodes 32 (vs.map fun v => { code := (if fIsNan v then fNan else fFlush v).toNat, flush := fIsSub v })
  | 1 => joinCodes 16 (vs.map (encScalar bf16))
  | 2 => joinCodes 16 (vs.map (encScalar fp16))
  | 3 => joinCodes 8 (vs.map (encScalar e4m3))
  | 4 => joinCodes 8 (vs.map (encScalar e5m2))
  | 15 => (joinAbf4 ((piecesOf 32 32 (vs.map fFlush)).map (encodeAbf4Block fs ff))).addFlush (vs.filter fIsSub).length
  | _ => (joinMx (mxWidth f) ((piecesOf 32 32 (vs.map fFlush)).map (encodeMxOf f))).addFlush (vs.filter fIsSub).length

/-- Encode 1,024 FP32 words into an integer format (R49, R51). -/
def encodeFloatToInt (f : Nat) (wrap : Bool) (vs : List Word) : Encoded :=
  joinCodes (intWidth f) (vs.map (floatToInt (intWidth f) wrap))

/-- Encode 1,024 INT32 words into an integer format (R49). -/
def encodeIntTile (f : Nat) (wrap : Bool) (vs : List Word) : Encoded :=
  joinCodes (intWidth f) (vs.map fun v => narrowInt (intWidth f) wrap v.toInt)

/-- Encode 1,024 B32 words (R48). -/
def encodeBitTile (vs : List Word) : Encoded :=
  { payload := wordBytes vs, sat := 0, flush := 0, bad := [] }

/-- INT32 addition that saturates, or wraps when INT_WRAP is 1 (R49), with its event. -/
def intAdd (wrap : Bool) (a b : Word) : Word × Bool :=
  let c := narrowInt 32 wrap (a.toInt + b.toInt)
  (BitVec.ofNat 32 c.code, c.sat)

end Sys2Proof.Machine
end

