-- ==== Sys2Proof/Machine/Groups.lean ====
section
/-! DEFINITION. Groups.lean: collective groups of 03: the group entry, reservations, operations ending, members failing,
the group commands, straggler expiry and re-forming. -/
namespace Sys2Proof.Machine

/-! ### REASON values (03 R69) -/

/-- REASON of 03 R69. -/
inductive Reason where
  | none | noSlots | noParking | quota | membersFull | idInUse | badEntry | rankConflict | arithRev | busy | notFound
  | coreAbsent
  deriving DecidableEq, Repr

/-- The 4-bit REASON code. -/
def reasonCode : Reason → Nat
  | .none => 0 | .noSlots => 1 | .noParking => 2 | .quota => 3 | .membersFull => 4 | .idInUse => 5 | .badEntry => 6
  | .rankConflict => 7 | .arithRev => 8 | .busy => 9 | .notFound => 10 | .coreAbsent => 11

/-! ### Looking at groups -/

/-- The group with an ID, if it is not FREE. -/
def Mach.group? (m : Mach) (id : Nat) : Option Group := m.groups.find? fun g => g.id == id

/-- Change a group. -/
def Mach.modGroup (m : Mach) (id : Nat) (f : Group → Group) : Mach :=
  { m with groups := modFirst (fun g => g.id == id) f m.groups }

/-- OUTSTANDING: operations started and not yet complete (03 R60). -/
def Group.outstanding (g : Group) : Nat := (g.ops.filter fun o => !o.complete).length

/-- PRESENT members in table order. -/
def Group.present (g : Group) : List Member := g.members.filter fun x => x.mstate == .present

/-- The reduction core set in ascending logical order (01 R17). -/
def Group.cores (g : Group) : List Nat := setBitsOf 32 g.redCores

/-- The reduction core of a global tile (01 R17). -/
def Group.coreOf (g : Group) (tile : Nat) : Nat :=
  g.cores.getD (tile / g.planes % max 1 g.cores.length) 0

/-- The operation with a sequence number that has not completed. -/
def Group.op? (g : Group) (seq : Nat) : Option Op := g.ops.find? fun o => o.seq == seq && !o.complete

/-- Change an operation that has not completed. -/
def Group.modOp (g : Group) (seq : Nat) (f : Op → Op) : Group :=
  { g with ops := modFirst (fun o => o.seq == seq && !o.complete) f g.ops }

/-- An operation that has ended is remembered (03 R82). -/
def Mach.remembers (m : Mach) (id seq : Nat) : Bool :=
  m.ended.any fun e => e.group == id && e.seq == seq && decide (m.now - e.at_ ≤ Config.lateHoldNs)

/-! ### Reservation (03 R65 to R68) -/

/-- Contribution tile bytes of a format in a reservation (03 R65). -/
def reserveBytes (f : Nat) : Nat := if f = 15 then 1060 else fmtBytes f

/-- Parking in KiB for `mm` members (03 R65). -/
def parkKibFor (spine : Bool) (cfmt w mm : Nat) : Nat :=
  let b := if spine then 4096 else reserveBytes cfmt
  let blocks := if spine then 0 else (mm + 15) / 16 * w * 4096
  (mm * w * b + blocks + 1023) / 1024

/-- Hub dies charged for a core set, as bits 0 and 1 (03 R67). -/
def diesOf (cores : Nat) : Nat := (if cores % 65536 = 0 then 0 else 1) + (if cores / 65536 = 0 then 0 else 2)

/-- Slots reserved on a hub die. -/
def Mach.slotsUsed (m : Mach) (die : Nat) : Nat := sumOf (fun g => if bitOf g.dies die then g.slots else 0) m.groups

/-- Parking reserved on a hub die, in KiB. -/
def Mach.parkUsed (m : Mach) (die : Nat) : Nat := sumOf (fun g => if bitOf g.dies die then g.parkKib else 0) m.groups

/-- Member table entries in use (03 R61). -/
def Mach.membersUsed (m : Mach) : Nat := sumOf (fun g => g.members.length) m.groups

/-- Why a reservation does not fit, beyond what the groups listed already hold (03 R67): slots, parking, quota. -/
def Mach.reserveFails (m : Mach) (gal dies slots park : Nat) : Option Reason :=
  let on (d : Nat) : Bool := bitOf dies d
  let n := popCount 2 dies
  let galSlots := sumOf (fun g => if g.gallery == gal then g.slots * popCount 2 g.dies else 0) m.groups
  let galPark := sumOf (fun g => if g.gallery == gal then g.parkKib * popCount 2 g.dies else 0) m.groups
  if (on 0 && decide (12288 < m.slotsUsed 0 + slots)) || (on 1 && decide (12288 < m.slotsUsed 1 + slots)) then some .noSlots
  else if (on 0 && decide (16384 < m.parkUsed 0 + park)) || (on 1 && decide (16384 < m.parkUsed 1 + park)) then some .noParking
  else if m.fld (Reg.GRP_QUOTA_G gal) 14 0 < galSlots + n * slots || m.fld (Reg.GRP_QUOTA_G gal) 31 16 < galPark + n * park
  then some .quota
  else none

/-! ### Units compared (03 R70, 10 R280) -/

/-- The ports behind a member: its TARGET port, or the candidates of its FEID's route entry in the bank of STAMP. -/
def Mach.portsBehind (m : Mach) (st : Store) (g : Group) (x : Member) : List Nat :=
  if g.peer then (if x.target = 0x8000 then [] else [x.target])
  else if g.tier = 2 then [x.target]
  else
    let e := st.routeEntry (b2n m.sw.stamp) x.target
    if reValid e then reCands e else []

/-- The ports behind a member whose unit does group arithmetic: a spine's leaves and another plane (03 R70). -/
def Mach.arithPorts (m : Mach) (st : Store) (g : Group) (x : Member) : List Nat :=
  if g.peer || g.tier == 2 then m.portsBehind st g x else []

/-- The lowest Trovor revision that a group's features need (10 R280). -/
def Group.needsRev (g : Group) : Nat :=
  if g.peer then 3 else if g.tier ≠ 0 || g.cfmt = 15 || g.rfmt = 15 then 2 else 1

/-- A partner compared at a port breaks the arithmetic revision of the group: switches only (03 R70). -/
def Mach.arithBreaks (m : Mach) (g : Group) (f : Nat) : Bool :=
  match (m.port? f).bind (·.partner) with
  | some i => i.kind == 0 && i.arithRev.toNat != g.arithRev && !g.allowMixed
  | none => false

/-- A partner at a port lacks a Trovor feature the group uses (10 R280). -/
def Mach.featureBreaks (m : Mach) (g : Group) (f : Nat) : Bool :=
  match m.port? f with
  | some p => p.partnerSeen && p.negRev != 0 && decide (p.negRev < g.needsRev)
  | none => false

/-- Every port of a group at which `of` finds a unit: those behind its members and a leaf's uplink. -/
def Group.comparedPorts (g : Group) (of : Member → List Nat) : List Nat :=
  g.members.flatMap of ++ (if g.tier = 1 then [g.uplink] else [])

/-! ### Result packets (04 R95 to R97) -/

/-- The 32-byte trailer of a PARTIAL or RESULT (04 R97). -/
def trailer32 (status : Nat) (close empty : Bool) (present credit sat flush td cd : Nat) : List Byte :=
  leBytes 4 (status * 2 ^ 28 + b2n close * 2 ^ 27 + b2n empty * 2 ^ 26 + 1 * 2 ^ 18 + present * 2 ^ 7 + credit) ++
    leBytes 4 (min sat 0xFFFF * 2 ^ 16 + min flush 0xFFFF) ++ leBytes 8 td ++ leBytes 8 cd ++ List.replicate 8 0

/-- The ROOT of a control word: named by BROADCAST and REDUCE_TO_ROOT only (04 R96). -/
def Op.rootField (o : Op) : Nat := if o.kind = 3 || o.kind = 5 then o.root else 0

/-- A RESULT packet of an operation (04 R95). -/
def Mach.resultPacket (m : Mach) (g : Group) (o : Op) (tile seg rank : Nat) (payload trailer : List Byte) : Packet :=
  { type := 10, vc := 3, epoch := m.sw.stamp, gallery := BitVec.ofNat 6 g.gallery,
    length := BitVec.ofNat 13 payload.length, dest := 0xFFF1, src := 0xFFF1,
    flow := BitVec.ofNat 20 (o.kind * 2 ^ 17 + o.rootField * 2 ^ 7), group := BitVec.ofNat 12 g.id,
    opSeq := BitVec.ofNat 16 o.seq, tile := BitVec.ofNat 16 tile, segment := BitVec.ofNat 8 seg,
    format := BitVec.ofNat 5 g.rfmt, rank := BitVec.ofNat 10 rank,
    payload := payload, trailer := trailer }

/-- The copies of a result for members: by FEID at TIER 0 and 1; once per leaf port at a spine; none for PEER
(04 R113, R114, R116). -/
def Group.copiesTo (g : Group) (ms : List Member) (p : Packet) : List (Option Nat × Packet) :=
  if g.peer then []
  else if g.tier = 2 then ((ms.map (·.target)).eraseDups).map fun f => (some f, p)
  else ms.map fun x => (none, { p with dest := BitVec.ofNat 16 x.target })

/-- Drop the cells of packets that wait in the ENGINE queues and satisfy `q` (12 R332). -/
def Mach.dropEngine (m : Mach) (q : Packet → Bool) : Mach :=
  let one (a : Mach) (die : Nat) : Mach :=
    let k := a.queue (.engine die)
    let gone := k.pkts.filter fun x => q x.pkt
    let r := (gone.foldl (fun c x => c.freeCopy x) a).readSumpAll k gone
    let left := k.pkts.filter fun x => !q x.pkt
    r.2.setQueue { r.1 with pkts := left, spilled := left.any fun x => x.loc == .sump || x.loc == .staged }
  one (one m 0) 1

/-- Take one packet out of an internal queue of either die: its cells are free (12 R332). -/
def Mach.takeInternal (m : Mach) (key : Nat → QKey) (p : Packet) : Mach :=
  let one (a : Mach) (die : Nat) : Option Mach :=
    let k := a.queue (key die)
    match k.pkts.find? fun x => x.pkt == p with
    | some x =>
      let r := a.readSumpAll k [x]
      let left := eraseFirst (fun y => y.seq == x.seq) k.pkts
      some ((r.2.setQueue { r.1 with pkts := left, spilled := left.any fun y => y.loc == .sump || y.loc == .staged }).freeCopy x)
    | none => none
  match one m 0 with
  | some m' => m'
  | none => (one m 1).getD m

/-- Take one packet out of the ENGINE queues. -/
def Mach.takeEngine (m : Mach) (p : Packet) : Mach := m.takeInternal .engine p

/-- Discard a contribution and count it. -/
def Mach.discardIn (m : Mach) (p : Packet) (cnt : Nat) : Mach := (m.takeEngine p).count cnt

/-- End an operation without completing it (04 R117): one CLOSE packet to every PRESENT member, its parking, slots and
waiting packets freed, the end remembered (03 R82), and its status joined to a step's audit (08 R231). -/
def Mach.endOp (m : Mach) (st : Store) (id seq : Nat) (status : Status) : Mach :=
  match m.group? id with
  | none => m
  | some g =>
    match g.op? seq with
    | none => m
    | some o =>
      let p := m.resultPacket g o 0 0 o.rootField []
        (trailer32 (statusCode status) true false 0 0 0 0 0 0)
      let m1 := (m.auditOp st g { o with status := worst o.status status }).multicast st (g.copiesTo g.present p)
      let m2 := m1.dropEngine fun x => x.group.toNat == id && x.opSeq.toNat == seq
      let m3 := m2.modGroup id fun h =>
        { h with ops := eraseFirst (fun x => x.seq == seq && !x.complete) h.ops,
                 waiting := h.waiting.filter fun w => w.2.opSeq.toNat != seq }
      { m3 with ended := ⟨id, seq, m.now, status⟩ :: m3.ended }

/-- End every outstanding operation of a group. -/
def Mach.endOps (m : Mach) (st : Store) (id : Nat) (status : Status) : Mach :=
  match m.group? id with
  | none => m
  | some g => (g.ops.filter fun o => !o.complete).foldl (fun a o => a.endOp st id o.seq status) m

/-! ### Group events (03 R88) -/

/-- STRAGGLER, MEMBER_EXCLUDED or GROUP_REFORMED (03 R88). -/
def Mach.groupEvent (m : Mach) (g : Group) (type seg seq count rank cause : Nat) : Mach :=
  m.galEvent g.gallery type noFault
    [g.gallery * 2 ^ 12 + g.id, seg * 2 ^ 16 + seq, count * 2 ^ 10 + rank, cause, 0]

/-! ### Members that fail (03 R84 to R87) -/

/-- Re-form a group after the members with these ranks failed: REFORMING, operations ended with ABORT_MEMBER_LOST to
the survivors, MSTATE set, and the event due (03 R84). -/
def Mach.reform (m : Mach) (st : Store) (id : Nat) (ranks : List Nat) (ms : MState) (cause : Nat) : Mach :=
  match m.group? id with
  | none => m
  | some g =>
    let live := g.ops.filter fun o => !o.complete
    let m1 := m.modGroup id fun h => { h with
      state := if h.state == .halted then .halted else .reforming,
      members := h.members.map fun x => if ranks.contains x.rank && x.mstate == .present then { x with mstate := ms } else x,
      reforms := h.reforms ++ [((live.head?.map (·.seq)).getD 0, live.length, ranks.foldl min (ranks.headD 0), cause)] }
    m1.endOps st id .abortMemberLost

/-- The ports that a member's TARGET names: its port, or every port of its FEID's route entry in the bank of STAMP, the
escape port among them (03 R84, 13 R354). -/
def Mach.portsNamed (m : Mach) (st : Store) (g : Group) (x : Member) : List Nat :=
  if g.peer || g.tier = 2 then m.portsBehind st g x
  else
    let e := st.routeEntry (b2n m.sw.stamp) x.target
    if reValid e then reCands e ++ (if reEscValid e then [reEscPort e] else []) else []

/-- The members of a group whose path is lost when port `f` leaves UP or DEGRADED (03 R84). -/
def Mach.lostRanks (m : Mach) (st : Store) (g : Group) (f : Nat) : List Nat :=
  (g.present.filter fun x =>
    (m.portsNamed st g x).contains f && (g.peer || g.tier == 2 || !(m.portsBehind st g x).any m.portUsable)).map (·.rank)

/-- A port has left UP or DEGRADED: groups with members behind it re-form, and a leaf whose uplink it was ends its
operations with LINK_LOST (03 R84, R86). `ms` and `cause` are LOST and 0 for a link loss, REMOVED and 1 for an
isolation (16 R439). -/
def Mach.groupsLinkLost (m : Mach) (st : Store) (f : Nat) (ms : MState) (cause : Nat) : Mach :=
  m.groups.foldl (fun a g =>
    let a1 := if g.tier = 1 && g.uplink = f then a.endOps st g.id .linkLost else a
    let lost := a1.lostRanks st g f
    if lost.isEmpty then a1 else a1.reform st g.id lost ms cause) m

/-- A port completed an identity exchange: members, uplinks and peers compared for the first time that fail the checks
of R69 or R280 are treated as lost (03 R70). -/
def Mach.groupsRecheck (m : Mach) (st : Store) (f : Nat) : Mach :=
  m.groups.foldl (fun a g =>
    if a.arithBreaks g f || a.featureBreaks g f then
      let a1 := if g.tier = 1 && g.uplink = f then a.endOps st g.id .linkLost else a
      let units := if a.featureBreaks g f then a.portsBehind st g else a.arithPorts st g
      let lost := (g.present.filter fun x => (units x).contains f).map (·.rank)
      if lost.isEmpty then a1 else a1.reform st g.id lost .lost 0
    else a) m

/-- A tile of a segment. -/
def Segment.tile (s : Segment) (i : Nat) : Tile := (s.tiles.find? fun t => t.idx == i).getD { idx := i }

/-- The open tiles of an open segment (04 R105): the one in turn, or in arrival mode every tile known to be in it. -/
def Segment.openIdx (g : Group) (s : Segment) : List Nat :=
  let tiles : List Nat := match s.count with
    | some n => List.range n
    | none => if g.arrival then s.tiles.map (fun (t : Tile) => t.idx) else List.range g.segTiles
  tiles.filter fun i => (g.arrival || i == s.openTile) && !(s.tile i).closed

/-- An operation has an open tile on a core (04 R105, R118). -/
def Group.openOn (g : Group) (k : Nat) (o : Op) : Bool :=
  !o.complete && o.segs.any fun s => (s.openIdx g).any fun i =>
    g.coreOf ((s.num * g.segTiles + i) * g.planes + g.planeIndex) == k

/-- A logical core is marked absent: operations running on it end with the fault's status, and the core leaves every
RED_CORES; an empty set halts the group (03 R87). -/
def Mach.groupsCoreAbsent (m : Mach) (st : Store) (k : Nat) (status : Status) : Mach :=
  m.groups.foldl (fun a g =>
    if bitOf g.redCores k then
      let a1 := (g.ops.filter (g.openOn k)).foldl (fun b o => b.endOp st g.id o.seq status) a
      let cores := g.redCores ^^^ 2 ^ k
      let a2 := if cores = 0 then a1.endOps st g.id status else a1
      a2.modGroup g.id fun h => { h with redCores := cores, state := if cores = 0 then .halted else h.state }
    else a) m

/-- Operations with an open tile on a core end with RESIDUE (04 R118, 05 R144). -/
def Mach.groupsResidue (m : Mach) (st : Store) (k : Nat) : Mach :=
  m.groups.foldl (fun a g =>
    (g.ops.filter (g.openOn k)).foldl (fun b o => b.endOp st g.id o.seq .residue) a) m

/-! ### The group entry (03 R60, R61) -/

/-- The fields of a group entry and its member words, with no operations (03 R60, R61); a PEER group adds in rank mode
whatever its ACC_MODE (R73). -/
def parseGroup (w : List Word) (mw : List Word) : Group :=
  let f (i hi lo : Nat) : Nat := bits (w.getD i 0).toNat hi lo
  { id := f 0 11 0, gallery := f 0 17 12, peer := f 0 31 30 == 1, tier := f 0 29 28,
    arrival := f 0 31 30 != 1 && f 0 27 27 == 1, accMode := f 0 27 27 == 1,
    leafSum := f 0 26 26 == 1,
    policy := if f 0 25 24 = 1 then .abort else if f 0 25 24 = 2 then .exclude else .wait,
    nanMode := f 0 23 23 == 1, intWrap := f 0 22 22 == 1, allowMixed := f 0 21 21 == 1, cfmt := f 1 31 27,
    rfmt := f 1 26 22, func := f 1 21 18, segTiles := f 1 17 12 + 1, window := f 1 11 8 + 1, arithRev := f 1 7 0,
    flareSat := f 2 31 26, flareFlush := f 2 25 20, planes := f 2 19 16 + 1, planeIndex := f 2 15 12,
    stragglerNs := f 3 31 0, redCores := f 4 31 0, memberBase := f 5 17 0, blockHi := f 6 29 24, blockLo := f 6 21 16,
    uplink := f 6 8 0, parkKib := 0, slots := 0, dies := diesOf (f 4 31 0), state := .active,
    members := mw.map fun x =>
      ⟨if bits x.toNat 31 30 = 1 then .removed else if bits x.toNat 31 30 = 2 then .lost else .present,
        bits x.toNat 25 16, bits x.toNat 15 0⟩ }

/-- The reservation written into a group (03 R65). -/
def Group.reserved (g : Group) : Group :=
  { g with slots := g.window * g.segTiles,
           parkKib := parkKibFor (g.tier == 2) g.cfmt g.window g.present.length }

/-- Word 28 of the group entry as TU_CPL reports it: PARK_KIB and SLOTS (15 R414). -/
def Group.word28 (g : Group) : Nat := g.parkKib % 65536 * 65536 + g.slots % 2048

/-- A member word breaks 03 R61: reserved MSTATE, reserved bits not zero, or a TARGET outside its meaning for the group. -/
def memberBad (g : Group) (x : Word) : Bool :=
  let t := bits x.toNat 15 0
  bits x.toNat 31 30 == 3 || bits x.toNat 29 26 != 0 ||
    (if g.peer then t != 0x8000 && decide (512 ≤ t)
     else if g.tier = 2 then decide (512 ≤ t) || (!g.leafSum && decide (64 ≤ bits x.toNat 25 16)) else false)

/-- A reserved field of the group entry is not zero (03 R60, R69); the fields marked RO are not looked at. -/
def groupRsvd (w : List Word) : Bool :=
  let f (i hi lo : Nat) : Bool := bits (w.getD i 0).toNat hi lo != 0
  f 0 20 18 || f 2 11 10 || f 5 31 18 || f 6 31 30 || f 6 23 22 || f 6 15 9 || f 7 15 11 || f 8 31 9 || f 8 3 3 ||
    (w.drop 9).any (· != 0)

/-- BAD_ENTRY of 03 R69: reserved values, fields that must be zero, ranges, identity with the descriptor, pairings. -/
def groupBadEntry (d : TuDesc) (w mw : List Word) (g : Group) : Bool :=
  let f (i hi lo : Nat) : Nat := bits (w.getD i 0).toNat hi lo
  groupRsvd w || decide (2 ≤ f 0 31 30) || f 0 29 28 == 3 || f 0 25 24 == 3 || (g.tier == 0 && g.leafSum) ||
    (g.peer && f 0 25 24 != 0) || decide (5 ≤ g.func) ||
    decide (32 < g.flareSat) || decide (32 < g.flareFlush) || f 2 9 0 == 0 || decide (512 < f 2 9 0) ||
    decide (g.planes ≤ g.planeIndex) || (g.tier != 1 && (g.blockHi != 0 || g.blockLo != 0 || g.uplink != 0)) ||
    (g.tier != 0 && g.arrival && !g.leafSum) || g.id != d.arg0.toNat || g.gallery != d.gallery.toNat ||
    mw.any (memberBad g)

/-- A format refused under 02 R25 to R27: unknown, not a contribution or result format, mixed families, or a function the
family does not take (04 R93). -/
def groupBadFormat (g : Group) : Bool :=
  !fmtKnown g.cfmt || !fmtKnown g.rfmt || fmtFamily g.cfmt != fmtFamily g.rfmt ||
    ((g.func == 3 || g.func == 4) != (fmtFamily g.cfmt == .bitwise))

/-- Strictly ascending. -/
def ascending : List Nat → Bool
  | a :: b :: t => decide (a < b) && ascending (b :: t)
  | _ => true

/-- RANK_CONFLICT of 03 R69: ranks not unique and ascending, or a leaf rank outside its blocks (R75). -/
def groupRankConflict (g : Group) : Bool :=
  let rs := g.members.map (·.rank)
  !ascending rs ||
    (g.tier == 1 && rs.any fun r => decide (r < 16 * g.blockLo) || decide (16 * g.blockHi + 15 < r))

/-- The run of member entries overlaps another group's or leaves the table (03 R61). -/
def Mach.membersFull (m : Mach) (g : Group) : Bool :=
  let n := g.members.length
  decide (262144 < g.memberBase + n) ||
    m.groups.any fun h => decide (g.memberBase < h.memberBase + h.members.length) && decide (h.memberBase < g.memberBase + n)

/-- A logical core may be named: ENG_PRESENT is 1, it is not under BIST and its domain is on (05 R146, 19 R496,
21 R524). -/
def Mach.corePresent (m : Mach) (k : Nat) : Bool :=
  m.flag Reg.ENG_PRESENT k && m.boot.bist != some (44 + k) && !m.domainOff (44 + k)

/-- Reserved descriptor bits not zero, or LEN or COUNT off the table (15 R410). -/
def tuBad (d : TuDesc) (len : Nat) : Bool := d.rsvd != 0 || d.len.toNat != len

/-- A table-update refusal: status NO_SLOT with a REASON (03 R69). -/
def Mach.tuRefuse (m : Mach) (opc : Nat) (d : TuDesc) (r : Reason) : Mach := m.tuDone opc d .noSlot (reasonCode r) 0

/-- A group command acts only on a group of its own gallery (03 R69). -/
def Mach.groupOf? (m : Mach) (d : TuDesc) : Option Group :=
  (m.group? d.arg0.toNat).filter fun g => g.gallery == d.gallery.toNat

/-- What refuses a GRP_CREATE, first in the order of 03 R69. -/
def Mach.createFails (m : Mach) (st : Store) (d : TuDesc) (w mw : List Word) (g : Group) : Option (Status × Reason) :=
  if !m.feature 0 then some (.noSlot, .badEntry)
  else if (m.group? d.arg0.toNat).isSome then some (.noSlot, .idInUse)
  else if tuBad d (64 + 4 * mw.length) || mw.length != bits (w.getD 2 0).toNat 9 0 || groupBadEntry d w mw g
  then some (.noSlot, .badEntry)
  else if groupBadFormat g then some (.badFormat, .badEntry)
  else if groupRankConflict g then some (.noSlot, .rankConflict)
  else if m.membersFull g then some (.noSlot, .membersFull)
  else if g.redCores = 0 || !g.cores.all m.corePresent then some (.noSlot, .coreAbsent)
  else if (g.arithRev != 1 && !g.allowMixed) || (g.comparedPorts (m.arithPorts st g)).any (m.arithBreaks g) then some (.noSlot, .arithRev)
  else if (g.comparedPorts (m.portsBehind st g)).any (m.featureBreaks g) then some (.noSlot, .badEntry)
  else (m.reserveFails g.gallery g.dies g.slots g.parkKib).map fun r => (.noSlot, r)

/-- GRP_CREATE (03 R69): check the entry and its members, reserve, and make the group ACTIVE, or refuse it. -/
def Mach.grpCreate (m : Mach) (st : Store) (d : TuDesc) (data : List Word) : Mach :=
  let w := data.take 16
  let mw := data.drop 16
  let g := (parseGroup w mw).reserved
  match m.createFails st d w mw g with
  | some (s, r) => m.tuDone 0x01 d s (reasonCode r) 0
  | none =>
    let m1 := { m with groups := m.groups ++ [g], ended := m.ended.filter fun e => e.group != g.id }
    (m1.unfence fun f => f == .group g.id).tuDone 0x01 d .ok 0 g.word28

/-- GRP_ADD (03 R64): fill a rank gap, recompute the reservation, or refuse and change nothing. -/
def Mach.grpAdd (m : Mach) (st : Store) (d : TuDesc) : Mach :=
  let x := d.inline.getD 0 0
  let rank := bits x.toNat 25 16
  if !m.feature 0 then m.tuRefuse 0x02 d .badEntry
  else
    match m.groupOf? d with
    | none => m.tuRefuse 0x02 d .notFound
    | some g =>
      if g.outstanding ≠ 0 then m.tuRefuse 0x02 d .busy
      else if tuBad d 0 || memberBad g x then m.tuRefuse 0x02 d .badEntry
      else
        match g.members.find? fun y => y.rank == rank with
        | none => m.tuRefuse 0x02 d .notFound
        | some y =>
          if y.mstate == .present then m.tuRefuse 0x02 d .rankConflict
          else
            let g1 := ({ g with members := g.members.map fun (z : Member) =>
              if z.rank == rank then ⟨.present, rank, bits x.toNat 15 0⟩ else z }).reserved
            let g2 := { g1 with parkKib := max g.parkKib g1.parkKib }
            let others := { m with groups := m.groups.filter fun h => h.id != g.id }
            let new : Member := ⟨.present, rank, bits x.toNat 15 0⟩
            if g.redCores = 0 then m.tuRefuse 0x02 d .coreAbsent
            else if (m.arithPorts st g new).any (m.arithBreaks g) then m.tuRefuse 0x02 d .arithRev
            else if (m.portsBehind st g new).any (m.featureBreaks g) then m.tuRefuse 0x02 d .badEntry
            else
              match others.reserveFails g.gallery g.dies g2.slots g2.parkKib with
              | some r => m.tuRefuse 0x02 d r
              | none => (m.modGroup g.id fun _ => g2).tuDone 0x02 d .ok 0 g2.word28

/-- GRP_REMOVE (03 R84): a PRESENT member is removed and the group re-forms; a REMOVED or LOST one changes nothing. -/
def Mach.grpRemove (m : Mach) (st : Store) (d : TuDesc) : Mach :=
  match m.groupOf? d with
  | none => m.tuRefuse 0x03 d .notFound
  | some g =>
    if tuBad d 0 then m.tuRefuse 0x03 d .badEntry
    else
      match g.members.find? fun y => y.rank == d.arg1.toNat with
      | none => m.tuRefuse 0x03 d .notFound
      | some y =>
        if y.mstate == .present then (m.reform st g.id [y.rank] .removed 1).tuDone 0x03 d .ok 0 0
        else m.tuDone 0x03 d .ok 0 0

/-- GRP_DESTROY (03 R71): free a group and its reservation, or refuse with BUSY. Contributions that wait in packet cells
then name a group that is not ACTIVE (R58). -/
def Mach.grpDestroy (m : Mach) (d : TuDesc) : Mach :=
  match m.groupOf? d with
  | none => m.tuRefuse 0x04 d .notFound
  | some g =>
    if g.outstanding ≠ 0 then m.tuRefuse 0x04 d .busy
    else if tuBad d 0 then m.tuRefuse 0x04 d .badEntry
    else
      let m1 := { m with groups := m.groups.filter fun h => h.id != g.id, ended := m.ended.filter fun e => e.group != g.id }
      (g.waiting.foldl (fun a w => a.discardIn w.2 Reg.GRP_MISTILE_CNT) m1).tuDone 0x04 d .ok 0 0

/-! ### Commands -/

/-- GRP_CREATE, 03 R69: the descriptor and the entry words with the member words. -/
def execGrpCreate (d : TuDesc) (data : List Word) (s : State) : Host.Outcome State Fault Refusal :=
  s.runM fun st m => m.tuCmd 0x01 d fun m => (m.grpCreate st d data).markStale (some d.gallery.toNat)

/-- GRP_ADD, 03 R64. -/
def execGrpAdd (d : TuDesc) (s : State) : Host.Outcome State Fault Refusal :=
  s.runM fun st m => m.tuCmd 0x02 d fun m => (m.grpAdd st d).markStale (some d.gallery.toNat)

/-- GRP_REMOVE, 03 R84. -/
def execGrpRemove (d : TuDesc) (s : State) : Host.Outcome State Fault Refusal :=
  s.runM fun st m => m.tuCmd 0x03 d fun m => (m.grpRemove st d).markStale (some d.gallery.toNat)

/-- GRP_DESTROY, 03 R71. -/
def execGrpDestroy (d : TuDesc) (s : State) : Host.Outcome State Fault Refusal :=
  s.runM fun _ m => m.tuCmd 0x04 d fun m => (m.grpDestroy d).markStale (some d.gallery.toNat)

end Sys2Proof.Machine
end

