-- ==== Sys2Proof/Machine/Rings.lean ====
section
/-! DEFINITION. Rings.lean: the command and completion rings of 15 as operations: ending a taken command, its completion
record, halting a ring set. -/
namespace Sys2Proof.Machine

/-- Write a 64-byte completion record into a gallery's completion ring: offset 24 the ring index, offset 28 PHASE
(15 R406); discarded and counted when the ring cannot be written (R397). -/
def Mach.writeCompletion (m : Mach) (set index : Nat) (ws : List Word) : Mach :=
  if m.ringOpen set && m.jnkUp then
    let size := m.ringSize set 1
    let p := (m.rd (ringReg set 0x34)).toNat
    let rec64 := ws.take 6 ++ [BitVec.ofNat 32 index, BitVec.ofNat 32 (2 ^ 31 * ringPhase p size)] ++ ws.drop 8
    (m.jnkReq 4 (m.rd64 (ringReg set 0x18) (ringReg set 0x1C) + 64 * (p % size)) (wordBytes rec64)
      (.record set false p true)).wr (ringReg set 0x34) (BitVec.ofNat 32 (p + 1))
  else m.count Reg.RNG_DISCARD_CNT

/-- Is this command of a ring still taken and incomplete? -/
def Mach.taken? (m : Mach) (set index : Nat) : Option TakenCmd :=
  m.jnk.taken.find? fun c => c.set == set && c.index == index

/-- Forget a taken command. -/
def Mach.dropTaken (m : Mach) (set index : Nat) : Mach :=
  { m with jnk := { m.jnk with taken := m.jnk.taken.filter fun c => !(c.set == set && c.index == index) } }

/-- A taken command has ended: its record is written once every data write of it is answered (15 R404). -/
def Mach.cmdFinish (m : Mach) (set index : Nat) (ws : List Word) : Mach :=
  match m.taken? set index with
  | none => m.writeCompletion set index ws
  | some c =>
    if c.waits = 0 then (m.dropTaken set index).writeCompletion set index ws
    else { m with jnk := { m.jnk with
      taken := modFirst (fun x => x.set == set && x.index == index) (fun x => { x with record := some ws }) m.jnk.taken } }

/-- One data write of a taken command leaves (15 R404). -/
def Mach.cmdWrite (m : Mach) (set index addr : Nat) (data : List Byte) : Mach :=
  let m1 := if (m.taken? set index).isSome then m else
    { m with jnk := { m.jnk with taken := m.jnk.taken ++ [{ set := set, index := index }] } }
  let m2 := { m1 with jnk := { m1.jnk with
    taken := modFirst (fun x => x.set == set && x.index == index) (fun x => { x with waits := x.waits + 1 }) m1.jnk.taken } }
  m2.jnkReq 4 addr data (.cmdData set index)

/-- A data write of a taken command was answered; the last lets its record go (15 R404). -/
def Mach.cmdWritten (m : Mach) (set index : Nat) : Mach :=
  match m.taken? set index with
  | none => m
  | some c =>
    let m1 := { m with jnk := { m.jnk with
      taken := modFirst (fun x => x.set == set && x.index == index) (fun x => { x with waits := x.waits - 1 }) m.jnk.taken } }
    match c.record with
    | some ws => if c.waits ≤ 1 then (m1.dropTaken set index).writeCompletion set index ws else m1
    | none => m1

/-- The completion words of a PROG_START (15 R406). -/
def progRecord (status reason tag pc : Nat) (xs : List Word) : List Word :=
  [BitVec.ofNat 32 (0xF * 2 ^ 28 + status * 2 ^ 24 + reason * 2 ^ 20 + tag), BitVec.ofNat 32 (pc * 2 ^ 16), 0, 0, 0, 0, 0, 0]
    ++ xs

/-- Ring codes of RING_ERROR (15 R419). -/
inductive RingCause where
  | index | errRsp | timeout | ownWindow | link | config
  deriving DecidableEq, Repr

/-- CAUSE of 15 R419. -/
def ringCause : RingCause → Nat
  | .index => 0 | .errRsp => 1 | .timeout => 2 | .ownWindow => 3 | .link => 4 | .config => 5

/-- The RING code of ring `f` of a set: 0 to 2, or 3 and 4 in the module set. -/
def ringCode (set f : Nat) : Nat := if set = 64 then 3 + f else f

/-- RING_ERROR (15 R419). -/
def Mach.ringError (m : Mach) (set f : Nat) (c : RingCause) (index addr : Nat) : Mach :=
  m.modEvent 0x15 noFault [ringCode set f * 2 ^ 29 + ringCause c * 2 ^ 25 + (if set = 64 then 0 else set), index,
    addr % 2 ^ 32, addr / 2 ^ 32, 0]

/-- Halt a ring set (15 R408): HALTED and CAUSE, and RING_ERROR. -/
def Mach.ringHalt (m : Mach) (set f : Nat) (c : RingCause) (index addr : Nat) : Mach :=
  ((m.setFld (ringReg set 0) 30 30 1).setFld (ringReg set 0) 29 26 (ringCause c)).ringError set f c index addr

end Sys2Proof.Machine
end

