-- ==== Sys2Proof/Machine/Cores.lean ====
section
/-! DEFINITION. Cores.lean: logical cores and routed layers as operations: starts, the end of a program, traps, fencing a
core, engaging its spare, marking it absent (05), and a failing layer (06 R174). -/
namespace Sys2Proof.Machine

/-! ### Cores and starts -/

/-- A logical core. -/
def Mach.core (m : Mach) (k : Nat) : Core := (m.cores.find? fun c => c.core == k).getD { core := k }

/-- Replace a core; an idle clean core is not listed. -/
def Mach.setCore (m : Mach) (c : Core) : Mach :=
  let rest := m.cores.filter fun x => x.core != c.core
  { m with cores := if c == { core := c.core } then rest else c :: rest }

/-- Change a core. -/
def Mach.modCore (m : Mach) (k : Nat) (f : Core → Core) : Mach := m.setCore (f (m.core k))

/-- A core that refuses starts: marked absent, under test, or its domain off (05 R128, 19 R496, 21 R524). -/
def Mach.coreGone (m : Mach) (k : Nat) : Bool := !m.corePresent k

/-- Queue a start, or say why it is refused (05 R128). -/
def Mach.queueStart (m : Mach) (k : Nat) (s : Start) : Option Reason × Mach :=
  if m.coreGone k then (some .coreAbsent, m)
  else if 16 ≤ (m.core k).queue.length then (some .busy, m)
  else (none, m.modCore k fun c => { c with queue := c.queue ++ [{ s with held := !c.longHeld.isEmpty }] })

/-- Scalar registers X1 to X8 of a core (15 R406). -/
def Store.x1to8 (st : Store) (k : Nat) : List Word := (List.range 8).map fun i => sget zeroCell st.xregs (k * 32 + i + 1)

/-- A command-ring start ends without having run. -/
def Mach.startRefused (m : Mach) (s : Start) (status : Status) (r : Reason) : Mach :=
  match s.cmd with
  | some (set, i, tag) =>
    m.cmdFinish set i (progRecord (statusCode status) (reasonCode r) tag 0 (List.replicate 8 0))
  | none => m

/-- A long-lived mask takes effect: the blocks that change are under the other code now (17 R446, R448). -/
def Mach.setLong (m : Mach) (off : Nat) (value : Word) : Mach :=
  let i := (off - Reg.ECC_SCR_LONG_C 0 0) / 4
  let old := (m.rd off).toNat
  let flipped := (List.range 32).filter fun b => bitOf old b != bitOf value.toNat b
  let ranges := flipped.map fun b => (⟨false, i / 4, (32 * (i % 4) + b) * 8192, (32 * (i % 4) + b + 1) * 8192⟩ : CodeRange)
  let m1 := m.wr off value
  { m1 with ecc := { m1.ecc with otherCode := ranges.foldl flipRange m1.ecc.otherCode } }

/-- Held long-lived masks take effect when the core has no running or queued program (17 R448). -/
def Mach.applyLong (m : Mach) (k : Nat) : Mach :=
  let c := m.core k
  if c.running.isNone && c.queue.all (·.held) && !c.longHeld.isEmpty then
    (c.longHeld.foldl (fun a p => a.setLong p.1 p.2) m).setCore
      { c with longHeld := [], queue := c.queue.map fun q => { q with held := false } }
  else m

/-- A prefetch is for a program of session `n` with RSEQ `r` (06 R164). -/
def PfFor.serves (p : PfFor) (n r : Nat) : Bool := p.session == n && p.rseq == r

/-- The transfers of the program that leaves a core: no later WAIT reports them, while the prefetches of other programs
stand (06 R164). `own` tells the prefetch that the program itself waited for. -/
def Core.dropDmas (c : Core) (own : PfFor → Bool) : Core :=
  { c with dmas := c.dmas.map fun d => if d.prefetch.all own then { d with gone := true } else d
           dmaEnds := c.dmaEnds.filter fun e => !e.prefetch.all own }

/-- A core's program leaves it: a PROG_START completes with the program's status (15 R405); the core is idle. -/
def Mach.leaveCore (m : Mach) (st : Store) (k : Nat) (status : Status) : Mach :=
  let c := m.core k
  match c.running with
  | none => m
  | some s =>
    let own (p : PfFor) : Bool := match s.session.bind m.session? with
      | some x => p.serves x.n x.rseq
      | none => false
    let m1 := m.setCore { c.dropDmas own with
      running := none, wait := none, status := .ok, nan := false, topk := [], gone := [] }
    match s.cmd with
    | some (set, i, tag) => m1.cmdFinish set i (progRecord (statusCode status) 0 tag c.pc (st.x1to8 k))
    | none => m1

/-! ### Packets that layers send (06 R167 to R169) -/

/-- The 64-byte trailer of a DISPATCH packet (06 R169). -/
def trailer64 (status : Nat) (close : Bool) (phase layer token km1 digest : Nat) (experts : List Nat) : List Byte :=
  leBytes 4 (status * 2 ^ 28 + b2n close * 2 ^ 27 + phase * 2 ^ 25 + 1 * 2 ^ 17 + layer * 2 ^ 9 + token * 2 ^ 3) ++
    leBytes 4 km1 ++ leBytes 8 digest ++
    ((List.range 16).flatMap fun i => leBytes 2 (experts.getD i 0xFFFF)) ++ List.replicate 16 0

/-- One copy to every PRESENT member of a group, by FEID (06 R168). -/
def Mach.toMembers (m : Mach) (st : Store) (gid : Nat) (p : Packet) : Mach :=
  match m.group? gid with
  | none => m
  | some g => m.multicast st (g.present.map fun x => (none, { p with dest := BitVec.ofNat 16 x.target }))

/-- Next layer of an entry: NEXT_LAYER, or FIRST_LAYER when it is 0xFF (06 R160). -/
def Mach.nextLayer (m : Mach) (s : Session) : Nat := if m.lay s.cur 1 31 24 = 0xFF then s.first else m.lay s.cur 1 31 24

/-- The abort notice of 06 R175. -/
def Mach.abortNotice (m : Mach) (s : Session) (status : Status) : Packet :=
  { type := 11, vc := 3, epoch := m.sw.stamp, gallery := BitVec.ofNat 6 s.gallery, length := 0, dest := 0xFFF4,
    src := 0xFFF1, group := BitVec.ofNat 12 (m.lay s.cur 1 11 0),
    opSeq := BitVec.ofNat 16 (s.n * 2 ^ 14 + s.rseq * 2 ^ 10), format := BitVec.ofNat 5 (m.lay s.cur 2 31 27),
    trailer := trailer64 (statusCode status) true 2 (m.lay s.cur 1 31 24) 0 0 0 [] }

/-! ### A failing layer (06 R174, R175; 08 R233) -/

/-- Return groups of the experts of a layer entry. -/
def Mach.retGroups (m : Mach) (st : Store) (layer : Nat) : List Nat :=
  if m.lay layer 0 30 29 = 0 then
    (List.range (m.lay layer 2 10 0 + 1)).map fun e => bits (m.expert st (m.lay layer 3 15 0 + e)) 27 16
  else []

/-- Groups whose operations of a session its running layer owns: ATTN_GROUP, SHARED_GROUP and the return groups. -/
def Mach.layerGroups (m : Mach) (st : Store) (layer : Nat) : List Nat :=
  m.lay layer 0 11 0 :: m.lay layer 1 11 0 :: m.retGroups st layer

/-- Send the CLOSE packet of an operation that never opened and remember its end (06 R159, 04 R117). -/
def Mach.refuseOp (m : Mach) (st : Store) (g : Group) (seq kind root : Nat) (status : Status) : Mach :=
  let o : Op := { seq := seq, kind := kind, root := root }
  let p := m.resultPacket g o 0 0 o.rootField []
    (trailer32 (statusCode status) true false 0 0 0 0 0 0)
  let m1 := m.multicast st (g.copiesTo g.present p)
  let m2 := m1.dropEngine fun x => x.group.toNat == g.id && x.opSeq.toNat == seq
  { m2 with ended := ⟨g.id, seq, m.now, status⟩ :: m2.ended }

/-- The prefetches of a session serve no program any more. -/
def Mach.dropPrefetches (m : Mach) (n k : Nat) : Mach :=
  if (m.core k).dmas.any (fun d => d.prefetch.any (·.session == n)) || (m.core k).dmaEnds.any (fun e => e.prefetch.any (·.session == n)) then
    m.modCore k fun c => { c with
      dmas := c.dmas.map fun d => if d.prefetch.any (·.session == n) then { d with gone := true } else d
      dmaEnds := c.dmaEnds.filter fun e => !e.prefetch.any (·.session == n) }
  else m

/-- A layer fails (06 R174): the session is FAILED, its operations end with the status, its program stops or leaves the
queue, the failure is counted, the abort notice sent, and the step ends with its audit record. -/
def Mach.layerFail (m : Mach) (st : Store) (n : Nat) (status : Status) : Mach :=
  match m.session? n with
  | none => m
  | some s =>
    if s.failed then m
    else
      let gs := m.layerGroups st s.cur
      let mine (o : Op) : Bool := o.seq / 2 ^ 14 == n
      let m0 := m.modSession n fun x => { x with
        failed := true, failStatus := status,
        audit := { x.audit with status := worst x.audit.status status } }
      let m1 := m0.groups.foldl (fun a g => if gs.contains g.id then
        let b := (g.ops.filter fun o => mine o && !o.complete).foldl (fun b o => b.endOp st g.id o.seq status) a
        let late := (g.waiting.filter fun w => w.2.opSeq.toNat / 2 ^ 14 == n).map fun w => w.2.opSeq.toNat
        let c := late.eraseDups.foldl (fun b q => b.refuseOp st g q 6 0 status) b
        c.modGroup g.id fun h => { h with ops := h.ops.filter fun o => !mine o,
                                          waiting := h.waiting.filter fun w => w.2.opSeq.toNat / 2 ^ 14 != n }
        else a) m0
      let c := m1.core s.home
      let runs := (c.running.bind (·.session)) == some n
      let m2 := if runs then m1.leaveCore st s.home status else m1
      let m3 := (m2.modCore s.home fun c => { c with queue := c.queue.filter fun q => q.session != some n }).dropPrefetches n s.home
      let m4 := (m3.count Reg.LAY_FAIL_CNT).toMembers st (m.lay s.cur 1 11 0) (m.abortNotice s status)
      m4.auditEnd n true

/-- A layer program ends (06 R160): RSEQ and CUR_LAYER move on; the end of a step writes its record (08 R231). -/
def Mach.layerEnd (m : Mach) (n : Nat) (status : Status) : Mach :=
  match m.session? n with
  | none => m
  | some s =>
    let last := m.lay s.cur 1 31 24 == 0xFF
    let m1 := m.modSession n fun x => { x with audit := { auditFlush x.audit with status := worst x.audit.status status } }
    let m2 := if last then m1.auditEnd n false else m1
    m2.modSession n fun x => { x with rseq := (x.rseq + 1) % 16, cur := m.nextLayer s }

/-! ### Traps and the end of a program (05 R141 to R143) -/

/-- The running program ends with a status: its layer advances, or its command completes. -/
def Mach.endProgram (m : Mach) (st : Store) (k : Nat) : Mach :=
  let c := m.core k
  match c.running with
  | none => m
  | some s =>
    let m1 := m.leaveCore st k c.status
    let m2 := match s.session with
      | some n => m1.layerEnd n c.status
      | none => m1
    m2.applyLong k

/-- Add to one field of ENG_TRAP_CNT, saturating (05 R150). -/
def Mach.countTrap (m : Mach) : Mach :=
  m.setFld Reg.ENG_TRAP_CNT 23 0 (satAdd 0xFFFFFF (m.fld Reg.ENG_TRAP_CNT 23 0) 1)

/-- A core has stopped by a trap: it counts as arrived at every BAR of the programs that run on its die (05 R142). -/
def Mach.stoppedByTrap (m : Mach) (k : Nat) : Mach :=
  { m with cores := m.cores.map fun c =>
      if c.core == k then { c with trapped := true }
      else if c.core / 16 == k / 16 && c.running.isSome then { c with gone := k :: c.gone } else c }

/-- A trap other than NAN stops the program (05 R142): ENG_TRAP, the program's status, and a failing layer. `instr` is
the trapping instruction word. -/
def Mach.coreTrap (m : Mach) (st : Store) (k kind : Nat) (status : Status) (instr detail : Nat) : Mach :=
  let c := m.core k
  match c.running with
  | none => m
  | some s =>
    let m1 := (m.countTrap).galEvent s.gallery 0x05 noFault
      [statusCode status * 2 ^ 28 + kind * 2 ^ 24 + s.gallery * 2 ^ 12 + k, c.pc * 2 ^ 16 + s.entry,
        instr % 2 ^ 32, instr / 2 ^ 32, detail % 2 ^ 32]
    let m2 := m1.stoppedByTrap k
    match s.session with
    | some n => ((m2.layerFail st n status).leaveCore st k status).applyLong k
    | none => (m2.leaveCore st k (worst c.status status)).applyLong k

/-! ### Fencing, spares and absent cores (05 R147, R148) -/

/-- The physical position of a logical core (05 R150). -/
def Mach.corePos (m : Mach) (k : Nat) : Nat := m.fld (Reg.ENG_MAP_C (k / 4)) (3 * (k % 4) + 2) (3 * (k % 4))

/-- The cluster's spare is unused and not being copied to (05 R147), and its domain is on (21 R524). -/
def Mach.spareFree (m : Mach) (cl : Nat) : Bool :=
  m.flag Reg.ENG_SPARE cl && !m.domainOff (36 + cl) && !m.cores.any fun c => c.core / 4 == cl && (match c.spare with
    | some (.fault _) => true
    | some .copying => true
    | _ => false)

/-- A logical core is marked absent (05 R148): starts refused, reduction core sets and sessions told, ENG_ABSENT; its
pin in CLUSTERc is released. -/
def Mach.coreAbsent (m : Mach) (st : Store) (k : Nat) (status : Status) : Mach :=
  let c := m.core k
  let pos := m.corePos k
  let m1 := (m.setFlag Reg.ENG_PRESENT k false).setFld (Reg.ENG_MAP_C (k / 4)) (3 * (k % 4) + 2) (3 * (k % 4)) 7
  let m2 := c.queue.foldl (fun a s => a.startRefused s .noSlot .coreAbsent) m1
  let m3 := m2.leaveCore st k (worst c.status status)
  let m4 := (m3.setCore { core := k, trapped := true }).stoppedByTrap k
  let m5 := m4.groupsCoreAbsent st k status
  let m6 := (m5.sessions.filter fun s => s.home == k).foldl (fun a s => a.layerFail st s.n status) m5
  let m7 := m6.modEvent 0x11 noFault [statusCode status * 2 ^ 28 + pos * 2 ^ 10 + 7 * 2 ^ 7 + k, 0, 0, 0, 0]
  let m8 := m7.dropPins fun p => p.group == 4 + k / 4 && p.unit == k
  if c.spare.isSome then m8.bypassOff (4 + k / 4) else m8

/-- A test of the cluster's spare is aborted, because the spare is needed (19 R498). -/
def Mach.bistAbort (m : Mach) (cl : Nat) : Mach :=
  if m.boot.bist = some (36 + cl) then
    let m1 := ((m.setFlag Reg.BST_STATUS 31 false).setFld Reg.BST_STATUS 30 28 3).setFld Reg.BST_STATUS 20 7 0
    { m1 with boot := { m1.boot with bist := none } }
  else m

/-- A logical core is fenced (05 R147 steps 1 and 2): FC2 in CLUSTERc; the spare is engaged, or the core is absent. -/
def Mach.coreFence (m : Mach) (st : Store) (k : Nat) (status : Status) (detail : Nat) : Mach :=
  let m1 := m.raisePin (4 + k / 4) 2 k detail
  if (m1.core k).spare = some .copying || (match (m1.core k).spare with | some (.fault _) => true | _ => false) then m1
  else if m1.spareFree (k / 4) then ((m1.bistAbort (k / 4)).modCore k fun c => { c with spare := some (.fault status) }).bypassOn (4 + k / 4)
  else m1.coreAbsent st k status

/-- A residue failure of the reduction unit or the engines of a core (04 R118, 05 R144): operations with an open tile on
it end, its program stops, and it is fenced. -/
def Mach.coreResidue (m : Mach) (st : Store) (k instr : Nat) (engine : Bool) : Mach :=
  let m1 := m.count (if engine then Reg.ENG_RESIDUE_CNT else Reg.RED_RESIDUE_CNT)
  let m2 := m1.coreTrap st k 4 .residue instr 0
  let m3 := m2.groupsResidue st k
  m3.coreFence st k .residue (if engine then 0x24 else 0x10)

end Sys2Proof.Machine
end

