-- ==== Sys2Proof/Machine/Tiles.lean ====
section
/-! DEFINITION. Tiles.lean: the arithmetic of one tile of an operation (04 R93, R94, R107 to R111; 02 R50 to R53): which
ranks contribute, the canonical order, NaN candidates, counters, and the result's bytes and trailer. -/
namespace Sys2Proof.Machine

/-! ### Contributors -/

/-- A rank is expected: its entry is PRESENT and not excluded (04 R91). -/
def Group.expects (g : Group) (o : Op) (r : Nat) : Bool :=
  g.members.any (fun x => x.rank == r && x.mstate == .present) && !o.excluded.contains r

/-- The expected ranks in ascending order. -/
def Group.expected (g : Group) (o : Op) : List Nat := (g.members.map (·.rank)).filter (g.expects o)

/-- The owner of local tile j (04 R91). -/
def Group.owner (g : Group) (j : Nat) : Nat := ((g.members[j % max 1 g.members.length]?).map (·.rank)).getD 0

/-- The ranks whose packets complete local tile j (04 R91, R100, R115). -/
def Group.contributors (g : Group) (o : Op) (j : Nat) : List Nat :=
  let only (r : Nat) : List Nat := if g.expects o r then [r] else []
  if o.kind = 2 then only (g.owner j) else if o.kind = 3 then only o.root else g.expected o

/-- The rank block of a contribution: sixteen ranks; each entry of a spine is a block of its own (04 R107, R110); a PEER
group is one block (03 R73). -/
def Group.blockOf (g : Group) (r : Nat) : Nat := if g.peer then 0 else if g.tier = 2 then r else r / 16

/-- The format in which contributions are decoded: PARTIALs carry FP32, INT32 or B32 words (04 R110). -/
def Group.inFmt (g : Group) : Nat :=
  if g.peer then 0
  else if g.tier = 2 then (match fmtFamily g.cfmt with | .float => 0 | .integer => 11 | .bitwise => 16)
  else g.cfmt

/-! ### Combining (04 R93) -/

/-- One element combined: its word, whether arithmetic made a NaN, and the events of 02 R53. -/
structure Comb where
  bits : Word
  nan : Bool := false
  sat : Bool := false
  flush : Bool := false
  deriving DecidableEq, Repr

/-- MAX of two FP32 words; equal operands keep the first, a NaN stays (04 R93). -/
def fMaxOf (a b : Word) : Word := if fIsNan a || fIsNan b then fNan else if fKey a < fKey b then b else a

/-- MIN of two FP32 words. -/
def fMinOf (a b : Word) : Word := if fIsNan a || fIsNan b then fNan else if fKey b < fKey a then b else a

/-- `combine` of 04 R93 for a family and function. -/
def combine (fam : Family) (func : Nat) (wrap : Bool) (a b : Word) : Comb :=
  match fam with
  | .float =>
    if func = 1 then { bits := fMaxOf a b }
    else if func = 2 then { bits := fMinOf a b }
    else let r := fAdd a b
         { bits := r.bits, nan := r.nan, flush := r.flush }
  | .integer =>
    if func = 1 then { bits := if a.toInt < b.toInt then b else a }
    else if func = 2 then { bits := if b.toInt < a.toInt then b else a }
    else let r := intAdd wrap a b
         { bits := r.1, sat := r.2 }
  | .bitwise => { bits := if func = 4 then a &&& b else a ||| b }

/-- Elementwise combine of two vectors. -/
def combineAll (fam : Family) (func : Nat) (wrap : Bool) (a b : List Word) : List Comb :=
  List.zipWith (combine fam func wrap) a b

/-! ### A sum in progress -/

/-- A NaN candidate (02 R50): element, place in rank order, kind, format, rank, and raw bits. -/
structure NanCand where
  element : Nat
  order : Nat
  kind : Nat
  format : Nat
  rank : Option Nat
  raw : Nat
  deriving DecidableEq, Repr

/-- The candidate that comes first in canonical order within a tile: lowest element, then rank order (02 R50). -/
def firstCand : Option NanCand → Option NanCand → Option NanCand
  | none, b => b
  | a, none => a
  | some a, some b => if b.element < a.element || (b.element == a.element && decide (b.order < a.order)) then some b else some a

/-- A sum with its first NaN candidate and the counts of 02 R53. -/
structure Sum where
  words : Option (List Word) := none
  nan : Option NanCand := none
  sat : Nat := 0
  flush : Nat := 0
  deriving DecidableEq, Repr

/-- Add a vector to a sum: the first starts it, each later one is combined (04 R107). `order` and `rank` say where a NaN
made by the arithmetic stands. -/
def Sum.add (g : Group) (s : Sum) (order : Nat) (rank : Option Nat) (x : List Word) : Sum :=
  match s.words with
  | none => { s with words := some x }
  | some w =>
    let cs := combineAll (fmtFamily g.cfmt) g.func g.intWrap w x
    let made := (indicesOf (·.nan) cs).head?.map fun e => ({ element := e, order, kind := 2, format := 0, rank, raw := 0 } : NanCand)
    { words := some (cs.map (·.bits)), nan := firstCand s.nan made,
      sat := s.sat + (cs.filter (·.sat)).length, flush := s.flush + (cs.filter (·.flush)).length }

/-- Join two sums' counters and candidates. -/
def Sum.note (s t : Sum) : Sum := { s with nan := firstCand s.nan t.nan, sat := s.sat + t.sat, flush := s.flush + t.flush }

/-- The decoded elements of a contribution; a PEER vector may be short (04 R114). -/
def Group.decode (g : Group) (p : Packet) : List Elem :=
  if g.peer then (bytesWords p.payload).map decFp32 else decodeTile g.inFmt (leNat p.payload)

/-- A PARTIAL whose NaN has trapped at its leaf: it is not met anew at the spine (02 R50). -/
def Group.metBefore (g : Group) (p : Packet) : Bool :=
  g.tier = 2 && bits (leNat (p.trailer.take 4)) 31 28 == statusCode .nanTrap

/-- First NaN of a decoded contribution. -/
def Group.decodeCand (g : Group) (order rank : Nat) (es : List Elem) : Option NanCand :=
  (es.zipIdx.findSome? fun p => p.1.nan.map fun n =>
    { element := p.2, order, kind := n.1.code, format := g.inFmt, rank := if g.tier = 2 then none else some rank,
      raw := n.2.toNat })

/-- Take up one contribution: decode it, note its NaN and conversions, and combine it (04 R107, R109). -/
def Sum.take (g : Group) (s : Sum) (order : Nat) (x : Got) : Sum :=
  let es := g.decode x.pkt
  let d : Sum := { nan := if g.metBefore x.pkt then none else g.decodeCand order x.rank es, sat := (es.filter (·.sat)).length,
                   flush := (es.filter (·.flush)).length }
  ((s.note d).add g order (if g.tier = 2 then none else some x.rank) (es.map (·.bits)))

/-- A PARTIAL with EMPTY set (04 R97). -/
def pktEmpty (p : Packet) : Bool := bitOf (leNat (p.trailer.take 4)) 26

/-- Contributions of one block, ranks ascending, combined from the lowest (04 R107). The place of a rank is 64 × its
block plus its place in the block; the join of block k stands at 64 × k + 63, after all its ranks (02 R50). -/
def blockSum (g : Group) (xs : List Got) : Sum :=
  xs.foldl (fun s x => s.take g (64 * g.blockOf x.rank + (if g.peer then x.rank else x.rank % 16)) x) {}

/-- The parts of a tile in order: its blocks, ascending, each with its contributions ascending; one part in the order of
arrival in arrival mode (04 R107, R109). EMPTY PARTIALs are skipped. -/
def Group.parts (g : Group) (cs : List Nat) (got : List Got) : List (Nat × List Got) :=
  let live := got.filter fun x => cs.contains x.rank && !(g.tier = 2 && pktEmpty x.pkt)
  if g.arrival then (if live.isEmpty then [] else [(0, live)])
  else
    let blocks := (cs.map g.blockOf).eraseDups
    (blocks.map fun k => (k, cs.filterMap fun r =>
      if g.blockOf r = k then live.find? fun x => x.rank == r else none)).filter fun b => !b.2.isEmpty

/-- Contributions in arrival order, each with its place (04 R109). -/
def arrivalSum (g : Group) (xs : List Got) : Sum :=
  xs.zipIdx.foldl (fun s x => s.take g x.2 x.1) {}

/-- The sum of one block or, in arrival mode, of all. -/
def partSum (g : Group) (xs : List Got) : Sum := if g.arrival then arrivalSum g xs else blockSum g xs

/-- Join block partials in block order (04 R107). -/
def joinParts (g : Group) (ps : List (Nat × Sum)) : Sum :=
  ps.foldl (fun s p => ((s.note p.2).add g (64 * p.1 + 63) none (p.2.words.getD []))) {}

/-! ### Digests (08 R223, R224) -/

/-- c_r of a contribution: 0 for a BARRIER. -/
def contribCrc (kind : Nat) (p : Packet) : Nat := if kind = 4 then 0 else crc64 p.payload

/-- PRESENT of a PARTIAL's trailer (04 R97). -/
def pktPresent (p : Packet) : Nat := bits (leNat (p.trailer.take 4)) 17 7

/-- CONTRIB_DIGEST of a list of contributions in the order they were combined. -/
def contribDigest (g : Group) (kind : Nat) (xs : List Got) : Nat :=
  if g.tier = 2 then
    xs.foldl (fun c x => crc64Combine c (leNat ((x.pkt.trailer.drop 16).take 8)) (8 * pktPresent x.pkt)) 0
  else crc64 (xs.flatMap fun x => leBytes 8 (contribCrc kind x.pkt))

/-- PRESENT of a tile: contributions that entered, or the sum of the PARTIALs' own (04 R113). -/
def presentOf (g : Group) (xs : List Got) : Nat := if g.tier = 2 then sumOf (fun x => pktPresent x.pkt) xs else xs.length

/-! ### Encoding a result (04 R94, R106) -/

/-- Pass an MX tile through: blocks holding a NaN become NaN blocks, the rest stay byte for byte (04 R94). -/
def passMx (f : Nat) (ff : FloatFmt) (x : Nat) : Encoded :=
  let w := mxWidth f
  let scales := unpackCodes 8 32 x
  let data := piecesOf 32 32 (unpackCodes w 1024 (x / 2 ^ 256))
  joinMx w ((scales.zip data).map fun b =>
    if b.1 = 255 || (f != 10 && b.2.any ff.isNan) then ⟨255, List.replicate 32 0, 0, 0, none⟩ else ⟨b.1, b.2, 0, 0, none⟩)

/-- Blocks of an ABF4 tile as scale, flare and codes. -/
def abf4Blocks (bitmap : Nat) : List Nat → Nat → Nat → List (Block × Bool)
  | [], _, _ => []
  | sc :: t, b, x =>
    if bitOf bitmap b then
      let cs := unpackCodes 8 32 x
      (if sc = 255 || cs.any e4m3.isNan then (⟨255, List.replicate 32 0, 0, 0, none⟩, false) else (⟨sc, cs, 0, 0, none⟩, true))
        :: abf4Blocks bitmap t (b + 1) (x / 2 ^ 256)
    else
      (if sc = 255 then (⟨255, List.replicate 32 0, 0, 0, none⟩, false) else (⟨sc, unpackCodes 4 32 x, 0, 0, none⟩, false))
        :: abf4Blocks bitmap t (b + 1) (x / 2 ^ 128)

/-- A tile of equal contribution and result format passed through (04 R94): scalar formats after the input flush, the
others byte for byte, NaN elements and blocks written under 02 R51. -/
def passTile (f : Nat) (payload : List Byte) (es : List Elem) : Encoded :=
  let x := leNat payload
  if f ≤ 4 then encodeFloatTile f 32 32 (es.map (·.bits))
  else if f = 15 then joinAbf4 (abf4Blocks (x % 2 ^ 32) (unpackCodes 8 32 (x / 2 ^ 32)) 0 (x / 2 ^ 288))
  else if fmtFamily f = .float then passMx f (if f = 6 then e5m2 else if f = 5 then e4m3 else e3m2) x
  else { payload := payload, sat := 0, flush := 0, bad := [] }

/-- Encode a tile into RESULT_FMT from the slot. -/
def Group.encode (g : Group) (vs : List Word) : Encoded :=
  match fmtFamily g.rfmt with
  | .float => encodeFloatTile g.rfmt g.flareSat g.flareFlush vs
  | .integer => encodeIntTile g.rfmt g.intWrap vs
  | .bitwise => encodeBitTile vs

/-- The MX_INPUT candidate of an encoding (02 R50): the lowest bad element of the first block that holds an infinity. The
data it is found in are the FP32 words of the slot (R52). -/
def mxCand (vs : List Word) (e : Encoded) : Option NanCand :=
  let hasInf (i : Nat) : Bool := ((vs.drop (i / 32 * 32)).take 32).any fIsInf
  (e.bad.find? hasInf).map fun i =>
    { element := i, order := 2 ^ 20, kind := 3, format := 0, rank := none, raw := (vs.getD i 0).toNat }

/-- A finished tile: the slot's words, the bytes sent, the first NaN, whether any NaN was met, and its counts. -/
structure TileOut where
  words : List Word
  payload : List Byte
  nan : Option NanCand
  sat : Nat
  flush : Nat
  deriving DecidableEq, Repr

/-- What a leaf forms of a tile: its block partials, joined in leaf-sum mode only, and nothing encoded (04 R110, R111). -/
def leafOut (g : Group) (kind : Nat) (ps : List (Nat × List Got)) : TileOut :=
  if kind = 4 then ⟨[], [], none, 0, 0⟩
  else
    let sums := ps.map fun p => (p.1, partSum g p.2)
    ⟨[], [], if g.leafSum then (joinParts g sums).nan else sums.foldl (fun a p => firstCand a p.2.nan) none, 0, 0⟩

/-- The result of a tile from its contributions (04 R94, R107 to R109): zeros when none is expected (R108). -/
def tileOut (g : Group) (kind : Nat) (ps : List (Nat × List Got)) : TileOut :=
  if kind = 4 then ⟨[], [], none, 0, 0⟩
  else
    match kind = 2 || kind = 3, ps with
    | true, [(_, [x])] =>
      let s := Sum.take g {} 0 x
      let w := s.words.getD []
      if g.cfmt = g.rfmt then
        let mx := fmtFamily g.cfmt = .float && 4 < g.cfmt
        let e := passTile g.cfmt x.pkt.payload (g.decode x.pkt)
        ⟨w, e.payload, s.nan, if mx then 0 else s.sat, if mx then 0 else s.flush⟩
      else
        let e := g.encode w
        ⟨w, e.payload, firstCand s.nan (mxCand w e), s.sat + e.sat, s.flush + e.flush⟩
    | _, _ =>
      let s := joinParts g (ps.map fun p => (p.1, partSum g p.2))
      let w := s.words.getD (List.replicate 1024 0)
      if kind = 6 || kind = 7 then ⟨w, [], s.nan, s.sat, s.flush⟩
      else
        let e := g.encode w
        ⟨w, e.payload, firstCand s.nan (mxCand w e), s.sat + e.sat, s.flush + e.flush⟩

end Sys2Proof.Machine
end

