-- ==== Sys2Proof/Machine/Reduction.lean ====
section
/-! DEFINITION. Reduction.lean: the operations of 04: a contribution is checked, counted, parked or taken up; tiles close,
segments and operations complete; two tiers; straggler expiry and re-forming of 03. -/
namespace Sys2Proof.Machine

/-! ### Open segments -/

/-- Open segments of a group (04 R103). -/
def Group.openSegs (g : Group) : Nat := sumOf (fun o => if o.complete then 0 else o.segs.length) g.ops

/-- Change an open segment. -/
def Op.modSeg (o : Op) (n : Nat) (f : Segment → Segment) : Op := { o with segs := modFirst (fun s => s.num == n) f o.segs }

/-- Change a tile of a segment, making it when nothing of it is listed. -/
def Segment.modTile (s : Segment) (i : Nat) (f : Tile → Tile) : Segment :=
  if s.tiles.any fun t => t.idx == i then { s with tiles := modFirst (fun t => t.idx == i) f s.tiles }
  else { s with tiles := s.tiles ++ [f { idx := i }] }

/-- Change one tile of an operation. -/
def Mach.modTile (m : Mach) (gid seq seg i : Nat) (f : Tile → Tile) : Mach :=
  m.modGroup gid fun g => g.modOp seq fun o => o.modSeg seg fun s => s.modTile i f

/-- Global tile index of a local one (04 R102). -/
def Group.globalTile (g : Group) (kind j : Nat) : Nat := if kind = 4 || kind = 7 then 0 else j * g.planes + g.planeIndex

/-- Hub core that reduces a local tile (01 R17). -/
def Group.coreOfTile (g : Group) (j : Nat) : Nat := g.coreOf (j * g.planes + g.planeIndex)

/-- Hub die of the core that reduces a local tile. -/
def Group.dieOfTile (g : Group) (j : Nat) : Nat := g.coreOfTile j / 16

/-- Parking bytes held on a hub die: parked contributions and block partials begun (04 R106). -/
def Mach.parkHeld (m : Mach) (die : Nat) : Nat :=
  sumOf (fun g => sumOf (fun o => sumOf (fun s => sumOf (fun t =>
    if t.closed || g.dieOfTile (s.num * g.segTiles + t.idx) != die then 0
    else sumOf (fun x => if x.loc == .parked || x.kept then x.pkt.payload.length else 0) t.got +
      (if g.tier = 2 || g.arrival || o.kind = 4 then 0 else
        4096 * (((t.got.filter fun x => x.loc == .taken).map fun x => g.blockOf x.rank).eraseDups).length)) s.tiles)
    o.segs) g.ops) m.groups

/-- RED_PARK_PEAK keeps the highest occupancy, in KiB rounded up (04 R121). -/
def Mach.parkPeak (m : Mach) : Mach :=
  (List.range 2).foldl (fun a d =>
    let k := (a.parkHeld d + 1023) / 1024
    if a.fld (Reg.RED_PARK_PEAK_H d) 15 0 < k then a.setFld (Reg.RED_PARK_PEAK_H d) 15 0 k else a) m

/-- Tiles open on a hub die (04 R105, R121). -/
def Mach.openTiles (m : Mach) (die : Nat) : Nat :=
  sumOf (fun g => sumOf (fun o => sumOf (fun s =>
    ((s.openIdx g).filter fun i => g.dieOfTile (s.num * g.segTiles + i) == die).length) o.segs) g.ops) m.groups

/-! ### Taking up (04 R105, R106) -/

/-- A contribution of rank r may be taken up: every earlier contributor of its block has been (04 R106). -/
def takeable (g : Group) (cs : List Nat) (t : Tile) (r : Nat) : Bool :=
  cs.all fun q => !(g.blockOf q == g.blockOf r && decide (q < r)) || t.got.any fun x => x.rank == q && x.loc == .taken

/-- Where a newly counted contribution goes (04 R105, R106, R109). -/
def placeOf (g : Group) (o : Op) (s : Segment) (cs : List Nat) (i r : Nat) : GotLoc :=
  if o.kind = 4 || g.arrival then .taken
  else if i != s.openTile then .cells
  else if takeable g cs (s.tile i) r then .taken
  else .parked

/-- The contributions of a tile that opens leave packet cells for parking (04 R105, R106). -/
def Mach.openTile (m : Mach) (gid seq seg i : Nat) : Mach :=
  match (m.group? gid).bind (·.op? seq) with
  | none => m
  | some o =>
    match o.segs.find? fun s => s.num == seg with
    | none => m
    | some s =>
      let waiting := (s.tile i).got.filter fun x => x.loc == .cells
      let m1 := waiting.foldl (fun a x => a.takeEngine x.pkt) m
      (m1.modTile gid seq seg i fun t =>
        { t with got := t.got.map fun x => if x.loc == .cells then { x with loc := .parked } else x }).parkPeak

/-! ### Completion (04 R115 to R117) -/

/-- Raise the NaN record of a segment (02 R50, R52). -/
def Mach.nanEvent (m : Mach) (g : Group) (seq seg : Nat) (n : NanRec) : Mach :=
  m.galEvent g.gallery 0x01 noFault
    [b2n n.rankValid * 2 ^ 26 + n.kind * 2 ^ 23 + n.format * 2 ^ 18 + g.gallery * 2 ^ 12 + g.id, n.tile * 2 ^ 16 + seq,
      seg * 2 ^ 20 + n.rank * 2 ^ 10 + n.element, n.core, n.raw]

/-- Data tiles of a segment that a member receives (04 R91). -/
def Group.dataTiles (g : Group) (o : Op) (seg count r : Nat) : Nat :=
  if o.kind = 6 || o.kind = 7 then 0
  else if o.kind = 5 then (if r = o.root then count else 0)
  else if o.kind = 1 then ((List.range count).filter fun i => g.owner (seg * g.segTiles + i) == r).length
  else count

/-- Credit-only packets of a completed segment (04 R116). -/
def Mach.creditOnly (m : Mach) (st : Store) (g : Group) (o : Op) (seg count : Nat) : Mach :=
  g.present.foldl (fun a x =>
    let miss := count - g.dataTiles o seg count x.rank
    if miss = 0 || g.peer || g.tier != 0 then a
    else
      let p := a.resultPacket g o 0 seg (if o.kind = 5 then o.root else 0) []
        (trailer32 (statusCode o.status) false false 0 miss 0 0 0 0)
      a.multicast st [(none, { p with dest := BitVec.ofNat 16 x.target })]) m

/-- An operation completes (04 R115): a LOCAL or PEER operation keeps its slots, the others are remembered. -/
def Mach.completeOp (m : Mach) (st : Store) (gid seq : Nat) : Mach :=
  match m.group? gid with
  | none => m
  | some g =>
    match g.op? seq with
    | none => m
    | some o =>
      let m1 := m.auditOp st g o
      let keep := o.kind = 6 || o.kind = 7
      let m2 := m1.modGroup gid fun h =>
        if keep then h.modOp seq fun x => { x with complete := true, segs := [] }
        else { h with ops := eraseFirst (fun x => x.seq == seq && !x.complete) h.ops }
      { m2 with ended := ⟨gid, seq, m2.now, o.status⟩ :: m2.ended }

/-- All tiles of a segment with a known count have closed. -/
def Segment.allClosed (s : Segment) : Bool :=
  match s.count with
  | some n => (List.range n).all fun i => (s.tile i).closed
  | none => false

/-- Complete a segment whose tiles are all closed: its timer stops, its NaN record is raised, credit-only packets go out,
and the operation completes with its last segment (04 R115, R116). A leaf keeps the segment until its results have been
forwarded (R113). -/
def Mach.settleSeg (m : Mach) (st : Store) (gid seq seg : Nat) : Mach :=
  match m.group? gid with
  | none => m
  | some g =>
    match g.op? seq with
    | none => m
    | some o =>
      match o.segs.find? fun s => s.num == seg with
      | none => m
      | some s =>
        if !s.allClosed then m
        else
          let n := s.count.getD 0
          let raise := s.nan.isSome && !o.trapped && !g.nanMode
          let m1 := match s.nan with
            | some r => if raise then m.nanEvent g seq seg r else m
            | none => m
          let m2 := m1.modGroup gid fun h => h.modOp seq fun x =>
            { x.modSeg seg (fun y => { y with timer := none, nan := none }) with trapped := x.trapped || raise }
          if g.tier = 1 && s.forwarded < n then m2
          else
            let m3 := if g.tier = 1 then m2 else m2.creditOnly st g o seg n
            let m4 := m3.modGroup gid fun h => h.modOp seq fun x =>
              { x with segs := x.segs.filter fun y => y.num != seg, done := seg :: x.done }
            match o.lastSeg with
            | some l => if (List.range (l + 1)).all fun i => i == seg || o.done.contains i then m4.completeOp st gid seq else m4
            | none => m4

/-! ### Closing a tile (04 R105 to R116) -/

/-- PARTIALs of a leaf for one tile (04 R110, R111): one per owned block with a member entry, or one for the leaf. LAST goes
on the highest of the segment's last local tile. -/
def Mach.leafPartials (m : Mach) (g : Group) (o : Op) (s : Segment) (i : Nat) (ps : List (Nat × List Got)) : List Packet :=
  let lastTile := s.count == some (i + 1)
  let final := lastTile && o.lastSeg == some s.num
  let mk (r : Nat) (xs : List Got) (sum : Sum) (empty last : Bool) : Packet :=
    let body := if empty || o.kind = 4 then [] else wordBytes (sum.words.getD (List.replicate 1024 0))
    let st := if sum.nan.isSome then Status.nanTrap else if o.excluded.isEmpty then .ok else .partialMembers
    { type := 9, vc := 2, epoch := m.sw.stamp, last := last, gallery := BitVec.ofNat 6 g.gallery,
      length := BitVec.ofNat 13 body.length, dest := 0xFFF1, src := 0xFFF1,
      flow := BitVec.ofNat 20 (o.kind * 2 ^ 17 + o.rootField * 2 ^ 7 + (if last then b2n final * 2 ^ 6 + i else 0)),
      group := BitVec.ofNat 12 g.id, opSeq := BitVec.ofNat 16 o.seq,
      tile := BitVec.ofNat 16 (g.globalTile o.kind (s.num * g.segTiles + i)), segment := BitVec.ofNat 8 s.num, format := 0,
      rank := BitVec.ofNat 10 r, payload := body,
      trailer := trailer32 (statusCode st) false empty xs.length 0 (if g.nanMode then sum.sat else 0)
        (if g.nanMode then sum.flush else 0) (if body.isEmpty then 0 else crc64 body) (contribDigest g o.kind xs) }
  if g.leafSum then
    let sum := if o.kind = 4 then {} else joinParts g (ps.map fun p => (p.1, partSum g p.2))
    [mk g.blockLo (ps.flatMap (·.2)) sum ps.isEmpty lastTile]
  else
    let blocks := ((g.members.map fun x => x.rank / 16).eraseDups)
    blocks.map fun k =>
      let xs := (ps.filter fun p => p.1 == k).flatMap (·.2)
      mk k xs (if o.kind = 4 then {} else blockSum g xs) xs.isEmpty (lastTile && blocks.getLast? == some k)

/-- The receivers of a result tile (04 R91). -/
def Group.receivers (g : Group) (o : Op) (j : Nat) : List Member :=
  if o.kind = 1 then g.present.filter fun x => x.rank == g.owner j
  else if o.kind = 5 then g.present.filter fun x => x.rank == o.root
  else g.present

/-- The header RANK of a result tile (04 R95). -/
def Group.resultRank (g : Group) (o : Op) (j : Nat) : Nat :=
  if o.kind = 1 || o.kind = 2 then g.owner j else if o.kind = 3 || o.kind = 5 then o.root else 0

/-- Fill a PEER vector's slot to a whole register with free values: the spec states no value past its n elements. -/
def Mach.padSlot (m : Mach) (ws : List Word) : List Word × Mach :=
  let n := 1024 - ws.length
  (ws ++ (List.range n).map fun i => BitVec.ofNat 32 (Config.freeValue (m.free + i)), { m with free := m.free + n })

/-- Close tile `i` of a segment: form its result, send or keep it, and open the next tile (04 R105, R116). -/
def Mach.closeTile (m : Mach) (st : Store) (g : Group) (o : Op) (s : Segment) (i : Nat) : Mach :=
  let j := s.num * g.segTiles + i
  let cs := g.contributors o j
  let ps := g.parts cs (s.tile i).got
  let xs := ps.flatMap (·.2)
  let out := if g.tier = 1 then leafOut g o.kind ps else tileOut g o.kind ps
  let own : Status := if out.nan.isSome then .nanTrap
    else if !o.excluded.isEmpty || (xs.isEmpty && o.kind != 4) then .partialMembers else .ok
  let status := if g.tier = 2 then
      xs.foldl (fun a x => worst a ((statusOf? (bits (leNat (x.pkt.trailer.take 4)) 31 28)).getD .uncorrectable)) own
    else own
  let core := g.coreOfTile j
  let cand : Option NanRec := out.nan.map fun n =>
    { tile := g.globalTile o.kind j, element := n.element, order := n.order, kind := n.kind, format := n.format,
      rank := n.rank.getD 0, rankValid := n.rank.isSome, core, raw := n.raw }
  let better (a : Option NanRec) : Option NanRec := match a, cand with
    | some x, some y => if y.tile < x.tile then some y else some x
    | none, y => y
    | x, none => x
  let next := ((List.range g.segTiles).find? fun k => !(k == i || (s.tile k).closed)).getD g.segTiles
  let digest := contribDigest g o.kind xs
  let m1 := m.modGroup g.id fun h => h.modOp o.seq fun x =>
    { (x.modSeg s.num fun y => { (y.modTile i fun t => { t with got := t.got.map (fun z => { z with pkt := { z.pkt with payload := [] } }), closed := true, status := status })
        with nan := better y.nan, openTile := if y.openTile = i then next else y.openTile }) with
      status := worst x.status status }
  let m2 :=
    if o.kind = 6 || o.kind = 7 then
      let w := if o.kind = 7 then m1.padSlot out.words else (out.words, m1)
      let m2 := w.2.modGroup g.id fun h => h.modOp o.seq fun x =>
        { x with results := x.results ++ [(j, { idx := i, closed := true, slot := w.1, status := status })] }
      match m2.roleOf st g o with
      | some (n, key) => if key = 4096 then m2 else
          m2.modSession n fun y => { y with audit := { y.audit with cdParts := partInsert (key, j, digest) y.audit.cdParts } }
      | none => m2
    else if g.tier = 1 then
      (m1.leafPartials g o s i ps).foldl (fun a p => a.toPort g.uplink p none false false true) m1
    else
      let sums := if g.tier = 2 && o.kind != 4 then
          (sumOf (fun x => leNat ((x.pkt.trailer.drop 6).take 2)) xs, sumOf (fun x => leNat ((x.pkt.trailer.drop 4).take 2)) xs)
        else (0, 0)
      let on := g.nanMode
      let p := m1.resultPacket g o (g.globalTile o.kind j) s.num (g.resultRank o j) out.payload
        (trailer32 (statusCode status) false false (presentOf g xs) 1 (if on then sums.1 + out.sat else 0)
          (if on then sums.2 + out.flush else 0) (crc64 out.payload) digest)
      m1.multicast st (g.copiesTo (g.receivers o j) p) (g.coreOf (g.globalTile o.kind j) / 16)
  let m3 := if g.arrival || next = g.segTiles then m2 else m2.openTile g.id o.seq s.num next
  m3.settleSeg st g.id o.seq s.num

/-- A tile may close: every contributor has been counted and taken up; a tile nobody is to send belongs to its segment
(04 R105, R108, R115). A leaf in arrival mode must know which tile is the segment's last, to set LAST on it (R111). -/
def closable (g : Group) (o : Op) (s : Segment) (i : Nat) : Bool :=
  let cs := g.contributors o (s.num * g.segTiles + i)
  let t := s.tile i
  !t.closed && (g.arrival || s.openTile == i) && !(g.tier = 1 && g.arrival && s.count.isNone) && cs.all (fun r => t.got.any fun x => x.rank == r && x.loc == .taken) &&
    (!cs.isEmpty || !t.got.isEmpty || (match s.count with
      | some n => decide (i < n)
      | none => false))

/-! ### Ending operations on errors -/

/-- End an operation, whether it has opened or not (04 R117). -/
def Mach.endOrRefuse (m : Mach) (st : Store) (g : Group) (p : Packet) (status : Status) : Mach :=
  let m0 := m.takeEngine p
  if (g.op? p.opSeq.toNat).isSome then m0.endOp st g.id p.opSeq.toNat status
  else m0.refuseOp st g p.opSeq.toNat (p.flow.toNat / 2 ^ 17) (bits p.flow.toNat 16 7) status

/-- BAD_FORMAT under R92 or R98, counted. -/
def Mach.badFormat (m : Mach) (st : Store) (g : Group) (p : Packet) : Mach :=
  (m.endOrRefuse st g p .badFormat).count Reg.RED_BADFMT_CNT

/-- A contribution waits in packet cells (03 R85, 04 R104, 06 R159). -/
def Mach.waitIn (m : Mach) (gid port : Nat) (p : Packet) : Mach :=
  m.modGroup gid fun g => { g with waiting := g.waiting ++ [(port, p)] }

/-! ### Checks of a contribution -/

/-- Kinds a group accepts (04 R92). -/
def kindOk (g : Group) (kind : Nat) : Bool :=
  if g.peer then kind == 7 else if g.tier = 0 then decide (kind ≤ 6) else kind == 0 || kind == 4

/-- Format and length of a CONTRIB (04 R98, 02 R44). -/
def contribFits (g : Group) (kind : Nat) (p : Packet) : Bool :=
  if kind = 4 then p.format == 0 && p.length == 0
  else p.format.toNat == g.cfmt && (
    if kind = 7 then p.length.toNat % 4 == 0 && decide (4 ≤ p.length.toNat) && decide (p.length.toNat ≤ 4096)
    else if g.cfmt = 15 then p.length.toNat == abf4Bytes (leNat (p.payload.take 4))
    else p.length.toNat == fmtBytes g.cfmt)

/-- Format and length of a PARTIAL (04 R95, R110). -/
def partialFits (kind : Nat) (p : Packet) : Bool :=
  p.format == 0 && (if kind = 4 || pktEmpty p then p.length == 0 else p.length == 4096)

/-- The tile lies on this plane and in its segment (03 R72, 04 R102). -/
def tileFits (g : Group) (kind : Nat) (p : Packet) : Bool :=
  let t := p.tile.toNat
  let s := p.segment.toNat
  if kind = 4 || kind = 7 then t == 0 && s == 0
  else t % g.planes == g.planeIndex && decide (s * g.segTiles ≤ t / g.planes) && decide (t / g.planes < (s + 1) * g.segTiles)

/-- OP, ROOT, or a PEER length, differs from an earlier packet of the operation (04 R98, R114). -/
def opDiffers (o : Op) (kind root : Nat) (p : Packet) : Bool :=
  o.kind != kind || o.root != root || (kind == 7 && o.peerLen != p.length.toNat)

/-- Two LAST packets disagree, or the count is above T (04 R98). -/
def lastDiffers (g : Group) (o : Option Op) (p : Packet) : Bool :=
  let n := p.flow.toNat % 64 + 1
  let fin := bitOf p.flow.toNat 6
  let seg := p.segment.toNat
  p.last && (decide (g.segTiles < n) ||
    (match o.bind (fun o => o.segs.find? fun s => s.num == seg) with
      | some s => (match s.count with
        | some k => k != n || s.final != fin
        | none => false)
      | none => false) ||
    (match o.bind (·.lastSeg) with
      | some l => fin != (l == seg)
      | none => false))

/-- The tile is outside the segment's known count, or the one its own LAST tells, or after the final segment (04 R102). -/
def outOfCount (g : Group) (o : Option Op) (kind : Nat) (p : Packet) : Bool :=
  let seg := p.segment.toNat
  let i := (if kind = 4 || kind = 7 then 0 else p.tile.toNat / g.planes) - seg * g.segTiles
  (match o.bind (fun o => o.segs.find? fun s => s.num == seg) with
    | some s => (match s.count with
      | some k => decide (k ≤ i)
      | none => false)
    | none => false) ||
  (p.last && kind != 2 && kind != 3 && decide (p.flow.toNat % 64 < i)) ||
  (match o.bind (·.lastSeg) with
    | some l => decide (l < seg)
    | none => false)

/-! ### The attention operation of a layer (06 R159, R162) -/

/-- What opening an attention operation calls for. -/
inductive LayerOpen where
  | plain | waits | ends (s : Status) (seqErr : Bool) | fails (n : Nat) | starts (n : Nat)
  deriving DecidableEq, Repr

/-- A session's program runs or is queued on its home core. -/
def Mach.sessionRuns (m : Mach) (s : Session) : Bool :=
  let c := m.core s.home
  (c.running.bind (·.session)) == some s.n || c.queue.any fun q => q.session == some s.n

/-- Check a LOCAL operation that opens on the ATTN_GROUP of a session's CUR_LAYER entry, or, while the session's program
runs, of the entry that follows (06 R159). -/
def Mach.layerOpen (m : Mach) (g : Group) (kind seq : Nat) : LayerOpen :=
  match m.session? (seq / 2 ^ 14) with
  | none => .plain
  | some s =>
    let attn (layer : Nat) : Bool := m.lay layer 0 11 0 == g.id
    if kind != 6 || s.gallery != g.gallery then .plain
    else if !attn s.cur then
      (if !s.failed && m.sessionRuns s && attn (m.nextLayer s) && seq % 2 ^ 14 == (s.rseq + 1) % 16 * 2 ^ 10 then .waits else .plain)
    else if s.failed then .ends s.failStatus false
    else
      let active (i : Nat) : Bool := match m.group? i with
        | some h => h.state == .active && h.gallery == s.gallery
        | none => false
      if m.sessionRuns s then .waits
      else if seq / 2 ^ 10 % 16 != s.rseq || seq % 2 ^ 10 != 0 then .ends .badFormat true
      else if !bitOf (m.layerWord s.cur 0) 31 || !active g.id || !active (m.lay s.cur 1 11 0) ||
        !active (m.lay s.cur 1 23 12) then .fails s.n
      else .starts s.n

/-- Queue the program of a session's CUR_LAYER entry (06 R159); a refused start fails the layer with NO_SLOT. -/
def Mach.queueLayer (m : Mach) (st : Store) (n : Nat) : Mach :=
  match m.session? n with
  | none => m
  | some s =>
    let start : Start :=
      { entry := m.lay s.cur 9 14 0, gallery := s.gallery, scrBase := s.scrBase, scrLimit := s.scrLimit,
        hbmBase := s.hbmBase, hbmLimit := s.hbmLimit, session := some n }
    let r := m.queueStart s.home start
    match r.1 with
    | some _ => r.2.layerFail st n .noSlot
    | none => r.2

/-- M tokens of an attention operation with `n` tiles, if the count is legal (06 R162). -/
def tokensOf (s : Session) (n : Nat) : Option Nat :=
  if n % s.tp = 0 && 1 ≤ n / s.tp && n / s.tp ≤ s.maxTok then some (n / s.tp) else none

/-- The session whose attention operation turns out to have an illegal tile count (06 R162). -/
def Mach.attnBad (m : Mach) (st : Store) (g : Group) (o : Op) : Option Nat :=
  match m.roleOf st g o, o.tiles with
  | some (x, 0), some n => (m.session? x).bind fun s => if (tokensOf s n).isNone then some x else none
  | _, _ => none

/-- An attention operation with an illegal tile count ends with BAD_FORMAT, and its program leaves the queue (06 R162). -/
def Mach.attnRefuse (m : Mach) (st : Store) (gid seq x : Nat) : Mach :=
  let m1 := m.endOp st gid seq .badFormat
  match m1.session? x with
  | some s => m1.modCore s.home fun c => { c with queue := c.queue.filter fun q => q.session != some x }
  | none => m1

/-! ### Counting -/

/-- Contributions counted for tiles that the segment turns out not to have are mistiles (04 R102). -/
def Mach.dropBeyond (m : Mach) (gs : List Got) : Mach :=
  gs.foldl (fun a x => (if x.loc == .cells then a.takeEngine x.pkt else a).count Reg.GRP_MISTILE_CNT) m

/-- Count a packet that passed every check (04 R115): open its operation and segment, take it up, park it or leave it in
cells, and learn the tile count of a LAST. -/
def Mach.countIn (m : Mach) (st : Store) (g : Group) (p : Packet) : Mach :=
  let seq := p.opSeq.toNat
  let kind := p.flow.toNat / 2 ^ 17
  let seg := p.segment.toNat
  let i := (if kind = 4 || kind = 7 then 0 else p.tile.toNat / g.planes) - seg * g.segTiles
  let isNew := (g.op? seq).isNone
  let o0 : Op := (g.op? seq).getD { seq := seq, kind := kind, root := bits p.flow.toNat 16 7, peerLen := p.length.toNat }
  let o1 : Op := if o0.segs.any (fun s => s.num == seg) then o0 else
    { o0 with segs := o0.segs ++ [{ num := seg, timer := if g.stragglerNs = 0 then none else some m.advNs }] }
  let s1 := (o1.segs.find? fun s => s.num == seg).getD { num := seg }
  let cs := g.contributors o1 (seg * g.segTiles + i)
  let loc := placeOf g o1 s1 cs i p.rank.toNat
  let n := p.flow.toNat % 64 + 1
  let fin := bitOf p.flow.toNat 6
  let learn (s : Segment) : Segment :=
    if p.last && s.count.isNone then { s with count := some n, final := fin, tiles := s.tiles.filter fun t => decide (t.idx < n) }
    else s
  let o2 := o1.modSeg seg fun s => learn (s.modTile i fun t => { t with got := t.got ++ [({ rank := p.rank.toNat, pkt := p, loc := loc } : Got)] })
  let o3 := if p.last && fin then { o2 with lastSeg := some seg, tiles := some (seg * g.segTiles + n) } else o2
  let m1 := m.modGroup g.id fun h =>
    if isNew then { h with ops := h.ops.filter (fun x => x.seq != seq) ++ [o3] } else h.modOp seq fun _ => o3
  let m2 := if isNew then { m1 with ended := m1.ended.filter fun e => !(e.group == g.id && e.seq == seq) } else m1
  let beyond := if p.last && s1.count.isNone then (s1.tiles.filter fun t => decide (n ≤ t.idx)).flatMap (·.got) else []
  let m3 := (if loc == .cells then m2 else m2.takeEngine p).parkPeak.dropBeyond beyond
  match m3.attnBad st g o3 with
  | some x => m3.attnRefuse st g.id seq x
  | none => m3.settleSeg st g.id seq seg

/-- Open an operation's first packet through the layer check (06 R159), then count it. -/
def Mach.openIn (m : Mach) (st : Store) (g : Group) (port : Nat) (p : Packet) : Mach :=
  if (g.op? p.opSeq.toNat).isSome then m.countIn st g p
  else
    match m.layerOpen g (p.flow.toNat / 2 ^ 17) p.opSeq.toNat with
    | .plain => m.countIn st g p
    | .waits => m.waitIn g.id port p
    | .ends s e =>
      let m1 := m.endOrRefuse st g p s
      if e then m1.count Reg.LAY_SEQ_ERR_CNT else m1
    | .fails n => (m.endOrRefuse st g p .noSlot).layerFail st n .noSlot
    | .starts n =>
      let m1 := m.countIn st g p
      if ((m1.group? g.id).bind (·.op? p.opSeq.toNat)).isSome then m1.queueLayer st n else m1

/-- A CONTRIB or PARTIAL reaches the collective engine: the checks in the order of log 23, then counting (04 R115). -/
def Mach.intake (m : Mach) (st : Store) (port : Nat) (p : Packet) : Mach :=
  let isPartial := p.type == 9
  let kind := p.flow.toNat / 2 ^ 17
  let root := bits p.flow.toNat 16 7
  let seq := p.opSeq.toNat
  let r := p.rank.toNat
  match m.group? p.group.toNat with
  | none => m.discardIn p Reg.GRP_MISTILE_CNT
  | some g =>
    if g.gallery != p.gallery.toNat || g.state == .halted || isPartial != (g.tier == 2) then m.discardIn p Reg.GRP_MISTILE_CNT
    else if m.remembers g.id seq && (g.op? seq).isNone then
      m.discardIn p Reg.GRP_LATE_DISCARD_CNT
    else if g.state == .reforming then m.waitIn g.id port p
    else
      match g.members.find? fun x => x.rank == r with
      | none => m.discardIn p Reg.GRP_MISTILE_CNT
      | some x =>
        let o? := g.op? seq
        let trailStatus := bits (leNat (p.trailer.take 4)) 31 28
        if isPartial && x.target != port then m.discardIn p Reg.GRP_MISTILE_CNT
        else if x.mstate != .present || (match o? with
          | some o => o.excluded.contains r
          | none => false) then m.discardIn p Reg.GRP_LATE_DISCARD_CNT
        else if p.poison || (isPartial && decide (12 ≤ trailStatus)) then
          (m.endOrRefuse st g p .uncorrectable).count Reg.RED_POISON_CNT
        else if !kindOk g kind || (kind == 6 && g.rfmt != 0 && g.rfmt != 11) then m.badFormat st g p
        else if !tileFits g kind p then m.discardIn p Reg.GRP_MISTILE_CNT
        else if (kind == 3 || kind == 5) && !g.present.any (fun y => y.rank == root) then
          (m.endOrRefuse st g p .abortMemberLost).count Reg.RED_BADFMT_CNT
        else if !(if isPartial then partialFits kind p else contribFits g kind p) then m.badFormat st g p
        else if (match o? with
          | some o => opDiffers o kind root p
          | none => false) then m.badFormat st g p
        else if (kind == 2 && g.owner (p.tile.toNat / g.planes) != r) || (kind == 3 && root != r) then
          m.discardIn p Reg.RED_NOTOWNER_CNT
        else if lastDiffers g o? p then m.badFormat st g p
        else if outOfCount g o? kind p then m.discardIn p Reg.GRP_MISTILE_CNT
        else
          match o? with
          | some o =>
            let seg := p.segment.toNat
            let i := (if kind = 4 || kind = 7 then 0 else p.tile.toNat / g.planes) - seg * g.segTiles
            match o.segs.find? fun s => s.num == seg with
            | some s =>
              if (s.tile i).closed || (s.tile i).got.any (fun y => y.rank == r) then m.discardIn p Reg.RED_DUP_CNT
              else m.openIn st g port p
            | none =>
              if o.done.contains seg then m.discardIn p Reg.RED_DUP_CNT
              else if g.window ≤ g.openSegs then
                (if g.peer then m.waitIn g.id port p else m.discardIn p Reg.RED_WINDOW_CNT)
              else m.openIn st g port p
          | none =>
            if g.window ≤ g.openSegs then
              (if g.peer then m.waitIn g.id port p else m.discardIn p Reg.RED_WINDOW_CNT)
            else m.openIn st g port p

/-- Contributions of a group that wait in packet cells are tried again in their order (03 R85, 04 R104, 06 R159). -/
def Mach.retryWaiting (m : Mach) (st : Store) (gid : Nat) : Mach :=
  match m.group? gid with
  | none => m
  | some g => g.waiting.foldl (fun a w => a.intake st w.1 w.2) (m.modGroup gid fun h => { h with waiting := [] })

/-! ### Stragglers (03 R78 to R82) -/

/-- The tiles known to be in a segment (log 24): its count, else the tiles seen, or a full segment's when all of those
have closed. -/
def Segment.known (g : Group) (s : Segment) : List Nat :=
  match s.count with
  | some n => List.range n
  | none =>
    let seen := s.tiles.map (·.idx)
    if s.tiles.all (·.closed) then List.range g.segTiles else seen

/-- Ranks missing from a segment (03 R80). -/
def missingRanks (g : Group) (o : Op) (s : Segment) : List Nat :=
  (g.expected o).filter fun r => (s.known g).any fun i =>
    (g.contributors o (s.num * g.segTiles + i)).contains r && !(s.tile i).got.any fun x => x.rank == r

/-- EXCLUDE (03 R80): mark the missing ranks, drop what they sent for tiles still open, take up what no longer waits; a
segment whose count nobody is left to tell is a full one (log 24), so that each of its tiles gets its +0 slot (04 R108, 06
R171), and the operation's result carries PARTIAL. -/
def Mach.exclude (m : Mach) (st : Store) (gid seq seg : Nat) (rs : List Nat) : Mach :=
  match m.group? gid with
  | none => m
  | some g =>
    match g.op? seq with
    | none => m
    | some o =>
      let gone := o.segs.flatMap fun s => (s.tiles.filter fun t => !t.closed).flatMap fun t =>
        t.got.filter fun x => rs.contains x.rank && x.loc == .cells
      let m1 := gone.foldl (fun a x => a.takeEngine x.pkt) m
      let drop (t : Tile) : Tile := if t.closed then t else { t with got := t.got.filter fun x => !rs.contains x.rank }
      let o1 := { o with excluded := o.excluded ++ rs,
                         segs := o.segs.map fun (s : Segment) => { s with tiles := s.tiles.map drop } }
      let nobody := (g.expected o1).isEmpty || (o.kind == 3 && rs.contains o.root)
      let last := o1.lastSeg.getD (o1.segs.foldl (fun a s => max a s.num) seg)
      let segs := o1.segs.map fun (s : Segment) => if s.count.isNone then { s with count := some g.segTiles, final := s.num == last } else s
      let lastCount := ((segs.find? fun s => s.num == last).bind (·.count)).getD g.segTiles
      let o2 := if nobody then
          { o1 with segs := segs, lastSeg := some last, tiles := some (o1.tiles.getD (last * g.segTiles + lastCount)) }
        else o1
      let m2 := m1.modGroup gid fun h => h.modOp seq fun _ => { o2 with status := worst o2.status .partialMembers }
      match m2.attnBad st g o2 with
      | some x => m2.attnRefuse st gid seq x
      | none => m2.settleSeg st gid seq seg

/-- The straggler timer runs and STRAGGLER_NS of fabric time have passed since it started, steps excluded (03 R78, 09
R247). -/
def Segment.expired (s : Segment) (g : Group) (m : Mach) : Bool :=
  match s.timer with
  | some t => decide (t + g.stragglerNs ≤ m.advNs)
  | none => false

/-- STRAGGLER_EXPIRY, 03 R80, for a segment whose timer runs out. -/
def Mach.straggle (m : Mach) (st : Store) (gid seq seg : Nat) : Mach :=
  match m.group? gid with
  | none => m
  | some g =>
    match g.op? seq with
    | none => m
    | some o =>
      match o.segs.find? fun s => s.num == seg with
      | none => m
      | some s =>
        if !s.expired g m then m
        else
          let m1 := (m.modGroup gid fun h => h.modOp seq fun x => x.modSeg seg fun y => { y with timer := none }).count
            Reg.GRP_STRAG_CNT
          let rs := missingRanks g o s
          match g.policy with
          | .wait => m1.groupEvent g 0x02 seg seq rs.length (rs.headD 0) 0
          | .abort => m1.endOps st gid .abortTimeout
          | .exclude =>
            let m2 := rs.foldl (fun a r => a.groupEvent g 0x03 seg seq 1 r 0) m1
            if rs.isEmpty then m2 else m2.exclude st gid seq seg rs

/-! ### Results at a leaf (04 R113) -/

/-- A leaf receives a RESULT from its spine and forwards it (04 R101, R113); a reserved format code refuses the operation
(02 R25). -/
def Mach.fromSpine (m : Mach) (st : Store) (port : Nat) (p : Packet) : Mach :=
  let w0 := leNat (p.trailer.take 4)
  let seq := p.opSeq.toNat
  match m.group? p.group.toNat with
  | none => m.discardIn p Reg.GRP_MISTILE_CNT
  | some g =>
    if g.gallery != p.gallery.toNat || g.tier != 1 || g.uplink != port || g.state != .active then
      m.discardIn p Reg.GRP_MISTILE_CNT
    else if m.remembers g.id seq && (g.op? seq).isNone then m.discardIn p Reg.GRP_LATE_DISCARD_CNT
    else if 12 ≤ bits w0 31 28 then (m.endOrRefuse st g p .uncorrectable).count Reg.RED_POISON_CNT
    else if !fmtKnown p.format.toNat then m.endOrRefuse st g p .badFormat
    else if 31 < p.hops.toNat + 1 then m.discardIn p Reg.TRL_HOPS_CNT
    else
      let m1 := (m.takeEngine p).multicast st (g.copiesTo g.present { p with hops := p.hops + 1 }) (g.coreOf p.tile.toNat / 16)
      if bitOf w0 27 then
        let m2 := m1.dropEngine fun x => x.group.toNat == g.id && x.opSeq.toNat == seq
        let m3 := m2.modGroup g.id fun h => { h with ops := eraseFirst (fun x => x.seq == seq && !x.complete) h.ops }
        { m3 with ended := ⟨g.id, seq, m3.now, (statusOf? (bits w0 31 28)).getD .uncorrectable⟩ :: m3.ended }
      else
        (m1.modGroup g.id fun h => h.modOp seq fun o =>
          { o.modSeg p.segment.toNat (fun s => { s with forwarded := s.forwarded + w0 % 128 }) with
            status := worst o.status ((statusOf? (bits w0 31 28)).getD .ok) }).settleSeg st g.id seq p.segment.toNat

/-! ### Commands -/

/-- CONTRIB, 04 R115; `err` is an error met in the group and member tables (17 R454, store 7). -/
def execContrib (port : BitVec 9) (pkt : Packet) (err : HwErr) (s : State) : Host.Outcome State Fault Refusal :=
  s.runM fun st m => m.whenRunning fun m =>
    let g := m.group? pkt.group.toNat
    let die := (g.map fun g => g.dieOfTile 0).getD 0
    let inj := m.injRead 7 die (8 * pkt.group.toNat) (8 * pkt.group.toNat + 8)
    match g, orErr err inj.1 with
    | some g, .ue s pos addr =>
      if s = 7 then
        let m1 := (m.eccUe 7 die pos.toNat addr.toNat).fenceTable die (.group g.id)
        let m2 := (m1.endOps st g.id .uncorrectable).modGroup g.id fun h => { h with state := .halted }
        m2.discardIn pkt Reg.GRP_MISTILE_CNT
      else m.intake st port.toNat pkt
    | _, .ce s pos addr hard =>
      if s = 7 then (inj.2.eccCe 7 die pos.toNat addr.toNat hard).intake st port.toNat pkt else m.intake st port.toNat pkt
    | _, _ => m.intake st port.toNat pkt

/-- PARTIAL, 04 R110, at a spine. -/
def execPartialIn (port : BitVec 9) (pkt : Packet) (s : State) : Host.Outcome State Fault Refusal :=
  s.runM fun st m => m.whenRunning fun m => m.intake st port.toNat pkt

/-- RESULT_FROM_SPINE, 04 R113. -/
def execResultFromSpine (port : BitVec 9) (pkt : Packet) (s : State) : Host.Outcome State Fault Refusal :=
  s.runM fun st m => m.whenRunning fun m => m.fromSpine st port.toNat pkt

/-- Take up the next parked contribution of an open tile, in the order of 04 R107. -/
def Mach.takeUp (m : Mach) (g : Group) (o : Op) (s : Segment) (i : Nat) : Mach :=
  let t := s.tile i
  let cs := g.contributors o (s.num * g.segTiles + i)
  match t.got.find? fun x => x.loc == .parked && cs.contains x.rank && takeable g cs t x.rank with
  | none => m
  | some x => (m.modTile g.id o.seq s.num i fun t =>
      { t with got := t.got.map fun y => if y.rank == x.rank then { y with loc := .taken, kept := true } else y }).parkPeak

/-- The segment that holds a global tile of an operation, with the tile's local index (04 R102). -/
def Mach.tileAt (m : Mach) (group opSeq tile : Nat) : Option (Group × Op × Segment × Nat) :=
  (m.group? group).bind fun g => (g.op? opSeq).bind fun o =>
    let j := if o.kind = 4 || o.kind = 7 then 0 else tile / g.planes
    (o.segs.find? fun s => s.num == j / g.segTiles).map fun s => (g, o, s, j)

/-- Take up at local tile `j` of an operation whose segment `s` holds it, with what the core meets. -/
def Mach.takeUpAt (m : Mach) (st : Store) (g : Group) (o : Op) (s : Segment) (j : Nat) (err : HwErr) : Mach :=
  let i := j % g.segTiles
  let core := g.coreOfTile j
  let inj := m.takeResidue core 0
  if !(g.arrival || s.openTile == i) then m
  else if inj.1 then inj.2.coreResidue st core 0 false
  else
    match err with
    | .residue => m.coreResidue st core 0 false
    | .ue _ pos addr => (m.eccUeNote 1 (core / 16) pos.toNat addr.toNat).endOp st g.id o.seq .uncorrectable
    | .ce _ pos addr hard => (m.eccCe 1 (core / 16) pos.toNat addr.toNat hard).takeUp g o s i
    | .none | .badPtr _ => m.takeUp g o s i

/-- CONTRIB_TAKE_UP, 04 R119: of global tile `tile` of an operation. `err` is what the core meets: an uncorrectable word of
parking or a slot ends the operation (04 R118, 17 R454), a residue mismatch fences the core. -/
def execContribTakeUp (group : BitVec 12) (opSeq tile : BitVec 16) (err : HwErr) (s : State) :
    Host.Outcome State Fault Refusal :=
  s.runM fun st m => m.whenRunning fun m =>
    match m.tileAt group.toNat opSeq.toNat tile.toNat with
    | some (g, o, s, j) => m.takeUpAt st g o s j err
    | none => m

/-- Words of the slots of a die that a close writes and reads: all of them, since the spec places no slot. -/
def slotWords : Nat := 2 ^ 32

/-- A bad word of a die's slots leaves with the operation that it ends (04 R118). -/
def Mach.slotsCleared (m : Mach) (die : Nat) : Mach :=
  { m with ecc := { m.ecc with bad := m.ecc.bad.filter fun b => !(b.1 == 2 && b.2.1 == die) } }

/-- Close local tile `j` of an operation whose segment `s` holds it, with what its slot meets. -/
def Mach.closeAt (m : Mach) (st : Store) (g : Group) (o : Op) (s : Segment) (j : Nat) (err : HwErr) : Mach :=
  let die := g.dieOfTile j
  if !closable g o s (j % g.segTiles) then m
  else
    let m0 := m.injWrite 2 die 0 slotWords
    let inj := m0.injRead 2 die 0 slotWords
    match orErr err inj.1 with
    | .ue _ pos addr => ((m0.slotsCleared die).eccUeNote 2 die pos.toNat addr.toNat).endOp st g.id o.seq .uncorrectable
    | .ce _ pos addr hard => (inj.2.eccCe 2 die pos.toNat addr.toNat hard).closeTile st g o s (j % g.segTiles)
    | .residue => m0.coreResidue st (g.coreOfTile j) 0 false
    | .none | .badPtr _ => m0.closeTile st g o s (j % g.segTiles)

/-- TILE_CLOSE, 04 R105, of global tile `tile`; `err` is an error of its slot (store 2). -/
def execTileClose (group : BitVec 12) (opSeq tile : BitVec 16) (err : HwErr) (s : State) :
    Host.Outcome State Fault Refusal :=
  s.runM fun st m => m.whenRunning fun m =>
    match m.tileAt group.toNat opSeq.toNat tile.toNat with
    | some (g, o, s, j) => m.closeAt st g o s j err
    | none => m

/-- STRAGGLER_EXPIRY, 03 R80. -/
def execStragglerExpiry (group : BitVec 12) (opSeq : BitVec 16) (segment : BitVec 8) (s : State) :
    Host.Outcome State Fault Refusal :=
  s.runM fun st m => m.whenRunning fun m => m.straggle st group.toNat opSeq.toNat segment.toNat

/-- REFORM_DONE, 03 R84, R85: GROUP_REFORMED, the group ACTIVE again, waiting contributions taken up. -/
def execReformDone (group : BitVec 12) (s : State) : Host.Outcome State Fault Refusal :=
  s.runM fun st m => m.whenRunning fun m =>
    match m.group? group.toNat with
    | none => m
    | some g =>
      if g.reforms.isEmpty then m
      else
        let m1 := g.reforms.foldl (fun a r => a.groupEvent g 0x04 0 r.1 r.2.1 r.2.2.1 r.2.2.2) m
        let m2 := m1.modGroup g.id fun h =>
          { h with state := if h.state == .reforming then .active else h.state, reforms := [] }
        m2.retryWaiting st g.id

/-- PEER_TAKE_UP, 04 R104: the waiting contributions of a group are tried again. -/
def execPeerTakeUp (group : BitVec 12) (s : State) : Host.Outcome State Fault Refusal :=
  s.runM fun st m => m.whenRunning fun m => m.retryWaiting st group.toNat

end Sys2Proof.Machine
end

