-- ==== Sys2Proof/Machine/Vector.lean ====
section
/-! DEFINITION. Vector.lean: the reference functions of 05 R132 to R140 and the array of R123, over FP32 and INT32 words,
with the NaN candidates of 02 R50. -/
namespace Sys2Proof.Machine

/-! ### Tables of R134 and R135 -/

/-- The largest k below 2^24 that satisfies a downward-closed test, built bit by bit from bit `n − 1`. -/
def bitSearch (ok : Nat → Bool) : Nat → Nat → Nat
  | 0, k => k
  | n + 1, k => bitSearch ok n (if ok (k + 2 ^ n) then k + 2 ^ n else k)

/-- T[j]: the FP32 value nearest to 2^(j/64) (05 R134): k × 2^-23 with k − 1/2 at most the exact value. -/
def expTable (j : Nat) : Word :=
  let k := bitSearch (fun k => decide ((2 * k - 1) ^ 64 ≤ 2 ^ (64 * 24 + j))) 24 0
  BitVec.ofNat 32 (127 * 2 ^ 23 + (k - 2 ^ 23))

/-- U[i]: the FP32 value nearest to 1/sqrt(c), c = (1 + (i mod 64 + 0.5)/64) × (i ≥ 64 ? 2 : 1) (05 R135): k × 2^-24. -/
def rsqrtTable (i : Nat) : Word :=
  let num := (129 + 2 * (i % 64)) * (if 64 ≤ i then 2 else 1)
  let k := bitSearch (fun k => decide ((2 * k - 1) ^ 2 * num ≤ 2 ^ 50 * 128)) 24 0
  BitVec.ofNat 32 (126 * 2 ^ 23 + (k - 2 ^ 23))

/-! ### Elementwise results -/

/-- One element of a vector result: its word and the NaN met there, as its KIND code and raw bits (02 R50, R52). -/
structure VRes where
  bits : Word
  nan : Option (Nat × Word) := none
  deriving DecidableEq, Repr

/-- A result of arithmetic: a NaN it makes is of kind ARITH. -/
def vOf (r : FRes) : VRes := { bits := r.bits, nan := if r.nan then some (2, 0) else none }

/-- A NaN operand writes the canonical NaN and is of kind OPERAND. -/
def vNan (x : Word) : VRes := { bits := fNan, nan := some (4, x) }

/-- One-operand function guarded against a NaN operand. -/
def v1 (f : Word → VRes) (a : Word) : VRes := if fIsNan a then vNan a else f (fFlush a)

/-- Two-operand function guarded against NaN operands, A first. -/
def v2 (f : Word → Word → VRes) (a b : Word) : VRes :=
  if fIsNan a then vNan a else if fIsNan b then vNan b else f (fFlush a) (fFlush b)

/-- Three-operand function guarded against NaN operands. -/
def v3 (f : Word → Word → Word → VRes) (a b c : Word) : VRes :=
  if fIsNan a then vNan a else if fIsNan b then vNan b else if fIsNan c then vNan c
  else f (fFlush a) (fFlush b) (fFlush c)

/-- VMX (05 R130): equal operands keep A; −0 is below +0 (04 R93). -/
def vMaxMin (min : Bool) (a b : Word) : VRes :=
  { bits := if min then (if fKey b < fKey a then b else a) else if fKey a < fKey b then b else a }

/-- Exact scaling by a power of two, then flush and overflow (05 R134). -/
def scalePow2 (x : Word) (q : Int) : Word :=
  if fIsInf x || fIsNan x then x else (fRound (fSign x) (fSig x) (fQ x + q)).bits

/-- `a < b` for FP32 words that are no NaN; −0 equals +0. -/
def fLt (a b : Word) : Bool :=
  let v (x : Word) : Int := if fSign x then -((bits x.toNat 30 0 : Nat) : Int) else ((bits x.toNat 30 0 : Nat) : Int)
  decide (v a < v b)

/-- Nearest integer of a finite FP32 word, ties to even. -/
def rneToInt (x : Word) : Int := if fSign x then -(rneShift (fSig x) (fQ x) : Int) else (rneShift (fSig x) (fQ x) : Int)

/-- Negation of an FP32 word. -/
def fNeg (x : Word) : Word := x ^^^ 0x80000000

/-- vex of 05 R134 for a flushed operand that is no NaN. -/
def vexCore (x : Word) : Word :=
  if fLt 0x43000000 x then fInf false
  else if fLt x 0xC3000000 then 0
  else
    let n := rneToInt (fMul x 0x42B8AA3B).bits
    let j := (n % 64).toNat
    let q := n / 64
    let nf := fNeg (fOfInt n).bits
    let r1 := (fFma nf 0x3C317200 x).bits
    let r := (fFma nf 0x32BFBE8F r1).bits
    let p1 := (fFma r 0x3E2AAAAB 0x3F000000).bits
    let p2 := (fFma p1 r fOne).bits
    let p3 := (fFma p2 r fOne).bits
    scalePow2 (fMul (expTable j) p3).bits q

/-- VEX (05 R134). -/
def vex : Word → VRes := v1 fun x => { bits := vexCore x }

/-- vrs of 05 R135 for a flushed operand that is no NaN. -/
def vrsCore (x : Word) : VRes :=
  if fIsZero x then { bits := fInf (fSign x) }
  else if fSign x then { bits := fNan, nan := some (2, 0) }
  else if fIsInf x then { bits := 0 }
  else
    let e : Int := (fExp x : Int) - 127
    let odd := e % 2
    let m : Word := BitVec.ofNat 32 (127 * 2 ^ 23 + fMan x)
    let a := if odd = 1 then (fMul m 0x40000000).bits else m
    let newton (y : Word) : Word :=
      let h := (fMul (fMul a y).bits y).bits
      let u := (fFma 0xBF000000 h 0x3FC00000).bits
      (fMul y u).bits
    let y0 := rsqrtTable (odd.toNat * 64 + bits x.toNat 22 17)
    { bits := scalePow2 (newton (newton y0)) (-((e - odd) / 2)) }

/-- VRS (05 R135). -/
def vrs : Word → VRes := v1 vrsCore

/-! ### vsum (05 R133) -/

/-- Add two positions of the tree; an absent one passes the other through. -/
def sumPair (a b : Option VRes) : Option VRes :=
  match a, b with
  | some a, some b =>
    let r := fAdd a.bits b.bits
    some { bits := r.bits, nan := match a.nan, b.nan with
      | some x, _ => some x
      | none, some y => some y
      | none, none => if r.nan then some (2, 0) else none }
  | some a, none => some a
  | none, b => b

/-- One level of the tree: neighbours joined. -/
def sumLevel : List (Option VRes) → List (Option VRes)
  | a :: b :: t => sumPair a b :: sumLevel t
  | l => l

/-- The tree over one register: ten levels. -/
def sumTree : Nat → List (Option VRes) → Option VRes
  | 0, l => l.headD none
  | n + 1, l => sumTree n (sumLevel l)

/-- vsum over the elements in flat order: a fixed tree in each register of 1,024, registers joined one by one. -/
def vsum (xs : List VRes) : VRes :=
  let regs := piecesOf 1024 (xs.length / 1024 + 1) xs
  let one (r : List VRes) : Option VRes := sumTree 10 ((r.map some) ++ List.replicate (1024 - r.length) none)
  ((regs.map one).foldl sumPair none).getD { bits := 0 }

/-- Operand elements of a sum, flushed, a NaN of kind OPERAND. -/
def asElems (xs : List Word) : List VRes := xs.map fun x => v1 (fun y => { bits := y }) x

/-! ### NRM (05 R136) -/

/-- Partial sum of squares. -/
def nrmSs (xs : List Word) : VRes := vsum (xs.map fun x => v1 (fun y => vOf (fMul y y)) x)

/-- Apply the norm: `y = (x × s) × g`. -/
def nrmApply (xs gs : List Word) (ss invH eps : Word) : List VRes :=
  let t := v3 (fun a b c => vOf (fFma a b c)) ss invH eps
  let s := if t.nan.isSome then t else vrs t.bits
  List.zipWith (fun x g =>
    if s.nan.isSome then { bits := fNan, nan := s.nan }
    else v2 (fun x g =>
      let p := fMul x s.bits
      let r := fMul p.bits g
      { bits := r.bits, nan := if p.nan || r.nan then some (2, 0) else none }) x g) xs gs

/-! ### TOPK (05 R137) -/

/-- Logit a at expert i ranks above b at j. -/
def ranksAbove (a : Word) (i : Nat) (b : Word) (j : Nat) : Bool :=
  if fIsNan a != fIsNan b then !fIsNan a
  else if !fIsNan a && (fLt a b || fLt b a) then fLt b a
  else decide (i < j)

/-- The best expert not yet taken. -/
def bestOf (taken : List Nat) : List (Word × Nat) → Option (Word × Nat)
  | [] => none
  | x :: t =>
    match bestOf taken t with
    | none => if taken.contains x.2 then none else some x
    | some y => if !taken.contains x.2 && ranksAbove x.1 x.2 y.1 y.2 then some x else some y

/-- Choose k experts. -/
def chooseK (l : List (Word × Nat)) : Nat → List Nat → List Nat
  | 0, taken => taken
  | n + 1, taken =>
    match bestOf taken l with
    | none => taken
    | some x => chooseK l n (x.2 :: taken)

/-- recip of 05 R137. -/
def recip (s : Word) : Word := let r := (vrs s).bits
  (fMul r r).bits

/-- Largest of a list starting from its first. -/
def fMaxList (l : List Word) : Word := (l.drop 1).foldl (fun m x => if fLt m x then x else m) (l.headD 0)

/-- The selection and weights of a TOPK: indices ascending, weights, and the first NaN: its expert,
KIND and raw bits. -/
structure TopkOut where
  sel : List Nat
  w : List Word
  nan : Option (Nat × Nat × Word)
  deriving DecidableEq, Repr

/-- The first NaN weight that arithmetic made, by the expert it belongs to. -/
def madeNan (es : List (Nat × Word)) : Option (Nat × Nat × Word) :=
  (es.find? fun x => fIsNan x.2).map fun x => (x.1, 2, 0)

/-- The plain sum of words in order, from the first. -/
def seqSum (l : List Word) : Word := (l.drop 1).foldl (fun s x => (fAdd s x).bits) (l.headD 0)

/-- topk of 05 R137. -/
def topk (logits : List Word) (k gate : Nat) (renorm : Bool) : TopkOut :=
  let l := logits.map fFlush
  let chosen := chooseK l.zipIdx k []
  let sel := (List.range l.length).filter chosen.contains
  let at_ (i : Nat) : Word := l.getD i 0
  match l.zipIdx.find? fun x => fIsNan x.1 with
  | some (x, i) => ⟨sel, sel.map fun _ => fNan, some (i, 4, x)⟩
  | none =>
    if gate = 0 then ⟨sel, sel.map at_, none⟩
    else if gate = 1 then
      let mx := fMaxList l
      let es := l.map fun x => (vex (fAdd x (fNeg mx)).bits).bits
      let inv := recip (vsum (es.map fun e => { bits := e })).bits
      let w := sel.map fun i => (fMul (es.getD i 0) inv).bits
      let inv2 := recip (seqSum w)
      let w2 := if renorm then w.map fun x => (fMul x inv2).bits else w
      ⟨sel, w2, madeNan ((es.zipIdx.map fun x => (x.2, x.1)) ++ sel.zip w2)⟩
    else
      let mx := fMaxList (sel.map at_)
      let es := sel.map fun i => (vex (fAdd (at_ i) (fNeg mx)).bits).bits
      let inv := recip (seqSum es)
      let w := es.map fun e => (fMul e inv).bits
      ⟨sel, w, madeNan (sel.zip w)⟩

/-- Register D of a TOPK: 16 indices, 16 weights; the elements past them keep what they held. -/
def topkWords (t : TopkOut) : List Word :=
  (List.range 16).map (fun i => if i < t.sel.length then BitVec.ofNat 32 (t.sel.getD i 0) else 0xFFFFFFFF) ++
    (List.range 16).map fun i => t.w.getD i 0

/-! ### CMB (05 R140) -/

/-- One element: shared output, weighted expert outputs in order, then the residual. -/
def cmbElem (a d : Word) (wb : List (Word × Word)) : VRes :=
  let s := wb.foldl (fun (acc : VRes) p =>
    let r := v3 (fun x y z => vOf (fFma x y z)) p.1 p.2 acc.bits
    { bits := r.bits, nan := acc.nan.orElse fun _ => r.nan }) (v1 (fun x => { bits := x }) a)
  let r := v2 (fun x y => vOf (fAdd x y)) d s.bits
  { bits := r.bits, nan := s.nan.orElse fun _ => r.nan }

/-! ### The array (05 R122, R123) -/

/-- An array operand element: an exact dyadic `m × 2^q` with a sign, an infinity, or a NaN. -/
structure ArrEl where
  neg : Bool := false
  m : Nat := 0
  q : Int := 0
  inf : Bool := false
  nan : Option (Nat × Word) := none
  deriving DecidableEq, Repr

/-- Layout of a scalar or MX element type of a float format code. -/
def floatOf (f : Nat) : FloatFmt :=
  match f with
  | 1 => bf16 | 2 => fp16 | 3 => e4m3 | 4 => e5m2 | 5 => e4m3 | 6 => e5m2 | 7 => e3m2 | 8 => e2m3 | _ => e2m1

/-- Width in bits of an element of a format MMA takes. -/
def elemBits (f : Nat) : Nat :=
  if f = 1 || f = 2 then 16 else if f = 7 || f = 8 then 6 else if f = 9 || f = 14 then 4 else 8

/-- A microscaled format (02 R37). -/
def isMx (f : Nat) : Bool := decide (5 ≤ f) && decide (f ≤ 10)

/-- An element of the array with its block's scale byte (127 for a format without scales). Scalar subnormals are flushed
(02 R32); a NaN code is an OPERAND NaN, scale 0xFF a SCALE NaN. -/
def arrEl (f sc c : Nat) : ArrEl :=
  if f = 10 then
    let k := sext 8 c
    if sc = 255 then { nan := some (1, 0xFF) } else { neg := decide (k < 0), m := k.natAbs, q := -6 }
  else
    let ff := floatOf f
    let s := bitOf c (ff.eb + ff.mb)
    if isMx f && sc = 255 then { nan := some (1, 0xFF) }
    else if ff.isNan c then { nan := some (4, BitVec.ofNat 32 c) }
    else if ff.isInf c then { neg := s, inf := true }
    else if !isMx f && c / 2 ^ ff.mb % 2 ^ ff.eb = 0 then { neg := s }
    else { neg := s, m := (ff.mag c).1, q := (ff.mag c).2 }

/-- The product of two elements. -/
def arrMul (a b : ArrEl) : ArrEl :=
  let s := a.neg != b.neg
  match a.nan, b.nan with
  | some n, _ => { nan := some n }
  | none, some n => { nan := some n }
  | none, none =>
    if a.inf || b.inf then
      if (!a.inf && a.m = 0) || (!b.inf && b.m = 0) then { nan := some (2, 0) } else { neg := s, inf := true }
    else { neg := s, m := a.m * b.m, q := a.q + b.q }

/-- The exact sum of a block's products times 2^e, rounded once (05 R123). -/
def blockSumF (ps : List ArrEl) (e : Int) : VRes :=
  match ps.find? fun p => p.nan.isSome with
  | some p => { bits := fNan, nan := p.nan }
  | none =>
    match ps.find? fun p => p.inf with
    | some p => if ps.any fun x => x.inf && x.neg != p.neg then { bits := fNan, nan := some (2, 0) } else { bits := fInf p.neg }
    | none =>
      let s := ps.foldl (fun (a : Int × Int) p => dyAdd a.1 a.2 (if p.neg then -(p.m : Int) else p.m) p.q) (0, 0)
      vOf (fRoundI (ps.all fun p => p.neg && p.m == 0) s.1 (s.2 + e))

/-- A column's accumulation of its block sums (05 R123): the first starts it unless the destination does. -/
def accumulate (start : Option Word) (bs : List VRes) : VRes :=
  let r := bs.foldl (fun (a : Option VRes) b =>
    match a with
    | none => some b
    | some a =>
      let r := fAdd a.bits b.bits
      some { bits := r.bits, nan := (a.nan.orElse fun _ => b.nan).orElse fun _ => if r.nan then some (2, 0) else none })
    (start.map fun x => v1 (fun y => { bits := y }) x)
  r.getD { bits := 0 }

/-- Panel height Ka (05 R122). -/
def panelRows (fw fa : Nat) : Nat :=
  let w := max (fmtMmaWidth fw) (fmtMmaWidth fa)
  if w = 16 then 64 else if w = 8 then 128 else 256

/-- Bytes of a panel of `w` columns (05 R131). -/
def panelBytes (f ka w : Nat) : Nat := (if isMx f then ka / 32 * w else 0) + ka * w * elemBits f / 8

/-- Bytes of the whole weight image. -/
def weightBytes (f ka k n : Nat) : Nat :=
  k / ka * (n / 64 * panelBytes f ka 64 + (if n % 64 = 0 then 0 else panelBytes f ka (n % 64)))

/-- A column of the weight image as (scale, code) of each row, from the image read as a number (05 R131). -/
def weightColumn (f ka k n img c : Nat) : List (Nat × Nat) :=
  let grp := c / 64
  let w := min 64 (n - grp * 64)
  let base := grp * (k / ka) * panelBytes f ka 64
  let pb := panelBytes f ka w
  let sb := if isMx f then ka / 32 * w else 0
  (List.range k).map fun row =>
    let p := img / 2 ^ (8 * (base + row / ka * pb))
    let r := row % ka
    (if isMx f then p / 2 ^ (8 * (r / 32 * w + c % 64)) % 256 else 127,
     p / 2 ^ (8 * sb + (c % 64 * ka + r) * elemBits f) % 2 ^ elemBits f)

/-- A token's activations as (scale, code), from its tiles read as numbers. -/
def actRow (f : Nat) (tiles : List Nat) : List (Nat × Nat) :=
  tiles.flatMap fun x =>
    if isMx f then
      let sc := unpackCodes 8 32 x
      (unpackCodes (elemBits f) 1024 (x / 2 ^ 256)).zipIdx.map fun p => (sc.getD (p.2 / 32) 0, p.1)
    else (unpackCodes (elemBits f) 1024 x).map fun c => (127, c)

/-- One output element of float operands. -/
def mmaFloat (fw fa : Nat) (start : Option Word) (col row : List (Nat × Nat)) : VRes :=
  let blocks := piecesOf 32 (col.length / 32) (col.zip row)
  accumulate start (blocks.map fun b =>
    let e : Int := match b with
      | (w, a) :: _ => (w.1 : Int) + a.1 - 254
      | [] => 0
    blockSumF (b.map fun p => arrMul (arrEl fw p.1.1 p.1.2) (arrEl fa p.2.1 p.2.2)) e)

/-- One output element of integer operands (05 R123, 02 R49). -/
def mmaInt (fw fa : Nat) (wrap : Bool) (start : Option Word) (col row : List (Nat × Nat)) : VRes :=
  let blocks := piecesOf 32 (col.length / 32) (col.zip row)
  let sums := blocks.map fun b => b.foldl (fun (s : Int) p => s + sext (intWidth fw) p.1.2 * sext (intWidth fa) p.2.2) 0
  { bits := (sums.foldl (fun (a : Option Word) s =>
      let t : Word := BitVec.ofInt 32 s
      match a with
      | none => some t
      | some a => some (intAdd wrap a t).1) start).getD 0 }

end Sys2Proof.Machine
end

