-- ==== Sys2Proof/Machine/Engines.lean ====
section
/-! DEFINITION. Engines.lean: the sequencer of 05: the checks common to all instructions, scratch and registers of a
core, and the control instructions END, WAIT, BAR, LOOP and JMP. -/
namespace Sys2Proof.Machine

/-! ### The instruction word (05 R129) -/

/-- The 64-bit word of an instruction. -/
def engWord (opc mode : Nat) (i : EngOp) : Nat :=
  opc * 2 ^ 58 + b2n i.e * 2 ^ 57 + mode * 2 ^ 53 + i.fmt.toNat * 2 ^ 48 + i.d.toNat * 2 ^ 43 + i.a.toNat * 2 ^ 38 +
    i.b.toNat * 2 ^ 33 + i.c.toNat * 2 ^ 28 + i.cnt.toNat * 2 ^ 24 + i.imm.toNat

/-- Which fields an instruction uses (05 R130); bits of IMM outside `imm` are reserved. -/
structure Uses where
  fmt : Bool := false
  d : Bool := false
  a : Bool := false
  b : Bool := false
  c : Bool := false
  cnt : Bool := false
  imm : Nat := 0
  deriving DecidableEq, Repr

/-- Every field that the instruction does not use is zero (05 R129, R130). -/
def Uses.ok (u : Uses) (i : EngOp) : Bool :=
  (u.fmt || i.fmt == 0) && (u.d || i.d == 0) && (u.a || i.a == 0) && (u.b || i.b == 0) && (u.c || i.c == 0) &&
    (u.cnt || i.cnt == 0) && (i.imm.toNat &&& (u.imm ^^^ 0xFFFFFF)) == 0

/-- The instructions of 05 R130: opcode, MODE, and the fields that this variant uses. -/
def engTable : List (Nat × Nat × Uses) :=
  [(0x00, 0, ({} : Uses)), (0x01, 0, { d := true, a := true }), (0x01, 1, { imm := 0xFF }), (0x01, 2, { a := true }),
    (0x02, 0, ({} : Uses)), (0x02, 1, { imm := 0xFFFFF }), (0x03, 0, { a := true, imm := 0x7FFF }), (0x04, 0, { imm := 0x7FFF }),
    (0x04, 1, { a := true, imm := 0x7FFF }), (0x04, 2, { a := true, imm := 0x7FFF })] ++
  [(0x08, 0, { d := true, a := true, cnt := true, imm := 0x800000 }),
    (0x08, 1, { d := true, a := true, cnt := true, imm := 0x800003 }),
    (0x08, 2, { d := true, a := true, cnt := true, imm := 0xC0FFFF }),
    (0x08, 3, { d := true, a := true, cnt := true, imm := 0x800000 }),
    (0x08, 4, { d := true, a := true, cnt := true, imm := 0xC0FFFF }),
    (0x08, 5, { a := true, b := true, c := true, imm := 0x8000FF }),
    (0x09, 0, { d := true, a := true, cnt := true, imm := 0x800000 }),
    (0x09, 1, { d := true, a := true, cnt := true, imm := 0x800000 }),
    (0x09, 2, { a := true, b := true, c := true, imm := 0x8000FF }),
    (0x09, 3, { d := true, a := true, cnt := true, imm := 0x800003 })] ++
  [(0x10, 0, { fmt := true, d := true, a := true, b := true, c := true, cnt := true, imm := 0xFFF81F }),
    (0x18, 0, { d := true, a := true, b := true, cnt := true }), (0x18, 1, { d := true, a := true, b := true, cnt := true }),
    (0x19, 0, { d := true, a := true, b := true, cnt := true }), (0x19, 1, { d := true, a := true, b := true, cnt := true }),
    (0x1A, 0, { d := true, a := true, b := true, c := true, cnt := true }),
    (0x1A, 1, { d := true, a := true, b := true, c := true, cnt := true }), (0x1B, 0, { d := true, a := true, cnt := true }),
    (0x1C, 0, { d := true, a := true, cnt := true }), (0x1D, 0, { d := true, a := true, b := true, cnt := true }),
    (0x1D, 1, { d := true, a := true, b := true, cnt := true }), (0x1D, 2, { d := true, a := true, b := true, cnt := true }),
    (0x1D, 3, { d := true, a := true, b := true, cnt := true })] ++
  [(0x1E, 0, { d := true, a := true, cnt := true, imm := 0x7FFF }), (0x1F, 0, { d := true, a := true, cnt := true }),
    (0x1F, 1, { d := true, a := true, b := true, c := true, cnt := true }),
    (0x20, 0, { d := true, a := true, cnt := true, imm := 0x3FFFF }),
    (0x21, 0, { fmt := true, d := true, a := true, b := true, c := true, cnt := true, imm := 0x1FFF }),
    (0x22, 0, { fmt := true, d := true, a := true, cnt := true }), (0x22, 1, { d := true, a := true, cnt := true }),
    (0x23, 0, { fmt := true, a := true, c := true, cnt := true, imm := 0x1F }),
    (0x23, 1, { fmt := true, a := true, c := true, cnt := true, imm := 0x1F }),
    (0x23, 2, { fmt := true, a := true, c := true, cnt := true, imm := 0x1F }),
    (0x24, 0, { d := true, a := true, b := true, c := true, cnt := true }), (0x28, 0, { d := true, a := true, b := true })]

/-- An instruction is in the table and leaves its reserved fields zero; GATE 3 of TOPK is a reserved value (05 R130,
R137). -/
def engLegal (opc mode : Nat) (i : EngOp) : Bool :=
  match engTable.find? fun r => r.1 == opc && r.2.1 == mode with
  | some r => r.2.2.ok i && !(opc == 0x20 && bits i.imm.toNat 16 15 == 3)
  | none => false

/-- The opcode of an instruction word. -/
def wordOpc (w : Nat) : Nat := bits w 63 58

/-- The MODE of an instruction word. -/
def wordMode (w : Nat) : Nat := bits w 56 53

/-- The other fields of an instruction word. -/
def wordFields (w : Nat) : EngOp :=
  { e := bitOf w 57, fmt := BitVec.ofNat 5 (bits w 52 48), d := BitVec.ofNat 5 (bits w 47 43), a := BitVec.ofNat 5 (bits w 42 38),
    b := BitVec.ofNat 5 (bits w 37 33), c := BitVec.ofNat 5 (bits w 32 28), cnt := BitVec.ofNat 4 (bits w 27 24),
    imm := BitVec.ofNat 24 (bits w 23 0) }

/-- A word of the program store spells an instruction of the table (05 R129, R130). -/
def wordLegal (w : Nat) : Bool := engLegal (wordOpc w) (wordMode w) (wordFields w)

/-- The word that a core fetches at a pc (05 R127). -/
def Store.fetch (st : Store) (k pc : Nat) : Nat := (sget zeroCell st.prog (k * 32768 + pc)).toNat

/-! ### Registers and scratch of a core (05 R124, R125) -/

/-- X register; X0 reads as zero. -/
def Store.x (st : Store) (k r : Nat) : Word := if r = 0 then 0 else sget zeroCell st.xregs (k * 32 + r)

/-- Write an X register; writes to X0 are discarded. -/
def Store.setX (st : Store) (k r : Nat) (v : Word) : Store :=
  if r = 0 then st else { st with xregs := sput zeroCell st.xregs (k * 32 + r) v }

/-- Elements of a vector register group. -/
def Store.v (st : Store) (k r n : Nat) : List Word := sgets zeroCell st.vregs (k * 32768 + r * 1024) n

/-- Write elements of vector registers from flat index `i` of register `r`. -/
def Store.setV (st : Store) (k r i : Nat) (ws : List Word) : Store :=
  { st with vregs := sputs zeroCell st.vregs (k * 32768 + r * 1024 + i) ws }

/-- Bytes of a core's scratch. -/
def Store.scr (st : Store) (k a n : Nat) : List Byte := sgets zeroCell st.scratch (k * 2 ^ 23 + a) n

/-- Write bytes of a core's scratch. -/
def Store.setScr (st : Store) (k a : Nat) (bs : List Byte) : Store :=
  { st with scratch := sputs zeroCell st.scratch (k * 2 ^ 23 + a) bs }

/-- STORE of the scratch word at byte address `a`: 4 in a long-lived block, else 3 (17 R447, R448). -/
def Mach.scrStore (m : Mach) (k a : Nat) : Nat :=
  if m.flag (Reg.ECC_SCR_LONG_C k (a / 65536 / 32 % 4)) (a / 65536 % 32) then 4 else 3

/-- Reading scratch meets an uncorrectable word: a line poisoned by a spare copy (05 R147), or injected bits. -/
def Mach.scrBad (m : Mach) (k a n : Nat) : Bool × Mach :=
  if (m.core k).poisoned.any fun l => decide (a / 64 ≤ l) && decide (l * 64 < a + n) then (true, m)
  else
    let s := m.scrStore k a
    match m.injRead s k (a / 8) ((a + n + 7) / 8) with
    | (.ue _ _ addr, _) => (true, m.eccUeNote s k 0 addr.toNat)
    | (.ce _ _ addr _, m1) => (false, m1.eccCe s k 0 addr.toNat false)
    | _ => (false, m)

/-- Scratch has been written: whole lines written are no longer poisoned, and armed injections take effect. -/
def Mach.scrWrote (m : Mach) (k a n : Nat) : Mach :=
  let c := m.core k
  let m1 := if c.poisoned.isEmpty then m else
    m.setCore { c with poisoned := c.poisoned.filter fun l => !(decide (a ≤ l * 64) && decide (l * 64 + 64 ≤ a + n)) }
  m1.injWrite (m1.scrStore k a) k (a / 8) ((a + n + 7) / 8)

/-- A registered weight range of core `k` overlaps these scratch bytes (08 R228). -/
def Mach.scrGuarded (m : Mach) (k lo n : Nat) : Bool :=
  m.dgt.records.any fun r => r.core == k && r.scr.any fun q => decide (lo < q.2) && decide (q.1 < lo + n)

/-- A registered weight range overlaps these HBM bytes (08 R228). -/
def Mach.hbmGuarded (m : Mach) (lo n : Nat) : Bool :=
  m.dgt.records.any fun r => r.hbm.any fun q => decide (lo < q.2) && decide (q.1 < lo + n)

/-! ### Running one instruction -/

/-- What an instruction sees: its core, program start and fields. -/
structure Eng where
  k : Nat
  s : Start
  c : Core
  i : EngOp

/-- How an instruction ends: it advances, goes to a pc, keeps its place while it waits, or traps. -/
inductive EngRes where
  | done (m : Mach) (st : Store)
  | jump (m : Mach) (st : Store) (pc : Nat)
  | stay (m : Mach) (st : Store)
  | trap (m : Mach) (st : Store) (kind : Nat) (status : Status) (detail : Nat)

/-- BAD_FORMAT (05 R141). -/
def badFmt (m : Mach) (st : Store) : EngRes := .trap m st 2 .badFormat 0
/-- BAD_POINTER with the offending address (05 R145). -/
def badPtr (m : Mach) (st : Store) (a : Nat) : EngRes := .trap m st 3 .badPointer a
/-- OPERAND_UE. -/
def operandUe (m : Mach) (st : Store) : EngRes := .trap m st 5 .uncorrectable 0

/-- Scratch bytes `a` to `a + n − 1` lie in the program's window at an alignment (05 R141). -/
def Eng.scrOk (e : Eng) (a n align : Nat) : Bool :=
  a % align == 0 && decide (e.s.scrBase * 64 ≤ a) && decide (a + n ≤ e.s.scrLimit * 64) && decide (a + n ≤ 2 ^ 23)

/-- A group of `n` registers from `r` does not run past the last (05 R125). -/
def groupOk (r n : Nat) : Bool := decide (r + n ≤ 32)

/-- Registers of a group: n = CNT + 1. -/
def Eng.n (e : Eng) : Nat := e.i.cnt.toNat + 1

/-- Apply the result of a running instruction to its core. -/
def Mach.engEnd (e : Eng) (word : Nat) : EngRes → Mach × Store
  | .done m st => (m.modCore e.k fun c => { c with pc := (c.pc + 1) % 32768 }, st)
  | .jump m st pc => (m.modCore e.k fun c => { c with pc := pc }, st)
  | .stay m st => (m, st)
  | .trap m st kind status detail => (m.coreTrap st e.k kind status word detail, st)

/-- Run one instruction at the head of a core's program: it acts when the core has a running program that does not wait
and is not fenced. First the fetch (17 R454, store 5): a word of the store that spells no instruction traps, whatever row
came (log 11); then the row's own reserved fields and MODE (05 R130), then the addresses and
formats that `body` checks, then errors met while it runs: a residue mismatch of unit `unit` of 18 R476, or an
uncorrectable operand. -/
def Mach.engRun (m : Mach) (st : Store) (core : BitVec 5) (opc mode : Nat) (i : EngOp)
    (err : HwErr) (unit : Nat) (body : Eng → Mach → Store → EngRes) : Mach × Store :=
  let k := core.toNat
  let c := m.core k
  match c.running with
  | none => (m, st)
  | some s =>
    if c.wait.isSome then (m, st)
    else
      let e : Eng := ⟨k, s, c, i⟩
      let word := engWord opc mode i
      let fetch := m.injRead 5 k c.pc (c.pc + 1)
      let m0 := match fetch.1 with
        | .ce _ _ addr _ => fetch.2.eccCe 5 k 0 addr.toNat false
        | _ => m
      if c.badFetch.contains c.pc then (m.coreTrap st k 0 .uncorrectable 0 0, st)
      else
        match orErr err fetch.1 with
        | .ue store pos addr =>
          if store = 5 then
            let m1 := (m.eccUeNote 5 k pos.toNat addr.toNat).modCore k fun c => { c with badFetch := c.pc :: c.badFetch }
            (m1.coreTrap st k 0 .uncorrectable 0 0, st)
          else if !wordLegal (st.fetch k c.pc) then (m.coreTrap st k 1 .badFormat (st.fetch k c.pc) 0, st)
          else if !engLegal opc mode i then (m.coreTrap st k 1 .badFormat word 0, st)
          else
            match body e m st with
            | .trap m1 st1 kind status detail => Mach.engEnd e word (.trap m1 st1 kind status detail)
            | _ => Mach.engEnd e word (operandUe (m.eccUeNote store.toNat k pos.toNat addr.toNat) st)
        | hw =>
          if !wordLegal (st.fetch k c.pc) then (m0.coreTrap st k 1 .badFormat (st.fetch k c.pc) 0, st)
          else if !engLegal opc mode i then (m0.coreTrap st k 1 .badFormat word 0, st)
          else
            match body e m0 st with
            | .trap m1 st1 kind status detail => Mach.engEnd e word (.trap m1 st1 kind status detail)
            | r =>
              let inj := if unit = 0 then (false, m0) else m0.takeResidue k unit
              if inj.1 || (hw == .residue && unit != 0) then (inj.2.coreResidue st k word true, st)
              else
                match Mach.engEnd e word r, hw with
                | (m1, st1), .ce store pos addr hard => (m1.eccCe store.toNat k pos.toNat addr.toNat hard, st1)
                | r1, _ => r1

/-- The meaning of an engine command. -/
def State.engine (s : State) (core : BitVec 5) (opc mode : Nat) (i : EngOp) (err : HwErr)
    (unit : Nat) (body : Eng → Mach → Store → EngRes) : Host.Outcome State Fault Refusal :=
  s.runMS fun st m => if m.running then m.engRun st core opc mode i err unit body else (m, st)

/-! ### END, LOOP, JMP, BAR (05 R130) -/

/-- Contributions that wait in packet cells and name a session are tried again, group by group (06 R159). -/
def Mach.retrySession (m : Mach) (st : Store) (n : Nat) : Mach :=
  ((m.groups.filter fun g => g.waiting.any fun w => w.2.opSeq.toNat / 2 ^ 14 == n).map (·.id)).foldl (fun a id => a.retryWaiting st id) m

/-- END, 05 R143: the program ends with its status; attention operations that waited are tried again (06 R159). -/
def execEndProgram (core : BitVec 5) (i : EngOp) (err : HwErr) (s : State) : Host.Outcome State Fault Refusal :=
  s.engine core 0x00 0 i err 0 fun e m st =>
    let m1 := m.endProgram st e.k
    .stay (match e.s.session with
      | some n => m1.retrySession st n
      | none => m1) st

/-- LOOP, 05 R130. -/
def execLoopDec (core : BitVec 5) (i : EngOp) (err : HwErr) (s : State) : Host.Outcome State Fault Refusal :=
  s.engine core 0x03 0 i err 0 fun e m st =>
    let st1 := st.setX e.k i.a.toNat (st.x e.k i.a.toNat - 1)
    if st.x e.k i.a.toNat - 1 = 0 || i.a = 0 then .done m st1 else .jump m st1 (bits i.imm.toNat 14 0)

/-- JMP, 05 R130: mode 0 always, 1 if X[A] is zero, 2 if it is not. -/
def execJmp (core : BitVec 5) (mode : BitVec 4) (i : EngOp) (err : HwErr) (s : State) :
    Host.Outcome State Fault Refusal :=
  s.engine core 0x04 mode.toNat i err 0 fun e m st =>
    let z := st.x e.k i.a.toNat == 0
    if mode = 0 || (mode = 1 && z) || (mode = 2 && !z) then .jump m st (bits i.imm.toNat 14 0) else .done m st

/-- BAR mode 0, 05 R130: both engines have finished all issued work, since each instruction here is one step (log 17). -/
def execBarCore (core : BitVec 5) (i : EngOp) (err : HwErr) (s : State) : Host.Outcome State Fault Refusal :=
  s.engine core 0x02 0 i err 0 fun _ m st => .done m st

/-- BAR mode 1, 05 R130: the core waits at barrier IMM[19:16] for the cores of mask IMM[15:0]. -/
def execBarDie (core : BitVec 5) (i : EngOp) (err : HwErr) (s : State) : Host.Outcome State Fault Refusal :=
  s.engine core 0x02 1 i err 0 fun e m st =>
    .stay (m.modCore e.k fun c => { c with wait := some (.barDie (bits i.imm.toNat 19 16) (bits i.imm.toNat 15 0)) }) st

/-- The cores of a mask have all arrived at the barrier that core `w` waits at, or stopped by a trap, now or while the
program of `w` ran (05 R142). -/
def Mach.barMet (m : Mach) (w : Core) (index mask : Nat) : Bool :=
  (setBitsOf 16 mask).all fun j =>
    let c := m.core (w.core / 16 * 16 + j)
    w.gone.contains c.core || (c.trapped && c.running.isNone) || (match c.wait with
      | some (.barDie i _) => i == index
      | _ => false)

/-- BAR_RELEASE, 05 R142: every core of the die that waits at a barrier whose cores have all arrived goes on. -/
def execBarRelease (die : BitVec 1) (index : BitVec 4) (s : State) : Host.Outcome State Fault Refusal :=
  s.runM fun _ m => m.whenRunning fun m =>
    let go := m.cores.filter fun c => c.core / 16 == die.toNat && (match c.wait with
      | some (.barDie i mask) => i == index.toNat && m.barMet c i mask
      | _ => false)
    go.foldl (fun a c => a.setCore { c with wait := none, pc := (c.pc + 1) % 32768 }) m

/-! ### WAIT (05 R130, R143) -/

/-- The status of an operation that has ended: its kept slots, or what is remembered of it. -/
def Mach.opEnded (m : Mach) (gid seq : Nat) : Option Status :=
  match (m.group? gid).bind fun g => g.ops.find? fun o => o.seq == seq with
  | some o => if o.complete then some o.status else none
  | none => if m.remembers gid seq then (m.ended.find? fun e => e.group == gid && e.seq == seq).map (·.status) else none

/-- A WAIT mode 0 returns a status to the program (05 R143). -/
def Mach.waitOpDone (m : Mach) (st : Store) (k d : Nat) (status : Status) : EngRes :=
  .done (m.modCore k fun c => { c with wait := none, status := worst c.status status })
    (st.setX k d (BitVec.ofNat 32 (statusCode status)))

/-- WAIT mode 0, 05 R130. -/
def execWaitOp (core : BitVec 5) (i : EngOp) (err : HwErr) (s : State) : Host.Outcome State Fault Refusal :=
  s.engine core 0x01 0 i err 0 fun e m st =>
    let x := (st.x e.k i.a.toNat).toNat
    match m.opEnded (bits x 11 0) (bits x 27 12) with
    | some status => m.waitOpDone st e.k i.d.toNat status
    | none => .stay (m.modCore e.k fun c => { c with wait := some (.op (bits x 11 0) (bits x 27 12) i.d.toNat) }) st

/-- A prefetch is the one that a core's running program waits for: its session's, for its own RSEQ (06 R164). -/
def Mach.pfMine (m : Mach) (c : Core) (p : PfFor) : Bool :=
  match (c.running.bind (·.session)).bind m.session? with
  | some s => p.session == s.n && p.rseq == s.rseq
  | none => false

/-- A transfer in progress that a WAIT on `tag` of a core's program waits for: one of its own, or its own prefetch. -/
def Mach.dmaMine (m : Mach) (c : Core) (tag : Nat) (d : Dma) : Bool :=
  d.tag == tag && !d.gone && d.prefetch.all (m.pfMine c)

/-- A transfer that has ended and that a WAIT on `tag` of a core's program reports. -/
def Mach.endMine (m : Mach) (c : Core) (tag : Nat) (e : DmaEnd) : Bool := e.tag == tag && e.prefetch.all (m.pfMine c)

/-- The transfers of a tag that have ended are reported at their WAIT: the first that failed, by BAD_POINTER of 06 R165 or
DMA_UE of 05 R141. -/
def Mach.dmaReport (m : Mach) (st : Store) (c : Core) (tag : Nat) : EngRes :=
  let m1 := m.modCore c.core fun x => { x with wait := none, dmaEnds := x.dmaEnds.filter fun e => !m.endMine c tag e }
  match c.dmaEnds.find? fun e => m.endMine c tag e && e.status != .ok with
  | none => .done m1 st
  | some e => if e.status = .badPointer then badPtr m1 st e.addr else .trap m1 st 6 .uncorrectable tag

/-- WAIT mode 1, 05 R130; a prefetch not yet complete counts in LAY_PF_LATE_CNT (06 R165). -/
def execWaitDma (core : BitVec 5) (i : EngOp) (err : HwErr) (s : State) : Host.Outcome State Fault Refusal :=
  s.engine core 0x01 1 i err 0 fun e m st =>
    let tag := bits i.imm.toNat 7 0
    if e.c.dmas.any (m.dmaMine e.c tag) then
      let m1 := if e.c.dmas.any fun d => m.dmaMine e.c tag d && d.prefetch.isSome then m.count Reg.LAY_PF_LATE_CNT else m
      .stay (m1.modCore e.k fun c => { c with wait := some (.dma tag (engWord 0x01 1 i)) }) st
    else m.dmaReport st e.c tag

/-- Fabric time has reached a 32-bit target (09 R247). -/
def Mach.reached (m : Mach) (target : Nat) : Bool := decide ((m.now32 + 2 ^ 32 - target) % 2 ^ 32 < 2 ^ 31)

/-- WAIT mode 2, 09 R247. -/
def execWaitTime (core : BitVec 5) (i : EngOp) (err : HwErr) (s : State) : Host.Outcome State Fault Refusal :=
  s.engine core 0x01 2 i err 0 fun e m st =>
    let t := (st.x e.k i.a.toNat).toNat
    if m.reached t then .done m st else .stay (m.modCore e.k fun c => { c with wait := some (.time t) }) st

/-- WAIT_RELEASE, 05 R130: a waiting WAIT goes on when its condition holds. -/
def execWaitRelease (core : BitVec 5) (s : State) : Host.Outcome State Fault Refusal :=
  s.runMS fun st m =>
    let k := core.toNat
    let c := m.core k
    match c.running, c.wait with
    | some start, some w =>
      if !m.running then (m, st)
      else
        let e : Eng := ⟨k, start, c, {}⟩
        match w with
        | .op g q d =>
          match m.opEnded g q with
          | some status => Mach.engEnd e 0 (m.waitOpDone st k d status)
          | none => (m, st)
        | .dma tag word =>
          if c.dmas.any (m.dmaMine c tag) then (m, st) else Mach.engEnd e word (m.dmaReport st c tag)
        | .time t => if m.reached t then Mach.engEnd e 0 (.done (m.modCore k fun c => { c with wait := none }) st) else (m, st)
        | .barDie _ _ => (m, st)
    | _, _ => (m, st)

end Sys2Proof.Machine
end

