-- ==== Sys2Proof/Machine/EngMem.lean ====
section
/-! DEFINITION. EngMem.lean: TLD, TST and DGS of 05 R130 and the asynchronous HBM transfers. TST mirrors TLD: the same
fields name the same things, with the direction reversed (log 25). -/
namespace Sys2Proof.Machine

/-- IMM[23]: post-increment X[A] by the bytes moved; a load into X[A] itself leaves its value free (log 26). -/
def Eng.postInc (e : Eng) (m : Mach) (st : Store) (bytes : Nat) (loaded : Bool) : Mach × Store :=
  let a := e.i.a.toNat
  if !bitOf e.i.imm.toNat 23 then (m, st)
  else if loaded then
    let d := m.draw 32
    (d.2, st.setX e.k a (BitVec.ofNat 32 d.1))
  else (m, st.setX e.k a (st.x e.k a + BitVec.ofNat 32 bytes))

/-- End of a load or store that moved bytes. -/
def Eng.moved (e : Eng) (m : Mach) (st : Store) (bytes : Nat) (loaded : Bool) : EngRes :=
  .done (e.postInc m st bytes loaded).1 (e.postInc m st bytes loaded).2

/-- Load vector registers from scratch of core `src`. -/
def Eng.loadV (e : Eng) (m : Mach) (st : Store) (src : Nat) : EngRes :=
  let a := (st.x e.k e.i.a.toNat).toNat
  if !e.scrOk a (4096 * e.n) 4 then badPtr m st a
  else if !groupOk e.i.d.toNat e.n then badPtr m st 0
  else
    match m.scrBad src a (4096 * e.n) with
    | (true, m1) => operandUe m1 st
    | (false, m1) => e.moved m1 (st.setV e.k e.i.d.toNat 0 (bytesWords (st.scr src a (4096 * e.n)))) (4096 * e.n) false

/-- Store vector registers to scratch of core `dst`. -/
def Eng.storeV (e : Eng) (m : Mach) (st : Store) (dst : Nat) : EngRes :=
  let a := (st.x e.k e.i.a.toNat).toNat
  if !e.scrOk a (4096 * e.n) 4 || m.scrGuarded dst a (4096 * e.n) then badPtr m st a
  else if !groupOk e.i.d.toNat e.n then badPtr m st 0
  else e.moved (m.scrWrote dst a (4096 * e.n)) (st.setScr dst a (wordBytes (st.v e.k e.i.d.toNat (1024 * e.n))))
    (4096 * e.n) false

/-- TLD mode 0, 05 R130. -/
def execTldScratch (core : BitVec 5) (i : EngOp) (err : HwErr) (s : State) : Host.Outcome State Fault Refusal :=
  s.engine core 0x08 0 i err 0 fun e m st => e.loadV m st e.k

/-- TLD mode 1, 05 R130: from core 4 × cluster + IMM[1:0]. -/
def execTldCrossbar (core : BitVec 5) (i : EngOp) (err : HwErr) (s : State) : Host.Outcome State Fault Refusal :=
  s.engine core 0x08 1 i err 0 fun e m st =>
    e.loadV m st (e.k / 4 * 4 + bits i.imm.toNat 1 0)

/-- TST mode 0, 05 R130. -/
def execTstScratch (core : BitVec 5) (i : EngOp) (err : HwErr) (s : State) : Host.Outcome State Fault Refusal :=
  s.engine core 0x09 0 i err 0 fun e m st => e.storeV m st e.k

/-- TST mode 3, 05 R130. -/
def execTstCrossbar (core : BitVec 5) (i : EngOp) (err : HwErr) (s : State) : Host.Outcome State Fault Refusal :=
  s.engine core 0x09 3 i err 0 fun e m st =>
    e.storeV m st (e.k / 4 * 4 + bits i.imm.toNat 1 0)

/-- X[A] is among the n scalar registers from D, X0 apart. -/
def Eng.loadsA (e : Eng) : Bool :=
  e.i.a != 0 && decide (e.i.d.toNat ≤ e.i.a.toNat) && decide (e.i.a.toNat < e.i.d.toNat + e.n)

/-- Write words to scalar registers from D. -/
def Store.setXs (st : Store) (k d : Nat) (ws : List Word) : Store :=
  (ws.zipIdx).foldl (fun a w => a.setX k (d + w.2) w.1) st

/-- TLD mode 3, 05 R130. -/
def execTldScratchX (core : BitVec 5) (i : EngOp) (err : HwErr) (s : State) : Host.Outcome State Fault Refusal :=
  s.engine core 0x08 3 i err 0 fun e m st =>
    let a := (st.x e.k i.a.toNat).toNat
    if !e.scrOk a (4 * e.n) 4 then badPtr m st a
    else if !groupOk i.d.toNat e.n then badPtr m st 0
    else
      match m.scrBad e.k a (4 * e.n) with
      | (true, m1) => operandUe m1 st
      | (false, m1) => e.moved m1 (st.setXs e.k i.d.toNat (bytesWords (st.scr e.k a (4 * e.n)))) (4 * e.n) e.loadsA

/-- TST mode 1, 05 R130. -/
def execTstX (core : BitVec 5) (i : EngOp) (err : HwErr) (s : State) : Host.Outcome State Fault Refusal :=
  s.engine core 0x09 1 i err 0 fun e m st =>
    let a := (st.x e.k i.a.toNat).toNat
    if !e.scrOk a (4 * e.n) 4 || m.scrGuarded e.k a (4 * e.n) then badPtr m st a
    else if !groupOk i.d.toNat e.n then badPtr m st 0
    else
      let ws := (List.range e.n).map fun j => st.x e.k (i.d.toNat + j)
      e.moved (m.scrWrote e.k a (4 * e.n)) (st.setScr e.k a (wordBytes ws)) (4 * e.n) false

/-! ### Slots (04 R115, 05 R130) -/

/-- The complete operation that a handle names, of the program's gallery. -/
def Mach.keptOp (m : Mach) (gal handle : Nat) : Option Op :=
  ((m.group? (bits handle 11 0)).filter fun g => g.gallery == gal).bind fun g =>
    g.ops.find? fun o => o.seq == bits handle 27 12 && o.complete

/-- Slot words of local tiles `j` to `j + n − 1`, when all are kept. -/
def Op.slotWords (o : Op) (j n : Nat) : Option (List Word) :=
  ((List.range n).mapM fun i => (o.results.find? fun r => r.1 == j + i).map fun r => r.2.slot).map List.flatten

/-- IMM[22]: release the operation's slots. -/
def Eng.release (e : Eng) (m : Mach) (handle : Nat) : Mach :=
  if bitOf e.i.imm.toNat 22 then
    m.modGroup (bits handle 11 0) fun g => { g with ops := g.ops.filter fun o => !(o.seq == bits handle 27 12 && o.complete) }
  else m

/-- TLD mode 2, 05 R130. -/
def execTldSlot (core : BitVec 5) (i : EngOp) (err : HwErr) (s : State) : Host.Outcome State Fault Refusal :=
  s.engine core 0x08 2 i err 0 fun e m st =>
    let h := (st.x e.k i.a.toNat).toNat
    match (m.keptOp e.s.gallery h).bind fun o => o.slotWords (bits i.imm.toNat 15 0) e.n with
    | none => badPtr m st h
    | some ws =>
      if !groupOk i.d.toNat e.n then badPtr m st 0
      else e.moved (e.release m h) (st.setV e.k i.d.toNat 0 ws) (4096 * e.n) false

/-- TLD mode 4, 05 R130: n scalar registers from flat element IMM[15:0] of the slots. -/
def execTldSlotX (core : BitVec 5) (i : EngOp) (err : HwErr) (s : State) : Host.Outcome State Fault Refusal :=
  s.engine core 0x08 4 i err 0 fun e m st =>
    let h := (st.x e.k i.a.toNat).toNat
    let el := bits i.imm.toNat 15 0
    match (m.keptOp e.s.gallery h).bind fun o => o.slotWords (el / 1024) ((el % 1024 + e.n + 1023) / 1024) with
    | none => badPtr m st h
    | some ws =>
      if !groupOk i.d.toNat e.n then badPtr m st 0
      else e.moved (e.release m h) (st.setXs e.k i.d.toNat ((ws.drop (el % 1024)).take e.n)) (4 * e.n) e.loadsA

/-! ### HBM transfers (05 R130, R141) -/

/-- Start a transfer of X[C] bytes between HBM unit address X[A] and scratch X[B] under tag IMM[7:0]; on a halted core
channel it fails at once with DMA_UE at its WAIT (17 R455); a store reads its scratch words as it starts (17 R454). -/
def Eng.startDma (e : Eng) (m : Mach) (st : Store) (toHbm : Bool) : EngRes :=
  let u := (st.x e.k e.i.a.toNat).toNat
  let b := (st.x e.k e.i.b.toNat).toNat
  let len := (st.x e.k e.i.c.toNat).toNat
  let tag := bits e.i.imm.toNat 7 0
  if len % 256 ≠ 0 || 2 ^ 22 < len then badPtr m st len
  else if u < e.s.hbmBase || e.s.hbmLimit < u + len / 256 || 2 ^ 31 ≤ u || (toHbm && m.hbmGuarded (256 * u) len) then badPtr m st u
  else if !e.scrOk b len 64 || (!toHbm && m.scrGuarded e.k b len) then badPtr m st b
  else
    match if toHbm then m.scrBad e.k b len else (false, m) with
    | (true, m0) => operandUe m0 st
    | (false, m0) =>
      let m1 := if m0.flag Reg.ECC_DMA_HALT e.k then
          m0.modCore e.k fun c => { c with dmaEnds := c.dmaEnds ++ [⟨tag, .uncorrectable, 0, none⟩] }
        else m0.modCore e.k fun c => { c with dmas := c.dmas ++ [{ tag, hbm := 256 * u, scr := b, len, toHbm }] }
      e.moved m1 st len false

/-- TLD mode 5, 05 R130. -/
def execTldHbm (core : BitVec 5) (i : EngOp) (err : HwErr) (s : State) : Host.Outcome State Fault Refusal :=
  s.engine core 0x08 5 i err 0 fun e m st => e.startDma m st false

/-- TST mode 2, 05 R130. -/
def execTstHbm (core : BitVec 5) (i : EngOp) (err : HwErr) (s : State) : Host.Outcome State Fault Refusal :=
  s.engine core 0x09 2 i err 0 fun e m st => e.startDma m st true

/-- HBM lines are read: injected bits and lines written under the other code. -/
def Mach.hbmRead (m : Mach) (store addr n : Nat) : HwErr × Mach :=
  m.injRead store (addr / 2 ^ 36) (addr % 2 ^ 36 / 64) ((addr % 2 ^ 36 + n + 63) / 64)

/-- Lines of HBM are written: armed injections take effect. -/
def Mach.hbmWrote (m : Mach) (store addr n : Nat) : Mach :=
  m.injWrite store (addr / 2 ^ 36) (addr % 2 ^ 36 / 64) ((addr % 2 ^ 36 + n + 63) / 64)

/-- A transfer ends: its bytes move, or an uncorrectable read is kept for its WAIT, halts the core's HBM channel and
raises an FC2 fault (05 R141, 17 R454, R455). -/
def Mach.dmaEnd (m : Mach) (st : Store) (k : Nat) (d : Dma) (err : HwErr) : Mach × Store :=
  let m1 := m.modCore k fun c => { c with dmas := eraseFirst (fun x => x == d) c.dmas }
  let ends (a : Mach) (s : Status) : Mach := if d.gone then a else
    a.modCore k fun c => { c with dmaEnds := c.dmaEnds ++ [⟨d.tag, s, d.scr, d.prefetch⟩] }
  let store := m.hbmStore d.hbm
  let inj := if d.toHbm then (HwErr.none, m1) else m1.hbmRead store d.hbm d.len
  if !d.ok then (ends m1 .badPointer, st)
  else
    match orErr err inj.1 with
    | .ue _ pos addr =>
      let u := (m1.eccUe store (d.hbm / 2 ^ 36) pos.toNat addr.toNat).setFlag Reg.ECC_DMA_HALT k true
      (ends (u.raisePin (4 + k / 4) 2 k 0x38) .uncorrectable, st)
    | e =>
      let m2 := match e with
        | .ce _ pos addr hard => inj.2.eccCe store (d.hbm / 2 ^ 36) pos.toNat addr.toNat hard
        | _ => m1
      if d.toHbm then
        ((ends m2 .ok).hbmWrote store d.hbm d.len, { st with hbm := sputs zeroCell st.hbm d.hbm (st.scr k d.scr d.len) })
      else ((ends m2 .ok).scrWrote k d.scr d.len, st.setScr k d.scr (sgets zeroCell st.hbm d.hbm d.len))

/-- DMA_DONE, 05 R141: the oldest transfer of a tag ends. -/
def execDmaDone (core : BitVec 5) (tag : BitVec 8) (err : HwErr) (s : State) : Host.Outcome State Fault Refusal :=
  s.runMS fun st m =>
    match (m.core core.toNat).dmas.find? fun d => d.tag == tag.toNat && d.prefetch.isNone with
    | some d => if m.running then m.dmaEnd st core.toNat d err else (m, st)
    | none => (m, st)

/-- PREFETCH_DONE, 06 R164, R165. -/
def execPrefetchDone (core : BitVec 5) (err : HwErr) (s : State) : Host.Outcome State Fault Refusal :=
  s.runMS fun st m =>
    match (m.core core.toNat).dmas.find? fun d => d.prefetch.isSome with
    | some d => if m.running then m.dmaEnd st core.toNat d err else (m, st)
    | none => (m, st)

/-- DGS, 05 R130: CRC-64 of X[B] bytes at scratch X[A]. -/
def execDgs (core : BitVec 5) (i : EngOp) (err : HwErr) (s : State) : Host.Outcome State Fault Refusal :=
  s.engine core 0x28 0 i err 0 fun e m st =>
    let a := (st.x e.k i.a.toNat).toNat
    let n := (st.x e.k i.b.toNat).toNat
    if !e.scrOk a n 64 || n % 64 != 0 then badPtr m st a
    else if !groupOk i.d.toNat 2 then badPtr m st 0
    else
      match m.scrBad e.k a n with
      | (true, m1) => operandUe m1 st
      | (false, m1) =>
        let c := crc64 (st.scr e.k a n)
        .done m1 ((st.setX e.k i.d.toNat (BitVec.ofNat 32 c)).setX e.k (i.d.toNat + 1) (BitVec.ofNat 32 (c / 2 ^ 32)))

end Sys2Proof.Machine
end

