-- ==== Sys2Proof/Machine/EngVec.lean ====
section
/-! DEFINITION. EngVec.lean: MMA and the vector, routing and conversion instructions of 05 R130 to R140. -/
namespace Sys2Proof.Machine

/-! ### NaN records of a program (05 R142, 02 R52) -/

/-- GROUP and OP_SEQ of a program's NaN record (02 R52): of a layer program its ATTN_GROUP and operation sequence (log 65);
zero for a program outside any group. -/
def Eng.progOp (e : Eng) (m : Mach) : Nat × Nat :=
  match e.s.session.bind m.session? with
  | some x => (m.lay x.cur 0 11 0, x.n * 2 ^ 14 + x.rseq * 2 ^ 10)
  | none => (0, 0)

/-- A NaN that an instruction met: flat element index, KIND, FORMAT and raw bits. The first of a program raises its
record and counts the program. -/
def Eng.nanNote (e : Eng) (m : Mach) (x : Option (Nat × Nat × Nat × Nat)) : Mach :=
  match x with
  | none => m
  | some (idx, kind, fmt, raw) =>
    let c := m.core e.k
    let m1 := m.setCore { c with nan := true, status := worst c.status .nanTrap }
    if c.nan then m1
    else (m1.count Reg.ENG_NAN_CNT).galEvent e.s.gallery 0x01 noFault
      [kind * 2 ^ 23 + fmt * 2 ^ 18 + e.s.gallery * 2 ^ 12 + (e.progOp m).1, idx / 1024 * 2 ^ 16 + (e.progOp m).2, idx % 1024,
        c.pc * 2 ^ 16 + e.k, raw]

/-- The first NaN of a list of results, by flat index from `base`. -/
def firstNan (base fmt : Nat) (rs : List VRes) : Option (Nat × Nat × Nat × Nat) :=
  (rs.zipIdx.find? fun p => p.1.nan.isSome).bind fun p => p.1.nan.map fun n => (base + p.2, n.1, fmt, n.2.toNat)

/-- Write results to registers from flat index `off` of group `d`, noting their first NaN. -/
def Eng.vecOut (e : Eng) (m : Mach) (st : Store) (d off : Nat) (rs : List VRes) : EngRes :=
  .done (e.nanNote m (firstNan off 0 rs)) (st.setV e.k d off (rs.map (·.bits)))

/-- Write a scalar result to X[D]; a NaN that arithmetic made names an element the spec does not state: a free one. -/
def Eng.scalarOut (e : Eng) (m : Mach) (st : Store) (xs : List Word) (r : VRes) : EngRes :=
  let st1 := st.setX e.k e.i.d.toNat r.bits
  match r.nan with
  | none => .done m st1
  | some (kind, raw) =>
    match xs.zipIdx.find? fun p => fIsNan p.1 with
    | some p => .done (e.nanNote m (some (p.2, 4, 0, p.1.toNat))) st1
    | none =>
      let d := m.draw 15
      .done (e.nanNote d.2 (some (d.1, kind, 0, raw.toNat))) st1

/-! ### Elementwise instructions -/

/-- Operand B: a group, or the scalar X[B] for every element. -/
def Eng.operandB (e : Eng) (st : Store) (scalar : Bool) : List Word :=
  if scalar then List.replicate (1024 * e.n) (st.x e.k e.i.b.toNat) else st.v e.k e.i.b.toNat (1024 * e.n)

/-- D = f(A, B) on groups. -/
def Eng.binary (e : Eng) (m : Mach) (st : Store) (scalar : Bool) (f : Word → Word → VRes) : EngRes :=
  if !groupOk e.i.d.toNat e.n || !groupOk e.i.a.toNat e.n || (!scalar && !groupOk e.i.b.toNat e.n) then badPtr m st 0
  else e.vecOut m st e.i.d.toNat 0 (List.zipWith f (st.v e.k e.i.a.toNat (1024 * e.n)) (e.operandB st scalar))

/-- D = f(A) on groups. -/
def Eng.unary (e : Eng) (m : Mach) (st : Store) (f : Word → VRes) : EngRes :=
  if !groupOk e.i.d.toNat e.n || !groupOk e.i.a.toNat e.n then badPtr m st 0
  else e.vecOut m st e.i.d.toNat 0 ((st.v e.k e.i.a.toNat (1024 * e.n)).map f)

/-- VAD, 05 R130. -/
def execVad (core : BitVec 5) (mode : BitVec 4) (i : EngOp) (err : HwErr) (s : State) : Host.Outcome State Fault Refusal :=
  s.engine core 0x18 mode.toNat i err 2
    fun e m st => e.binary m st (mode == 1) (v2 fun a b => vOf (fAdd a b))

/-- VMU, 05 R130. -/
def execVmu (core : BitVec 5) (mode : BitVec 4) (i : EngOp) (err : HwErr) (s : State) : Host.Outcome State Fault Refusal :=
  s.engine core 0x19 mode.toNat i err 2
    fun e m st => e.binary m st (mode == 1) (v2 fun a b => vOf (fMul a b))

/-- VFM, 05 R130. -/
def execVfm (core : BitVec 5) (mode : BitVec 4) (i : EngOp) (err : HwErr) (s : State) : Host.Outcome State Fault Refusal :=
  s.engine core 0x1A mode.toNat i err 2
    fun e m st =>
      if !groupOk i.d.toNat e.n || !groupOk i.a.toNat e.n || !groupOk i.c.toNat e.n || (mode != 1 && !groupOk i.b.toNat e.n)
      then badPtr m st 0
      else
        let ab := (st.v e.k i.a.toNat (1024 * e.n)).zip (e.operandB st (mode == 1))
        e.vecOut m st i.d.toNat 0
          (List.zipWith (fun p c => v3 (fun x y z => vOf (fFma x y z)) p.1 p.2 c) ab (st.v e.k i.c.toNat (1024 * e.n)))

/-- VMX, 05 R130: max, min, and both with B scalar. -/
def execVmx (core : BitVec 5) (mode : BitVec 4) (i : EngOp) (err : HwErr) (s : State) : Host.Outcome State Fault Refusal :=
  s.engine core 0x1D mode.toNat i err 2
    fun e m st => e.binary m st (decide (2 ≤ mode.toNat)) (v2 (vMaxMin (mode.toNat % 2 == 1)))

/-- VRS, 05 R135. -/
def execVrs (core : BitVec 5) (i : EngOp) (err : HwErr) (s : State) : Host.Outcome State Fault Refusal :=
  s.engine core 0x1B 0 i err 2 fun e m st => e.unary m st vrs

/-- VEX, 05 R134. -/
def execVex (core : BitVec 5) (i : EngOp) (err : HwErr) (s : State) : Host.Outcome State Fault Refusal :=
  s.engine core 0x1C 0 i err 2 fun e m st => e.unary m st vex

/-- VSM, 05 R133: over the first IMM[14:0] + 1 elements from group A, whose CNT + 1 registers must exist (R125, log 66). -/
def execVsm (core : BitVec 5) (i : EngOp) (err : HwErr) (s : State) : Host.Outcome State Fault Refusal :=
  s.engine core 0x1E 0 i err 2 fun e m st =>
    let n := bits i.imm.toNat 14 0 + 1
    if !groupOk i.a.toNat e.n || !groupOk i.a.toNat ((n + 1023) / 1024) then badPtr m st 0
    else
      let xs := st.v e.k i.a.toNat n
      e.scalarOut m st xs (vsum (asElems xs))

/-- NRM mode 0, 05 R136. -/
def execNrmSs (core : BitVec 5) (i : EngOp) (err : HwErr) (s : State) : Host.Outcome State Fault Refusal :=
  s.engine core 0x1F 0 i err 2 fun e m st =>
    if !groupOk i.a.toNat e.n then badPtr m st 0
    else
      let xs := st.v e.k i.a.toNat (1024 * e.n)
      e.scalarOut m st xs (nrmSs xs)

/-- NRM mode 1, 05 R136: X[C], X[C+1], X[C+2] are the sum of squares, 1/H and epsilon. -/
def execNrmApply (core : BitVec 5) (i : EngOp) (err : HwErr) (s : State) : Host.Outcome State Fault Refusal :=
  s.engine core 0x1F 1 i err 2 fun e m st =>
    if !groupOk i.d.toNat e.n || !groupOk i.a.toNat e.n || !groupOk i.b.toNat e.n || !groupOk i.c.toNat 3 then badPtr m st 0
    else
      let x (j : Nat) : Word := st.x e.k (i.c.toNat + j)
      e.vecOut m st i.d.toNat 0
        (nrmApply (st.v e.k i.a.toNat (1024 * e.n)) (st.v e.k i.b.toNat (1024 * e.n)) (x 0) (x 1) (x 2))

/-! ### TOPK and CMB -/

/-- A TOPK keeps to the ROUTED entry whose program runs (06 R163). -/
def Mach.topkFits (m : Mach) (s : Start) (imm : Nat) : Bool :=
  match s.session.bind m.session? with
  | none => true
  | some x =>
    m.lay x.cur 0 30 29 != 0 ||
      (bits imm 10 0 == m.lay x.cur 2 10 0 && bits imm 14 11 == m.lay x.cur 0 25 22 && bits imm 16 15 == m.lay x.cur 0 28 27 &&
        bits imm 17 17 == m.lay x.cur 0 26 26)

/-- TOPK, 05 R137. -/
def execTopk (core : BitVec 5) (i : EngOp) (err : HwErr) (s : State) : Host.Outcome State Fault Refusal :=
  s.engine core 0x20 0 i err 2 fun e m st =>
    let imm := i.imm.toNat
    let n := bits imm 10 0 + 1
    if !m.topkFits e.s imm then badFmt m st
    else if !groupOk i.a.toNat e.n || !groupOk i.a.toNat ((n + 1023) / 1024) then badPtr m st 0
    else
      let t := topk (st.v e.k i.a.toNat n) (bits imm 14 11 + 1) (bits imm 16 15) (bitOf imm 17)
      let m1 := e.nanNote m (t.nan.map fun x => (x.1, x.2.1, 0, x.2.2.toNat))
      let m2 := match e.s.session with
        | some x => m1.modSession x fun y => { y with audit := { y.audit with chosen := y.audit.chosen ++ t.sel } }
        | none => m1
      .done (m2.modCore e.k fun c => { c with topk := c.topk ++ [t.sel] }) (st.setV e.k i.d.toNat 0 (topkWords t))

/-- CMB, 05 R140: k is the number of experts the TOPK result in register C holds. -/
def execCmb (core : BitVec 5) (i : EngOp) (err : HwErr) (s : State) : Host.Outcome State Fault Refusal :=
  s.engine core 0x24 0 i err 2 fun e m st =>
    let t := st.v e.k i.c.toNat 32
    let k := ((t.take 16).takeWhile fun w => w != 0xFFFFFFFF).length
    let len := 1024 * e.n
    if !groupOk i.d.toNat e.n || !groupOk i.a.toNat e.n || !groupOk i.b.toNat (k * e.n) then badPtr m st 0
    else
      let bs := (List.range k).map fun j => (t.getD (16 + j) 0, st.v e.k (i.b.toNat + j * e.n) len)
      let ad := (st.v e.k i.a.toNat len).zip (st.v e.k i.d.toNat len)
      e.vecOut m st i.d.toNat 0
        (ad.zipIdx.map fun p => cmbElem p.1.1 p.1.2 (bs.map fun b => (b.1, b.2.getD p.2 0)))

/-! ### QNT and DQT -/

/-- Stride of a tile in scratch (05 R129). -/
def tileStride (f : Nat) : Nat := (reserveBytes f + 63) / 64 * 64

/-- Add to an X register, saturating. -/
def Store.addX (st : Store) (k r n : Nat) : Store :=
  st.setX k r (BitVec.ofNat 32 (satAdd 0xFFFFFFFF (st.x k r).toNat n))

/-- Encode a tile of FP32 words for QNT (05 R138). -/
def qntTile (f imm : Nat) (ws : List Word) : Encoded :=
  if fmtFamily f = .float then encodeFloatTile f (bits imm 11 6) (bits imm 5 0) ws
  else encodeFloatToInt f (bitOf imm 12) ws

/-- The first NaN of a tile to be encoded, or infinity in an MX or ABF4 block (02 R50). -/
def qntNan (f t : Nat) (ws : List Word) (x : Encoded) : Option (Nat × Nat × Nat × Nat) :=
  if isMx f || f = 15 then x.bad.head?.map fun i => (1024 * t + i, 3, 0, (ws.getD i 0).toNat)
  else (ws.zipIdx.find? fun p => fIsNan p.1).map fun p => (1024 * t + p.2, 4, 0, p.1.toNat)

/-- QNT, 05 R138. -/
def execQnt (core : BitVec 5) (i : EngOp) (err : HwErr) (s : State) : Host.Outcome State Fault Refusal :=
  s.engine core 0x21 0 i err 2
    fun e m st =>
      let f := i.fmt.toNat
      let d := (st.x e.k i.d.toNat).toNat
      let len := (e.n - 1) * tileStride f + reserveBytes f
      if !fmtKnown f || fmtFamily f == .bitwise then badFmt m st
      else if !groupOk i.a.toNat e.n then badPtr m st 0
      else if !e.scrOk d len 4 then badPtr m st d
      else
        let tiles := (List.range e.n).map fun t => st.v e.k (i.a.toNat + t) 1024
        let outs := tiles.map fun ws => (ws, qntTile f i.imm.toNat ws)
        let nan := (outs.zipIdx.filterMap fun p => qntNan f p.2 p.1.1 p.1.2).head?
        let st1 := outs.zipIdx.foldl (fun a p => a.setScr e.k (d + p.2 * tileStride f) p.1.2.payload) st
        let m1 := outs.zipIdx.foldl (fun (a : Mach) p => a.scrWrote e.k (d + p.2 * tileStride f) p.1.2.payload.length) m
        .done (e.nanNote m1 nan)
          ((st1.addX e.k i.b.toNat (sumOf (·.2.sat) outs)).addX e.k i.c.toNat (sumOf (·.2.flush) outs))

/-- DQT mode 0, 05 R130: decode n tiles at scratch X[A]. -/
def execDqtDecode (core : BitVec 5) (i : EngOp) (err : HwErr) (s : State) : Host.Outcome State Fault Refusal :=
  s.engine core 0x22 0 i err 0 fun e m st =>
    let f := i.fmt.toNat
    let a := (st.x e.k i.a.toNat).toNat
    let len := (e.n - 1) * tileStride f + reserveBytes f
    if !fmtKnown f || fmtFamily f == .bitwise then badFmt m st
    else if !groupOk i.d.toNat e.n then badPtr m st 0
    else if !e.scrOk a len 4 then badPtr m st a
    else
      match m.scrBad e.k a len with
      | (true, m1) => operandUe m1 st
      | (false, m1) =>
        let es := (List.range e.n).flatMap fun t => decodeTile f (leNat (st.scr e.k (a + t * tileStride f) (reserveBytes f)))
        let nan := (es.zipIdx.find? fun p => p.1.nan.isSome).bind fun p => p.1.nan.map fun n =>
          (p.2, if n.1 == .scale then 1 else 4, f, n.2.toNat)
        .done (e.nanNote m1 nan) (st.setV e.k i.d.toNat 0 (es.map (·.bits)))

/-- DQT mode 1, 05 R130: INT32 to FP32. -/
def execDqtInt (core : BitVec 5) (i : EngOp) (err : HwErr) (s : State) : Host.Outcome State Fault Refusal :=
  s.engine core 0x22 1 i err 0 fun e m st =>
    e.unary m st fun w => { bits := (fOfInt w.toInt).bits }

/-! ### MMA (05 R123, R131) -/

/-- FORMAT of the first NaN operand of a column and a row: weights before activations in ascending K. -/
def mmaNanFmt (fw fa : Nat) (col row : List (Nat × Nat)) : Nat :=
  match (col.zip row).find? fun p => (arrEl fw p.1.1 p.1.2).nan.isSome || (arrEl fa p.2.1 p.2.2).nan.isSome with
  | some p => if (arrEl fw p.1.1 p.1.2).nan.isSome then fw else fa
  | none => 0

/-- MMA, 05 R123, R131. -/
def execMma (core : BitVec 5) (i : EngOp) (err : HwErr) (s : State) : Host.Outcome State Fault Refusal :=
  s.engine core 0x10 0 i err 1
    fun e m st =>
      let imm := i.imm.toNat
      let fw := i.fmt.toNat
      let fa := bits imm 4 0
      let sh := (st.x e.k i.c.toNat).toNat
      let k := 32 * (bits sh 9 0 + 1)
      let n := bits sh 19 10 + 1
      let rows := bits sh 25 20 + 1
      let off := bits imm 23 13
      let wa := (st.x e.k i.a.toNat).toNat
      let aa := (st.x e.k i.b.toNat).toNat
      let ka := panelRows fw fa
      let wl := weightBytes fw ka k n
      let al := (rows * (k / 1024) - 1) * tileStride fa + reserveBytes fa
      if !fmtMmaOk fw || !fmtMmaOk fa || fmtFamily fw != fmtFamily fa || k % 1024 != 0 || decide (1024 * e.n < off + rows * n)
      then badFmt m st
      else if !groupOk i.d.toNat e.n then badPtr m st 0
      else if !e.scrOk wa wl 4 then badPtr m st wa
      else if !e.scrOk aa al 4 then badPtr m st aa
      else
        match m.scrBad e.k wa wl with
        | (true, m1) => operandUe m1 st
        | (false, m1) =>
          match m1.scrBad e.k aa al with
          | (true, m2) => operandUe m2 st
          | (false, m2) =>
            let img := leNat (st.scr e.k wa wl)
            let tile (r t : Nat) : Nat := leNat (st.scr e.k (aa + (r * (k / 1024) + t) * tileStride fa) (reserveBytes fa))
            let cols := (List.range n).map (weightColumn fw ka k n img)
            let old := st.v e.k i.d.toNat (1024 * e.n)
            let out := (List.range rows).flatMap fun r =>
              let row := actRow fa ((List.range (k / 1024)).map (tile r))
              cols.zipIdx.map fun c =>
                let start := if bitOf imm 11 then some (old.getD (off + r * n + c.2) 0) else none
                if fmtFamily fw = .float then
                  (mmaFloat fw fa start c.1 row, fun (x : Nat × Word) =>
                    if x.1 = 2 || (start.any fIsNan) then 0 else mmaNanFmt fw fa c.1 row)
                else (mmaInt fw fa (bitOf imm 12) start c.1 row, fun _ => 0)
            let nan := (out.zipIdx.find? fun p => p.1.1.nan.isSome).bind fun p => p.1.1.nan.map fun x =>
              (off + p.2, x.1, p.1.2 x, x.2.toNat)
            .done (e.nanNote m2 nan) (st.setV e.k i.d.toNat off (out.map (·.1.bits)))

end Sys2Proof.Machine
end

