-- ==== Sys2Proof/Machine/EngSend.lean ====
section
/-! DEFINITION. EngSend.lean: SND of 05 R139 with the destinations of routed layers (06 R166 to R172). -/
namespace Sys2Proof.Machine

/-- PHASE of a dispatch destination (06 R168); any other destination leaves it unstated. -/
def dispPhase (dest : Nat) : Option Nat :=
  if dest = 0xFFF2 then some 0 else if dest = 0xFFF3 then some 1 else if dest = 0xFFF4 then some 2 else none

/-- Distinct owners of the experts that the program's most recent TOPK chose (06 R168). -/
def Mach.owners (m : Mach) (st : Store) (layer : Nat) (sel : List Nat) : List Nat :=
  (sel.map fun e => bits (m.expert st (m.lay layer 3 15 0 + e)) 15 0).eraseDups

/-- FEIDs a DISPATCH template resolves to. -/
def Eng.dispTargets (e : Eng) (m : Mach) (st : Store) (dest : Nat) : List Nat :=
  let cur := ((e.s.session.bind m.session?).map (·.cur)).getD 0
  match dispPhase dest with
  | none => [dest]
  | some 0 => m.owners st cur ((m.core e.k).topk.getLastD [])
  | some _ =>
    match e.s.session with
    | some _ => ((m.group? (m.lay cur 1 11 0)).map fun g => g.present.map (·.target)).getD []
    | none => []

/-- The trailer of a DISPATCH packet, fields the spec does not state for its destination left free (06 R169). -/
def Eng.dispTrailer (e : Eng) (m : Mach) (p : Packet) : List Byte × Mach :=
  let status := statusCode (m.core e.k).status
  let digest := if p.length = 0 then 0 else crc64 p.payload
  match e.s.session.bind m.session?, dispPhase p.dest.toNat with
  | some x, some ph =>
    let planes := ((m.group? (m.lay x.cur 1 11 0)).map (·.planes)).getD 1
    let sel := if ph = 0 then (m.core e.k).topk.getLastD [] else []
    (trailer64 status false ph (if ph = 2 then m.lay x.cur 1 31 24 else x.cur) (p.tile.toNat / planes / x.tp)
      (if ph = 0 then m.lay x.cur 0 25 22 else 0) digest sel, m)
  | _, ph =>
    let a := m.draw 2
    let b := a.2.draw 8
    let c := b.2.draw 6
    (trailer64 status false (ph.getD a.1) b.1 c.1 0 digest [], c.2)

/-- The trailer of a PARTIAL or RESULT that SND sends (04 R97): ARITH_REV and TILE_DIGEST as 08 R215 and R222 give them, the
other fields free within their ranges (log 31). -/
def sendTrailer (m : Mach) (p : Packet) : List Byte × Mach :=
  let d := m.draw 256
  (trailer32 (d.1 % 2 ^ 30 % 12) (bitOf d.1 30) (bitOf d.1 31) (bits d.1 61 32 % 1025) (bits d.1 95 64 % 65) (bits d.1 111 96)
    (bits d.1 127 112) (if p.length = 0 then 0 else crc64 p.payload) (d.1 / 2 ^ 128 % 2 ^ 64), d.2)

/-- A packet with the trailer its type carries. -/
def Eng.withTrailer (e : Eng) (m : Mach) (p : Packet) : Packet × Mach :=
  if p.type = 11 then ({ p with trailer := (e.dispTrailer m p).1 }, (e.dispTrailer m p).2)
  else if p.type = 9 || p.type = 10 then
    ({ p with trailer := (sendTrailer m p).1 }, (sendTrailer m p).2)
  else (p, m)

/-- Send one packet of a SND where its template says. -/
def Eng.sendOne (e : Eng) (m : Mach) (st : Store) (p0 : Packet) : Mach :=
  let r := e.withTrailer m p0
  let p := r.1
  let m1 := r.2
  if p.type = 11 then
    let m2 := match dispPhase p.dest.toNat, e.s.session with
      | some 2, some n => m1.modSession n fun x => { x with audit := { x.audit with
          ldParts := partInsert (p.tile.toNat, p.length.toNat, crc64 p.payload) x.audit.ldParts } }
      | _, _ => m1
    m2.multicast st ((e.dispTargets m2 st p.dest.toNat).map fun f => (none, { p with dest := BitVec.ofNat 16 f })) (e.k / 16)
  else if p.dest = 0xFFF1 then
    match m1.group? p.group.toNat with
    | some g =>
      if g.peer then
        let ports := (g.present.filter fun x => x.target != 0x8000).map (·.target)
        (m1.multicast st (ports.map fun f => (some f, p))).intake st 0 { p with rank := BitVec.ofNat 10 g.planeIndex }
      else m1.intake st 0 p
    | none => m1.intake st 0 p
  else m1.multicast st [(none, p)] (e.k / 16)

/-- SND (05 R139): mode 0, 1 with LAST on the final tile, 2 a short vector with LAST. -/
def Eng.send (e : Eng) (m : Mach) (st : Store) (mode : Nat) : EngRes :=
  let f := e.i.fmt.toNat
  let a := (st.x e.k e.i.a.toNat).toNat
  let c := (st.x e.k e.i.c.toNat).toNat
  let p0 := pktOfHeader (st.scr e.k c 32)
  let len := (e.n - 1) * tileStride f + reserveBytes f
  let short := mode = 2
  let shortOk := e.n = 1 && f = 0 && p0.length.toNat % 4 = 0 && 4 ≤ p0.length.toNat && p0.length.toNat ≤ 4096
  let routed := match e.s.session.bind m.session? with
    | some x => m.lay x.cur 0 30 29 == 0
    | none => false
  if !e.scrOk c 32 4 then badPtr m st c
  else if !e.scrOk a (if short then 4096 else len) 4 then badPtr m st a
  else
    match m.scrBad e.k c 32 with
    | (true, m1) => operandUe m1 st
    | (false, m0) =>
      if !(p0.vc = 2 || p0.vc = 3 || p0.vc = 6 || p0.vc = 7) || (short && !shortOk) || (!short && !fmtDispatchOk f) ||
        (p0.type = 11 && p0.dest = 0xFFF2 && (!routed || e.c.topk.isEmpty)) then badFmt m0 st
      else
        match m0.scrBad e.k a (if short then p0.length.toNat else len) with
        | (true, m1) => operandUe m1 st
        | (false, m1) =>
          let tile (t : Nat) : Packet :=
            let o := a + t * tileStride f
            let n := if short then p0.length.toNat
              else if f = 15 then abf4Bytes (leNat (st.scr e.k o 4)) else fmtBytes f
            { p0 with
              epoch := m.sw.stamp, tile := p0.tile + BitVec.ofNat 16 (t * bits e.i.imm.toNat 4 0), format := e.i.fmt,
              length := BitVec.ofNat 13 n, payload := st.scr e.k o n,
              last := if mode = 0 then p0.last else if t + 1 = e.n then true else p0.last }
          .done ((List.range e.n).foldl (fun x t => e.sendOne x st (tile t)) m1) st

/-- SND mode 0, 05 R139. -/
def execSnd (core : BitVec 5) (i : EngOp) (err : HwErr) (s : State) : Host.Outcome State Fault Refusal :=
  s.engine core 0x23 0 i err 0
    fun e m st => e.send m st 0

/-- SND mode 1, 05 R139: LAST on the final tile. -/
def execSndLast (core : BitVec 5) (i : EngOp) (err : HwErr) (s : State) : Host.Outcome State Fault Refusal :=
  s.engine core 0x23 1 i err 0
    fun e m st => e.send m st 1

/-- SND mode 2, 05 R139: a short vector with LAST. -/
def execSndShort (core : BitVec 5) (i : EngOp) (err : HwErr) (s : State) : Host.Outcome State Fault Refusal :=
  s.engine core 0x23 2 i err 0
    fun e m st => e.send m st 2

end Sys2Proof.Machine
end

