-- ==== Sys2Proof/Machine/Gate.lean ====
section
/-! DEFINITION. Gate.lean: which register of the configuration window an access reaches (22 R543, R546, R547). -/
namespace Sys2Proof.Machine

/-- The domain of a register that may be off while others answer: per-lane and per-port registers of LNE and TRL
(22 R543). -/
def regDomain (off : Nat) : Option Nat :=
  if 0x150000 ≤ off ∧ off < 0x158000 then
    let lane := (off - 0x150000) / 64
    some (if off % 64 < 8 then 32 + lane / 128 else lane / 16)
  else if 0x170000 ≤ off ∧ off < 0x178000 then
    let port := (off - 0x170000) / 64
    let r := off % 64
    some (if r = 0 || r = 0x2C || r = 0x30 || r = 0x34 then 32 + port / 128 else port / 16)
  else none

/-- Blocks that accept writes before stage B7 is complete and during a halt (22 R547). -/
def earlyBlock (off : Nat) : Bool := decide (off < 0x50000) || (decide (0x60000 ≤ off) && decide (off < 0x80000))

/-- What an access to a window offset meets: no register; a register of a port that is not configured; a register that
shows its reset value; a register. -/
inductive Access where
  | miss | empty | shut | live
  deriving DecidableEq, Repr

/-- Element of the outermost array dimension at an offset. -/
def RegDesc.index (d : RegDesc) (off : Nat) : Nat :=
  match d.dims with
  | [] => 0
  | (st, _) :: _ => (off - d.base) / st

/-- What an access to an offset meets (22 R546, R547). -/
def Mach.access (m : Mach) (off : Nat) : Access :=
  match regDesc? off with
  | none => .miss
  | some d =>
    if d.port && !(m.port? (d.index off)).isSome then .empty
    else if (match regDomain off with
      | some x => m.domainOff x
      | none => false) then .shut
    else if (m.stage < 8 || m.halted) && !earlyBlock off then .shut
    else .live

/-- A write discarded and counted in JNK_CFG_MISS_CNT. -/
def Mach.cfgMiss (m : Mach) : Mach := m.count Reg.JNK_CFG_MISS_CNT

/-- A write to the register at `off` has its effect `f`, or is discarded and counted. -/
def Mach.onWrite (m : Mach) (off : Nat) (f : Mach → Mach) : Mach :=
  if m.access off = .live then f m else m.cfgMiss

/-- A register-write command: it acts while the module is awake. -/
def Mach.regCmd (m : Mach) (off : Nat) (f : Mach → Mach) : Mach := if m.awake then m.onWrite off f else m

/-- Set the RW bits of a register from a written word, keeping every other bit. -/
def Mach.writeRw (m : Mach) (off mask value : Nat) : Mach :=
  m.wr off (BitVec.ofNat 32 (((m.rd off).toNat &&& (mask ^^^ 0xFFFFFFFF)) ||| (value &&& mask)))

end Sys2Proof.Machine
end

