-- ==== Sys2Proof/Machine/Tu.lean ====
section
/-! DEFINITION. Tu.lean: parking of table-update commands (15 R411). -/
namespace Sys2Proof.Machine

/-- What a table-update command touches (15 R410). -/
inductive TuObj where
  | group (id : Nat)
  | layer (i : Nat)
  | maps (lo hi : Nat)
  | session (n : Nat)
  | route
  | cores (mask : Nat)
  | nothing
  deriving DecidableEq, Repr

/-- The object of a command. -/
def tuObj (opc : Nat) (d : TuDesc) : TuObj :=
  if opc ≤ 0x04 then .group d.arg0.toNat
  else if opc = 0x10 || opc = 0x18 then .layer d.arg0.toNat
  else if opc = 0x11 then .maps d.arg1.toNat (d.arg1.toNat + d.count.toNat)
  else if opc = 0x12 || opc = 0x13 then .session d.arg0.toNat
  else if opc = 0x20 || opc = 0x21 then .route
  else if opc = 0x28 then .cores d.arg1.toNat
  else .nothing

/-- Two commands touch one object. -/
def TuObj.meets : TuObj → TuObj → Bool
  | .group a, .group b => a == b
  | .layer a, .layer b => a == b
  | .maps a b, .maps c d => decide (a < d) && decide (c < b)
  | .session a, .session b => a == b
  | .route, .route => true
  | .cores a, .cores b => (a &&& b) != 0
  | _, _ => false

/-- Park a command. -/
def Mach.park (m : Mach) (opc : Nat) (d : TuDesc) (data : List Word) : Mach :=
  { m with jnk := { m.jnk with parked := m.jnk.parked ++ [⟨opc, d, data⟩] } }

/-- A command that is behind a parked one touching its object waits (15 R411). -/
def Mach.tuBehind (m : Mach) (opc : Nat) (d : TuDesc) : Bool :=
  m.jnk.parked.any fun w => (tuObj w.opc w.desc).meets (tuObj opc d)

/-- Starts of a core are held by a parked PROG_LOAD (15 R410). -/
def Mach.loadParked (m : Mach) (k : Nat) : Bool :=
  m.jnk.parked.any fun w => w.opc == 0x28 && bitOf w.desc.arg1.toNat k

end Sys2Proof.Machine
end

