-- ==== Sys2Proof/Machine/Layers.lean ====
section
/-! DEFINITION. Layers.lean: the routed-layer commands of 06: LAY_LOAD, LAY_EXPMAP, sessions, and router prefetches. -/
namespace Sys2Proof.Machine

/-! ### Entries in use (06 R178) -/

/-- The session uses a layer entry: by its program, or by a pending prefetch of it (06 R178). -/
def Mach.sessionUses (m : Mach) (s : Session) (i : Nat) : Bool :=
  (m.sessionRuns s && s.cur == i) ||
    (m.core s.home).dmas.any fun d => !d.gone && d.prefetch.any fun p => p.session == s.n && p.layer == i

/-- A layer entry is in use. -/
def Mach.layerBusy (m : Mach) (i : Nat) : Bool := m.sessions.any fun s => !s.failed && m.sessionUses s i

/-- Expert map entries are in use. -/
def Mach.mapBusy (m : Mach) (lo hi : Nat) : Bool :=
  m.sessions.any fun s => !s.failed && m.sessionRuns s && m.lay s.cur 0 30 29 == 0 &&
    decide (lo ≤ m.lay s.cur 3 15 0 + m.lay s.cur 2 10 0) && decide (m.lay s.cur 3 15 0 < hi)

/-! ### LAY_LOAD (06 R152, R153) -/

/-- Fields of a layer entry that are out of range or reserved (06 R152, R153; 02 R45): the router slice is at most 4 MiB. -/
def layBadEntry (w : List Word) : Bool :=
  let f (i hi lo : Nat) : Nat := bits (w.getD i 0).toNat hi lo
  let kind := f 0 30 29
  let gate := f 0 28 27
  kind == 3 || gate == 3 || f 0 21 18 != 0 || f 2 14 11 != 0 || f 3 31 16 != 0 || f 4 30 17 != 0 || f 5 31 31 != 0 ||
    f 6 31 15 != 0 || f 7 31 17 != 0 || f 8 31 17 != 0 || f 9 31 15 != 0 || (w.drop 12).any (fun x => x != 0) ||
    decide (32 < f 2 26 21) || decide (32 < f 2 20 15) || decide (16384 < f 6 14 0) || decide (f 2 10 0 < f 0 25 22) || (kind == 0 && gate == 0) || (kind != 0 && gate != 0) ||
    (f 0 26 26 == 1 && gate == 2) || decide (65535 < f 3 15 0 + f 2 10 0)

/-- Two experts of an entry have one owner and equal index bits 9:0 (06 R153). -/
def Mach.ownersClash (m : Mach) (st : Store) (w : List Word) : Bool :=
  let f (i hi lo : Nat) : Nat := bits (w.getD i 0).toNat hi lo
  (List.range (f 2 10 0 + 1)).any fun e =>
    decide (e + 1024 ≤ f 2 10 0) &&
      bits (m.expert st (f 3 15 0 + e)) 15 0 == bits (m.expert st (f 3 15 0 + e + 1024)) 15 0

/-- A member of SHARED_GROUP or of a return group lies behind a port whose partner lacks DISPATCH (10 R280). -/
def Mach.dispatchBars (m : Mach) (st : Store) (w : List Word) : Bool :=
  let f (i hi lo : Nat) : Nat := bits (w.getD i 0).toNat hi lo
  let returns := if f 0 30 29 = 0 then
      ((List.range (f 2 10 0 + 1)).map fun e => bits (m.expert st (f 3 15 0 + e)) 27 16).eraseDups
    else []
  (f 1 11 0 :: returns).any fun id => match m.group? id with
    | some g => g.members.any fun x => (m.portsBehind st g x).any fun q => match m.port? q with
      | some p => p.partnerSeen && p.negRev != 0 && decide (p.negRev < 3)
      | none => false
    | none => false

/-- What refuses a LAY_LOAD (06 R153, 10 R280, 22 R553), in the order of the table. -/
def Mach.layFails (m : Mach) (st : Store) (d : TuDesc) (w : List Word) : Option (Status × Reason) :=
  let f (i hi lo : Nat) : Nat := bits (w.getD i 0).toNat hi lo
  let gal := f 0 17 12
  let own (id : Nat) : Option Group := (m.group? id).filter fun g => g.gallery == gal
  let reduceOk (g : Group) : Bool := !g.peer && g.tier == 0 && g.rfmt == 0
  if !m.feature 1 || tuBad d 64 || w.length != 16 || decide (256 ≤ d.arg0.toNat) || layBadEntry w || m.ownersClash st w
  then some (.noSlot, .badEntry)
  else
    match own (f 0 11 0), own (f 1 11 0), own (f 1 23 12) with
    | some a, some b, some p =>
      if !reduceOk a || !reduceOk b || !p.peer then some (.noSlot, .badEntry)
      else if !fmtDispatchOk (f 2 31 27) then some (.badFormat, .badEntry)
      else if m.dispatchBars st w then some (.noSlot, .badEntry)
      else none
    | _, _, _ => some (.noSlot, .notFound)

/-- LAY_LOAD (06 R151 to R153, R178): parked while the entry is in use. -/
def Mach.layLoad (m : Mach) (st : Store) (d : TuDesc) (data : List Word) : Mach :=
  match m.layFails st d data with
  | some (s, r) => (m.tuDone 0x10 d s (reasonCode r) 0).markStale (some d.gallery.toNat)
  | none =>
    let i := d.arg0.toNat
    if m.layerBusy i || m.tuBehind 0x10 d then m.park 0x10 d data
    else
      let m1 := { m with layers := ⟨i, data⟩ :: m.layers.filter fun l => l.idx != i,
                         dgt := { m.dgt with records := m.dgt.records.filter fun r => r.layer != i } }
      ((m1.unfence fun f => f == .layer i).tuDone 0x10 d .ok 0 0).markStale (some d.gallery.toNat)

/-- LAY_EXPMAP (06 R151, R154). -/
def Mach.layExpmap (m : Mach) (st : Store) (d : TuDesc) (data : List Word) : Mach × Store :=
  let n := d.count.toNat
  let lo := d.arg1.toNat
  if tuBad d (4 * n) || n = 0 || 16384 < n || 65536 < lo + n || data.length != n ||
    data.any (fun x => decide (2 ^ 28 ≤ x.toNat)) then
    ((m.tuRefuse 0x11 d .badEntry).markStale (some d.gallery.toNat), st)
  else if m.mapBusy lo (lo + n) || m.tuBehind 0x11 d then (m.park 0x11 d data, st)
  else
    let m1 := m.unfence fun f => match f with
      | .expert i => decide (lo ≤ i) && decide (i < lo + n)
      | _ => false
    ((m1.tuDone 0x11 d .ok 0 n).markStale (some d.gallery.toNat), { st with expmap := sputs zeroCell st.expmap lo data })

/-! ### Router prefetch (06 R164, R165) -/

/-- Start the prefetch of a layer's router slice for a session's program with RSEQ `rseq`, when the entry has ROUTER_LOC
1. -/
def Mach.startPrefetch (m : Mach) (s : Session) (rseq layer : Nat) : Mach :=
  let pf : PfFor := ⟨s.n, rseq, layer⟩
  if m.lay layer 4 31 31 = 0 then m
  else
    let hbm := 256 * m.lay layer 5 30 0
    let scr := 64 * m.lay layer 4 16 0
    let len := 256 * m.lay layer 6 14 0
    let guarded := m.dgt.records.any fun r => r.core == s.home && r.layer != layer &&
      r.scr.any fun q => decide (scr < q.2) && decide (q.1 < scr + len)
    let ok := decide (256 * s.hbmBase ≤ hbm) && decide (hbm + len ≤ 256 * s.hbmLimit) && decide (64 * s.scrBase ≤ scr) &&
      decide (scr + len ≤ 64 * s.scrLimit) && decide (scr + len ≤ 2 ^ 23) && !guarded
    if m.flag Reg.ECC_DMA_HALT s.home then
      m.modCore s.home fun c => { c with dmaEnds := c.dmaEnds ++ [⟨0xFF, .uncorrectable, 0, some pf⟩] }
    else
      m.modCore s.home fun c => { c with dmas := c.dmas ++ [{ tag := 0xFF, hbm, scr, len, toHbm := false, ok, prefetch := some pf }] }

/-! ### Sessions (06 R155, R156, R177) -/

/-- Fields of a session entry that are reserved, read-only or out of range (06 R155, R156). -/
def sessBadEntry (d : TuDesc) : Bool :=
  let w (i : Nat) : Nat := (d.inline.getD i 0).toNat
  let size := (bits (w 0) 11 6 + 1) * (bits (w 0) 4 0 + 1) * 4096
  decide (4 ≤ d.arg0.toNat) || bits (w 0) 31 18 != 0 || bits (w 0) 5 5 != 0 || bits (w 1) 23 22 != 0 ||
    bits (w 2) 31 17 != 0 || bits (w 3) 31 17 != 0 || bits (w 4) 31 31 != 0 || bits (w 5) 31 31 != 0 || w 6 != 0 ||
    w 7 != 0 || decide (bits (w 1) 16 0 < bits (w 2) 16 0) || decide (64 * bits (w 3) 16 0 < 64 * bits (w 1) 16 0 + size)

/-- LAY_SESSION_OPEN (06 R155, R156, R164; 08 R230). -/
def Mach.sessionOpen (m : Mach) (st : Store) (d : TuDesc) : Mach × Store :=
  let w (i : Nat) : Nat := (d.inline.getD i 0).toNat
  let n := d.arg0.toNat
  let home := bits (w 1) 21 17
  let stale (a : Mach) : Mach := a.markStale (some d.gallery.toNat)
  if !m.feature 1 || tuBad d 0 then (stale (m.tuRefuse 0x12 d .badEntry), st)
  else if (m.session? n).isSome then (stale (m.tuRefuse 0x12 d .idInUse), st)
  else if !m.corePresent home then (stale (m.tuRefuse 0x12 d .coreAbsent), st)
  else if sessBadEntry d then (stale (m.tuRefuse 0x12 d .badEntry), st)
  else
    let lo := 64 * bits (w 1) 16 0
    let size := (bits (w 0) 11 6 + 1) * (bits (w 0) 4 0 + 1) * 4096
    let seed := wordBytes ((List.range 8).map fun j => m.rd (Reg.DGT_SEED_S n j))
    let s : Session :=
      { n, cur := bits (w 1) 31 24, gallery := bits (w 0) 17 12, maxTok := bits (w 0) 11 6 + 1, tp := bits (w 0) 4 0 + 1,
        first := bits (w 1) 31 24, home, resBase := bits (w 1) 16 0, scrBase := bits (w 2) 16 0, scrLimit := bits (w 3) 16 0,
        hbmBase := bits (w 4) 30 0, hbmLimit := bits (w 5) 30 0, audit := { chain := seed } }
    let m1 := ({ m with sessions := m.sessions ++ [s] }.unfence fun f => f == TableFence.session n).scrWrote home lo size
    (stale ((m1.tuDone 0x12 d .ok 0 0).startPrefetch s 0 s.first),
      { st with scratch := sclear st.scratch (home * 2 ^ 23 + lo) (home * 2 ^ 23 + lo + size) })

/-- LAY_SESSION_CLOSE (06 R177); a session that is FREE is refused with NOT_FOUND. -/
def Mach.sessionClose (m : Mach) (st : Store) (d : TuDesc) (force : Bool) : Mach :=
  let n := d.arg0.toNat
  let m1 := match m.session? n with
    | none => m.tuRefuse 0x13 d .notFound
    | some s =>
      if tuBad d 0 || 2 ≤ d.flags.toNat then m.tuRefuse 0x13 d .badEntry
      else if !force && m.sessionRuns s then m.tuRefuse 0x13 d .busy
      else
        let a := (if force then m.layerFail st n .abortGallery else m).dropPrefetches n s.home
        (({ a with sessions := a.sessions.filter fun x => x.n != n }).unfence fun f => f == TableFence.session n).tuDone 0x13 d .ok 0 0
  m1.markStale (some d.gallery.toNat)

/-! ### Commands -/

/-- LAY_LOAD, 06 R151. -/
def execLayLoad (d : TuDesc) (data : List Word) (s : State) : Host.Outcome State Fault Refusal :=
  s.runM fun st m => m.tuCmd 0x10 d fun m => m.layLoad st d data

/-- LAY_EXPMAP, 06 R151. -/
def execLayExpmap (d : TuDesc) (data : List Word) (s : State) : Host.Outcome State Fault Refusal :=
  s.runMS fun st m => m.tuCmdS st 0x11 d fun m => m.layExpmap st d data

/-- LAY_SESSION_OPEN, 06 R155. -/
def execLaySessionOpen (d : TuDesc) (s : State) : Host.Outcome State Fault Refusal :=
  s.runMS fun st m => m.tuCmdS st 0x12 d fun m => m.sessionOpen st d

/-- LAY_SESSION_CLOSE, 06 R177. -/
def execLaySessionClose (d : TuDesc) (s : State) : Host.Outcome State Fault Refusal :=
  s.runM fun st m => m.tuCmd 0x13 (tuPlain d) fun m => m.sessionClose st (tuPlain d) false

/-- LAY_SESSION_CLOSE with FORCE, 06 R177. -/
def execLaySessionCloseForce (d : TuDesc) (s : State) : Host.Outcome State Fault Refusal :=
  s.runM fun st m => m.tuCmd 0x13 (tuMarked d) fun m => m.sessionClose st (tuMarked d) true

end Sys2Proof.Machine
end

