-- ==== Sys2Proof/Machine/Starts.lean ====
section
/-! DEFINITION. Starts.lean: starting queued programs (05 R128, 06 R159 to R165) and the spare sequences of 05 R147 to
R149. -/
namespace Sys2Proof.Machine

/-- The attention operation of a session's CUR_LAYER entry with its group, while it runs or its slots are kept. -/
def Mach.attention (m : Mach) (s : Session) : Option (Group × Op) :=
  (m.group? (m.lay s.cur 0 11 0)).bind fun g =>
    (g.ops.find? fun o => o.seq == s.n * 2 ^ 14 + s.rseq * 2 ^ 10).map fun o => (g, o)

/-- The status with which that operation has ended without completing. -/
def Mach.attnEnd (m : Mach) (s : Session) : Option Status :=
  (m.ended.find? fun e => e.group == m.lay s.cur 0 11 0 && e.seq == s.n * 2 ^ 14 + s.rseq * 2 ^ 10).map (·.status)

/-- X1 to X16 of a layer program with M tokens (06 R161). -/
def Mach.layerRegs (m : Mach) (s : Session) (tokens : Nat) : List (Nat × Word) :=
  let seq := s.n * 2 ^ 14 + s.rseq * 2 ^ 10
  let w (x : Nat) : Word := BitVec.ofNat 32 x
  [(1, w s.n), (2, w s.cur), (3, w seq), (4, w tokens), (5, w s.tp), (6, w (64 * s.resBase)), (7, w (64 * m.lay s.cur 7 16 0)),
    (8, w (64 * m.lay s.cur 8 16 0)), (9, w (64 * m.lay s.cur 4 16 0)), (10, w (seq * 2 ^ 12 + m.lay s.cur 0 11 0)),
    (11, w (seq * 2 ^ 12 + m.lay s.cur 1 11 0)), (13, w (m.lay s.cur 11 31 0)), (14, w (m.lay s.cur 10 31 0)),
    (15, w (if m.lay s.cur 4 31 31 = 1 then 0xFF else 0)), (16, w (m.lay s.cur 1 23 12))]

/-- The registers of a core as a program finds them: +0, 0, and those the start sets (06 R161, 15 R406). -/
def Store.startRegs (st : Store) (k : Nat) (regs : List (Nat × Word)) : Store :=
  regs.foldl (fun a r => a.setX k r.1 r.2)
    { st with vregs := sclear st.vregs (k * 32768) (k * 32768 + 32768), xregs := sclear st.xregs (k * 32) (k * 32 + 32) }

/-- A core begins a start at the head of its queue. -/
def Mach.begin (m : Mach) (k : Nat) (s : Start) : Mach :=
  m.modCore k fun c => { c with
    running := some s, pc := s.entry, wait := none, status := .ok, nan := false, topk := [], trapped := false, gone := [],
    queue := c.queue.drop 1 }

/-- A layer program starts with M tokens (06 R161, R164); what its attention operation has met already joins the step's
audit (08 R226, R231). -/
def Mach.beginLayer (m : Mach) (st : Store) (k : Nat) (q : Start) (x : Session) (tokens : Nat) : Mach × Store :=
  let regs := m.layerRegs x tokens
  let m1 := (m.begin k q).count Reg.LAY_START_CNT
  let x1 := if x.cur = x.first then m1.auditBegin x else x
  let join (y : Session) : Session := match m.attention x with
    | some (g, o) => if o.complete then { y with audit := auditJoin g o y.audit } else y
    | none => match m.attnEnd x with
      | some s => { y with audit := { y.audit with status := worst y.audit.status s } }
      | none => y
  let m2 := m1.modSession x.n fun _ => join (m1.auditEntry x1)
  (m2.startPrefetch x ((x.rseq + 1) % 16) (m2.nextLayer x), st.startRegs k regs)

/-- QUEUED_START of a layer program (06 R161, R162): it waits until the tiles of its attention operation are known (log 27).
When that operation has ended first, the spec states no M, and it is a free value. -/
def Mach.startLayer (m : Mach) (st : Store) (k : Nat) (q : Start) (x : Session) : Mach × Store :=
  match m.attention x with
  | some (_, o) =>
    match o.tiles.bind (tokensOf x) with
    | none => (m, st)
    | some tokens => m.beginLayer st k q x tokens
  | none =>
    let d := m.draw 6
    d.2.beginLayer st k q x (d.1 + 1)

/-- QUEUED_START, 05 R128: an idle core runs the oldest start that nothing holds. `err` is an uncorrectable layer table or
session word (17 R454, store 8). -/
def execQueuedStart (core : BitVec 5) (err : HwErr) (s : State) : Host.Outcome State Fault Refusal :=
  s.runMS fun st m =>
    let k := core.toNat
    let c := m.core k
    match c.queue with
    | [] => (m, st)
    | q :: _ =>
      if !m.running || c.running.isSome || c.spare.isSome || q.held || m.loadParked k || m.boot.bist == some (44 + k) then (m, st)
      else
        match q.session.bind m.session? with
        | none => (m.begin k q, st.startRegs k q.regs)
        | some x =>
          let die := k / 16
          let inj := m.injRead 8 die (8 * x.cur) (8 * x.cur + 8)
          match orErr err inj.1 with
          | .ue _ pos addr =>
            let m1 := (m.eccUe 8 die pos.toNat addr.toNat).fenceTable die (.layer x.cur)
            ((m1.sessions.filter fun y => y.cur == x.cur).foldl (fun a y => a.layerFail st y.n .uncorrectable) m1, st)
          | .ce _ pos addr hard => (inj.2.eccCe 8 die pos.toNat addr.toNat hard).startLayer st k q x
          | _ => m.startLayer st k q x

/-! ### Spares (05 R147 to R149) -/

/-- SPARE_COPY_DONE, 05 R147 step 5: the spare takes the logical number, or its own fault leaves the core absent; `bad`
lists the lines that failed their code. -/
def execSpareCopyDone (core : BitVec 5) (ok : Bool) (bad : SpareBad) (s : State) : Host.Outcome State Fault Refusal :=
  s.runM fun st m => m.whenRunning fun m =>
    let k := core.toNat
    let cl := k / 4
    let c := m.core k
    let status : Option Status := match c.spare with
      | some (.fault x) => some x
      | some .copying => some .ok
      | _ => none
    match status with
    | none => m
    | some x =>
      if !ok then m.coreAbsent st k (if x = .ok then .uncorrectable else x)
      else
        let old := m.corePos k
        let new := m.fld (Reg.ENG_MAP_C cl) 14 12
        let m1 := (m.setFld (Reg.ENG_MAP_C cl) (3 * (k % 4) + 2) (3 * (k % 4)) new).setFld (Reg.ENG_MAP_C cl) 14 12 7
        let m2 := (m1.setFlag Reg.ENG_SPARE cl false).setFlag Reg.ENG_SPARE (8 + cl) true
        let m3 := m2.modEvent 0x10 noFault [statusCode x * 2 ^ 28 + old * 2 ^ 10 + new * 2 ^ 7 + k, 0, 0, 0, 0]
        ((m3.dropPins fun p => p.group == 4 + cl && p.unit == k).modCore k fun c => { c with
          spare := none, poisoned := bad.lines.map (·.toNat),
          badFetch := bad.prog.flatMap fun l => (List.range 8).map fun i => 8 * l.toNat + i }).bypassOff (4 + cl)

/-- A write of ENG_SPARE_REQ (05 R149). -/
def Mach.spareReq (m : Mach) (value : Nat) : Mach :=
  let k := value % 32
  if !bitOf value 5 then m
  else if !m.flag Reg.ENG_SPARE (k / 4) || (m.core k).spare.isSome || !m.flag Reg.ENG_PRESENT k || !m.spareFree (k / 4) then
    m.setFld Reg.ENG_TRAP_CNT 31 24 (satAdd 0xFF (m.fld Reg.ENG_TRAP_CNT 31 24) 1)
  else m.modCore k fun c => { c with spare := some .requested }

/-- ENG_SPARE_REQ, 05 R149: a write of the register. -/
def execEngSpareReq (value : Word) (s : State) : Host.Outcome State Fault Refusal :=
  s.runM fun _ m => m.regCmd Reg.ENG_SPARE_REQ fun m => m.spareReq value.toNat

/-- SPARE_REQ_ENGAGE, 05 R149: the running program has ended, and the copy of R147 starts. -/
def execSpareReqEngage (core : BitVec 5) (s : State) : Host.Outcome State Fault Refusal :=
  s.runM fun _ m => m.whenRunning fun m =>
    let c := m.core core.toNat
    if c.spare = some .requested && c.running.isNone && m.spareFree (core.toNat / 4) then
      ((m.bistAbort (core.toNat / 4)).setCore { c with spare := some .copying }).bypassOn (4 + core.toNat / 4)
    else m

end Sys2Proof.Machine
end

