-- ==== Sys2Proof/Machine/Fmem.lean ====
section
/-! DEFINITION. Fmem.lean: fabric memory of 07: pools, page handles, the commands of R197, quotas, and rebuilds. -/
namespace Sys2Proof.Machine

/-! ### Pages and pools (07 R182 to R192) -/

/-- A page table entry. -/
def Mach.page (m : Mach) (p : Nat) : FmPage := (m.pages.find? fun x => x.page == p).getD { page := p }

/-- Replace a page table entry, which lies in the pool area of its stack (07 R184); one that is FREE with GEN 0 is not listed. -/
def Mach.setPage (m : Mach) (x : FmPage) : Mach :=
  let rest := m.pages.filter fun y => y.page != x.page
  { m.hbmWrote 16 (pageEntryAddr x.page) 8 with pages := if x == { page := x.page } then rest else x :: rest }

/-- A 64 KiB page is named in the retire map in use (17 R458, 07 R190). -/
def Mach.pageRetired (m : Mach) (p : Nat) : Bool := m.ecc.retire.any fun r => r.1 == 0 && r.2 / 16 == p

/-- The FMEM free stack of a stack, top first, as page numbers. -/
def Mach.fmStack (m : Mach) (s : Nat) : List Nat :=
  let p := m.pool s
  p.fmFree ++ (List.range (p.fmTop - p.fmBase)).map fun i => s * 2 ^ 20 + p.fmTop - 1 - i

/-- Pointers on a stack's FMEM free stack (07 R209). -/
def Mach.fmFreeCount (m : Mach) (s : Nat) : Nat := (m.pool s).fmFree.length + ((m.pool s).fmTop - (m.pool s).fmBase)

/-- Pages an ALLOC can take from a stack: none while a rebuild runs or its pops find it empty (07 R185, 18 R462). -/
def Mach.fmAvail (m : Mach) (s : Nat) : Nat :=
  if m.stackShut s || !m.flag Reg.BPM_CTL 2 then 0
  else
    let retired := ((m.ecc.retire.filter fun r => r.1 == 0).map fun r => r.2 / 16).eraseDups
    let q := m.pool s
    let stacked (p : Nat) : Bool := q.fmFree.contains p ||
      (decide (p / 2 ^ 20 = s) && decide (q.fmBase ≤ p % 2 ^ 20) && decide (p % 2 ^ 20 < q.fmTop))
    m.fmFreeCount s - (retired.filter stacked).length

/-- Pop the top pointer of a stack's FMEM free stack. -/
def Mach.fmPop (m : Mach) (s : Nat) : Option (Nat × Mach) :=
  let p := m.pool s
  match p.fmFree with
  | x :: t => some (x, m.setPool { p with fmFree := t })
  | [] => if p.fmBase < p.fmTop then some (s * 2 ^ 20 + p.fmTop - 1, m.setPool { p with fmTop := p.fmTop - 1 }) else none

/-- Pop past retired pages, each discarded and counted (07 R190). -/
def Mach.fmPopGood (m : Mach) (s : Nat) : Nat → Option (Nat × Mach)
  | 0 => none
  | n + 1 =>
    match m.fmPop s with
    | none => none
    | some (p, a) =>
      if m.pageRetired p then
        Mach.fmPopGood ((a.setPage { a.page p with alloc := false, retired := true }).count Reg.BPM_RETIRE_SKIP_CNT) s n
      else some (p, a)

/-- Free a page (07 R192): GEN moves on, the gallery gets it back, and it is pushed unless it is retired. -/
def Mach.freePage (m : Mach) (p : Nat) : Mach :=
  let x := m.page p
  let off := Reg.FMM_USED_G x.gallery
  let m1 := (m.setPage { page := p, gen := (x.gen + 1) % 256, retired := m.pageRetired p, zeroed := x.zeroed }).wr off
    (BitVec.ofNat 32 ((m.rd off).toNat - 1))
  if m.pageRetired p then m1
  else
    let q := m1.pool (p / 2 ^ 20)
    m1.setPool { q with fmFree := p :: q.fmFree }

/-! ### Handles and refusals (07 R191, R199) -/

/-- REASON of 07 R199. -/
inductive FmReason where
  | none | poolEmpty | quota | refsFull | range | stale | notAlloc | gallery | bounds | field | badSet | media | fenced
  deriving DecidableEq, Repr

/-- The REASON code and the status of a refusal (07 R199). -/
def FmReason.code : FmReason → Nat × Status
  | .none => (0, .ok) | .poolEmpty => (1, .noSlot) | .quota => (2, .noSlot) | .refsFull => (3, .noSlot)
  | .range => (4, .badPointer) | .stale => (5, .badPointer) | .notAlloc => (6, .badPointer) | .gallery => (7, .badPointer)
  | .bounds => (8, .badPointer) | .field => (9, .badFormat) | .badSet => (10, .badFormat) | .media => (11, .uncorrectable)
  | .fenced => (12, .badPointer)

/-- PAGE of a handle. -/
def hPage (h : Nat) : Nat := h % 2 ^ 23

/-- The handle of a page. -/
def handleOf (x : FmPage) : Nat := x.gen * 2 ^ 24 + x.page

/-- PAGE lies in an FMEM region (07 R187, R199). -/
def Mach.inFmem (m : Mach) (p : Nat) : Bool :=
  let q := m.pool (p / 2 ^ 20)
  decide (q.fmBase ≤ p % 2 ^ 20) && decide (p % 2 ^ 20 < q.fmLimit)

/-- Check a handle in the order of 07 R199. -/
def Mach.checkHandle (m : Mach) (gal h off lines : Nat) : FmReason :=
  let x := m.page (hPage h)
  if !m.inFmem (hPage h) then .range
  else if h / 2 ^ 24 ≠ x.gen then .stale
  else if !x.alloc then .notAlloc
  else if x.gallery ≠ gal then .gallery
  else if 1024 < off + lines then .bounds
  else .none

/-! ### Commands: block, source, response (07 R195 to R198) -/

/-- A fabric-memory command: its source, gallery, 16 words, and the bytes after the block or at CADDR. -/
structure FmCmd where
  src : FmSrc
  gal : Nat
  words : List Word
  data : List Byte

/-- The command that a source carries. -/
def fmCmd (src : FmSrc) : FmCmd :=
  match src with
  | .endpoint p => ⟨src, p.gallery.toNat, bytesWords (p.payload.take 64), p.payload.drop 64⟩
  | .ring set _ block data => ⟨src, set.toNat, block, data⟩

/-- Word i of the block. -/
def FmCmd.w (c : FmCmd) (i : Nat) : Nat := (c.words.getD i 0).toNat
/-- COUNT. -/
def FmCmd.cnt (c : FmCmd) : Nat := bits (c.w 0) 19 16
/-- LINES. -/
def FmCmd.lines (c : FmCmd) : Nat := bits (c.w 2) 26 16
/-- OFFSET. -/
def FmCmd.off (c : FmCmd) : Nat := bits (c.w 2) 9 0
/-- The COUNT handles of LIST. -/
def FmCmd.list (c : FmCmd) : List Nat := (List.range c.cnt).map fun i => c.w (8 + i)
/-- CADDR. -/
def FmCmd.caddr (c : FmCmd) : Nat := c.w 6 + 2 ^ 32 * c.w 7
/-- The command comes from a ring. -/
def FmCmd.ring (c : FmCmd) : Bool := match c.src with
  | .ring _ _ _ _ => true
  | .endpoint _ => false

/-- The handle whose count a response reports. -/
def FmCmd.main (c : FmCmd) : Nat := if c.w 0 / 2 ^ 28 = 1 || c.w 0 / 2 ^ 28 = 2 then c.w 8 else c.w 1

/-- The response block (07 R198). -/
def FmCmd.response (c : FmCmd) (r : FmReason) (status : Status) (mcast : Bool) (fail ref : Nat) (list : List Nat) : List Word :=
  let who := match c.src with
    | .endpoint p => p.src.toNat
    | .ring _ _ _ _ => 0xFFFF
  let w (x : Nat) : Word := BitVec.ofNat 32 x
  [w (c.w 0 / 2 ^ 28 * 2 ^ 28 + statusCode status * 2 ^ 24 + r.code.1 * 2 ^ 20 + b2n mcast * 2 ^ 19 + fail * 2 ^ 16 +
      c.w 0 % 2 ^ 16), w (ref * 2 ^ 16), w who, w (c.w 1), 0, w (c.lines * 2 ^ 16 + c.off), 0, 0] ++
    (List.range 8).map fun i => w (list.getD i 0)

/-- An FMRSP packet (07 R195). -/
def Mach.fmrsp (m : Mach) (gal dest : Nat) (payload : List Byte) : Packet :=
  { type := 0x11, vc := 5, epoch := m.sw.stamp, gallery := BitVec.ofNat 6 gal, length := BitVec.ofNat 13 payload.length,
    dest := BitVec.ofNat 16 dest, src := 0xFFF5, payload := payload }

/-- Two sources are one command: the same packet, or the same entry of the same command ring. -/
def sameCmd : FmSrc → FmSrc → Bool
  | .endpoint p, .endpoint q => p == q
  | .ring s i _ _, .ring t j _ _ => s == t && i == j
  | _, _ => false

/-- A command has ended and waits no longer for lines of the companion. -/
def Mach.recalled (m : Mach) (src : FmSrc) : Mach :=
  { m with jnk := { m.jnk with recalls := eraseFirst (sameCmd src) m.jnk.recalls } }

/-- Answer a command: an FMRSP packet, or CADDR data and a completion record (15 R404, R406). -/
def Mach.fmAnswer (m0 : Mach) (st : Store) (c : FmCmd) (block : List Word) (data : List Byte) : Mach :=
  let m := m0.recalled c.src
  match c.src with
  | .endpoint p =>
    (m.takeInternal .fmem p).routePacket st (m.fmrsp c.gal p.src.toNat (wordBytes block ++ data)) none true (hPage c.main / 2 ^ 22)
  | .ring set i _ _ =>
    let m1 := (List.range (data.length / 64)).foldl (fun a j =>
      a.cmdWrite set.toNat i.toNat (c.caddr + 64 * j) ((data.drop (64 * j)).take 64)) m
    m1.cmdFinish set.toNat i.toNat block

/-- REFCNT of a response: of HANDLE, or of LIST[0] for INCREF and DECREF; 0 when the handle names no allocated page. -/
def Mach.refOf (m : Mach) (h : Nat) : Nat :=
  let x := m.page (hPage h)
  if x.alloc && x.gen == h / 2 ^ 24 then x.refcnt else 0

/-- Fence a gallery's fabric-memory path (07 R203). -/
def Mach.galFence (m : Mach) (g : Nat) : Mach :=
  let lo := g < 32
  (m.setFlag (if lo then Reg.FMM_GFENCE_LO else Reg.FMM_GFENCE_HI) (g % 32) true).raisePin 28 2 g (if lo then 0x10 else 0x14)

/-- A gallery's fabric-memory path is fenced. -/
def Mach.galFenced (m : Mach) (g : Nat) : Bool :=
  m.flag (if g < 32 then Reg.FMM_GFENCE_LO else Reg.FMM_GFENCE_HI) (g % 32)

/-- Refuse a command: nothing changes but the counts and the fence of 07 R203. -/
def Mach.fmRefuse (m : Mach) (st : Store) (c : FmCmd) (r : FmReason) (fail : Nat) : Mach :=
  let m1 := if r = .range then m.galFence c.gal else m.count Reg.FMM_REFUSE_CNT
  m1.fmAnswer st c (c.response r r.code.2 false fail (m.refOf c.main) []) []

/-- A command has had its effect. -/
def Mach.fmDone (m : Mach) (st : Store) (c : FmCmd) (list : List Nat) (data : List Byte) : Mach :=
  (m.count Reg.FMM_CMD_CNT).fmAnswer st c
    (c.response .none .ok false 0 (m.refOf (if c.w 0 / 2 ^ 28 = 0 then list.headD 0 else c.main)) list) data

/-- The block is free of the causes of FIELD (07 R196, R199): a reserved opcode or STACK, a reserved bit of the block or of a handle
that the opcode uses, COUNT or LINES out of range, CADDR from an endpoint, or a packet of the wrong length. -/
def FmCmd.fieldOk (c : FmCmd) : Bool :=
  let opc := c.w 0 / 2 ^ 28
  let counted := opc ≤ 2
  let lined := 3 ≤ opc && opc ≤ 5
  decide (opc ≤ 6) && (opc != 0 || decide (bits (c.w 0) 25 22 < 8) || bits (c.w 0) 25 22 == 15) &&
    bits (c.w 0) 21 20 == 0 && bits (c.w 2) 31 27 == 0 && bits (c.w 2) 15 10 == 0 && decide (c.w 4 < 2 ^ 10) && decide (c.w 5 < 2 ^ 13) &&
    (decide (opc < 3) || !bitOf (c.w 1) 23) && (opc != 5 || !bitOf (c.w 3) 23) &&
    (opc == 0 || !counted || c.list.all fun h => !bitOf h 23) &&
    (if counted then decide (1 ≤ c.cnt) && decide (c.cnt ≤ 8) else c.cnt == 0) &&
    (!lined || (decide (1 ≤ c.lines) && decide (c.lines ≤ if opc = 5 then 1024 else 63))) &&
    (c.ring || (c.caddr == 0 && c.words.length == 16 && c.data.length == (if opc = 4 then 64 * c.lines else 0)))

/-- The block names the form of a row: its opcode, and MCAST of a READ, ZERO of an ALLOC, BIND of an ATTACH. A block with a reserved
opcode is refused by whichever row takes it. -/
def FmCmd.names (c : FmCmd) (opc : Nat) (flag : Bool) : Bool :=
  let o := c.w 0 / 2 ^ 28
  decide (7 ≤ o) || (o == opc && (if opc = 0 then bitOf (c.w 0) 26 == flag else if opc = 3 then bitOf (c.w 0) 27 == flag
    else if opc = 6 then bitOf (c.w 5) 12 == flag else true))

/-! ### The order of commands (07 R193, R200, 12 R331) -/

/-- The pages that a command names: those of LIST, or those of HANDLE and of the destination of a COPY. -/
def FmCmd.pages (c : FmCmd) : List Nat :=
  let opc := c.w 0 / 2 ^ 28
  if opc = 0 then [] else if opc ≤ 2 then c.list.map hPage
  else if opc = 5 then [hPage (c.w 1), hPage (c.w 3)] else [hPage (c.w 1)]

/-- Two commands keep the order in which they came: they touch one page (07 R193), or one endpoint sent both with ORDERED (R200). -/
def fmTied (a b : FmSrc) : Bool :=
  ((fmCmd a).pages.any fun p => (fmCmd b).pages.contains p) ||
    (match a, b with
    | .endpoint p, .endpoint q => p.ordered && q.ordered && p.src == q.src
    | _, _ => false)

/-- The commands that came before one of two and have not ended: those on its way to their pages, in the order of their
class, and those that have reached their pages and wait for the companion's lines. -/
def Mach.fmBefore (m : Mach) (src : FmSrc) : List FmSrc :=
  let waits := m.jnk.recalls
  if waits.any (sameCmd src) then waits.takeWhile fun w => !sameCmd src w
  else
    let mine : List FmSrc := match src with
      | .endpoint p =>
        let l := (m.queue (.fmem 0)).pkts ++ (m.queue (.fmem 1)).pkts
        match l.find? fun x => x.pkt == p with
        | some x => (l.filter fun y => decide (y.seq < x.seq)).map fun y => .endpoint y.pkt
        | none => []
      | .ring set i _ _ =>
        ((m.jnk.taken.takeWhile fun t => !(t.set == set.toNat && t.index == i.toNat)).filter fun t => t.record.isNone).map
          fun t => .ring (BitVec.ofNat 6 t.set) (BitVec.ofNat 32 t.index) t.words []
    waits ++ mine

/-- An FMREQ packet has left the FMEM queue, first in, first out (12 R331), and its cells are filled: it is the oldest of its die's
queue that does not already wait at its page. -/
def Mach.fmHead (m : Mach) (p : Packet) : Bool :=
  [0, 1].any fun die =>
    match (m.queue (.fmem die)).pkts.find? fun x => x.pkt == p || !m.jnk.recalls.any (sameCmd (.endpoint x.pkt)) with
    | some x => x.pkt == p && x.loc == .onDie
    | none => false

/-- A command can run now: an FMREQ packet whose turn has come (12 R331), or a taken ring descriptor whose CADDR reads are answered,
and no earlier command that it must follow. -/
def Mach.fmReady (m : Mach) (src : FmSrc) : Bool :=
  !((m.fmBefore src).any (fmTied src)) &&
    (match src with
    | .endpoint p => p.type == 0x10 && p.vc == 4 && (m.fmHead p || m.jnk.recalls.any (sameCmd src))
    | .ring set i ws _ => !(m.jnk.reqs.any fun r => r.why == .caddr set.toNat i.toNat) &&
        ((m.taken? set.toNat i.toNat).map fun t => t.words == ws && t.record.isNone) == some true)

/-- A companion address lies in one of the module's own windows (15 R394, 22 R552). -/
def Mach.ownWindow (m : Mach) (addr len : Nat) : Bool :=
  let cfg := m.rd64 Reg.GLB_CFG_BASE_LO Reg.GLB_CFG_BASE_HI
  let fmw := m.rd64 Reg.GLB_FMW_BASE_LO Reg.GLB_FMW_BASE_HI
  m.flag Reg.GLB_WIN_CTL 31 &&
    ((decide (addr < cfg + 2 ^ 26) && decide (cfg < addr + len)) || (decide (addr < fmw + 2 ^ 39) && decide (fmw < addr + len)))

/-- The refusals that come before the checks of the handles: the fence, malformed fields, CADDR in the module's own windows (07
R199, R203, 15 R394). -/
def Mach.fmEarly (m : Mach) (st : Store) (c : FmCmd) : Option Mach :=
  let opc := c.w 0 / 2 ^ 28
  if m.galFenced c.gal then some (m.fmRefuse st c .fenced 0)
  else if !c.fieldOk then some (m.fmRefuse st c .field 0)
  else if (opc = 3 || opc = 4) && c.ring && m.ownWindow c.caddr (64 * c.lines) then
    some ((m.count Reg.FMM_REFUSE_CNT).fmAnswer st c (c.response .field .badPointer false 0 (m.refOf c.main) []) [])
  else none

/-- The error that the page-table entries of a command give, beside the one it names: injected bits in the pool area (17 R454,
store 16). -/
def Mach.fmTable (m : Mach) (c : FmCmd) (err : HwErr) : HwErr × Mach :=
  c.pages.foldl (fun r p =>
    let i := r.2.hbmRead 16 (pageEntryAddr p) 8
    (orErr r.1 (match i.1 with
      | .ue s pos addr => .ue s pos addr
      | _ => .none),
      match i.1 with
      | .ce _ pos addr hard => i.2.eccCe 16 (p / 2 ^ 20) pos.toNat addr.toNat hard
      | _ => i.2)) (err, m)

/-- Run a fabric-memory command that is ready and of the row's form: the early refusals, and `body`, which makes the rest of the
checks of its opcode. -/
def Mach.fmRun (m : Mach) (st : Store) (src : FmSrc) (opc : Nat) (flag : Bool) (err : HwErr)
    (body : FmCmd → HwErr → Mach → Store → Mach × Store) : Mach × Store :=
  let c := fmCmd src
  if !m.running || !m.fmReady src || !c.names opc flag then (m, st)
  else
    let m1 := match err with
      | .ce store pos addr hard => m.eccCe store.toNat (hPage (c.w 1) / 2 ^ 20) pos.toNat addr.toNat hard
      | .ue store pos addr => if store = 12 then m.eccUeNote 12 (hPage (c.w 1) / 2 ^ 22 % 2) pos.toNat addr.toNat else m
      | _ => m
    match m1.fmEarly st c with
    | some a => (a, st)
    | none => let t := m1.fmTable c err
              body c t.1 t.2 st

/-- A page-table entry that fails its code ends the command (17 R454, stores 10 and 16). -/
def Mach.fmTableUe (m : Mach) (st : Store) (c : FmCmd) (store pos addr : Nat) : Mach :=
  let s := hPage c.main / 2 ^ 20
  let unit := if store = 10 then s / 4 else s
  ((m.eccUe store unit pos addr).pulsePin (if store = 10 then 14 + s / 4 else 20 + s) 2 unit 4).fmRefuse st c .media 0

/-- A stack that the command touches has its channel halted (07 R201), or stays so by an FC3 fence (18 R462). -/
def Mach.chanHalted (m : Mach) (h : Nat) : Bool :=
  m.flag Reg.FMM_CHAN_HALT (hPage h / 2 ^ 20) || m.flt.fences.contains (20 + hPage h / 2 ^ 20)

/-! ### ALLOC (07 R197) -/

/-- The stack an ALLOC takes its next page from: the one named, or the one with most free pages (07 R197). -/
def Mach.allocStack (m : Mach) (stack : Nat) : Nat :=
  if stack < 8 then stack
  else (List.range 8).foldl (fun b s => if m.fmAvail b < m.fmAvail s then s else b) 0

/-- Take `n` pages for a gallery, newest last. -/
def Mach.allocPages (m : Mach) (gal stack : Nat) : Nat → List Nat × Mach
  | 0 => ([], m)
  | n + 1 =>
    let s := m.allocStack stack
    match m.fmPopGood s (m.fmFreeCount s) with
    | none => ([], m)
    | some (p, a) =>
      let off := Reg.FMM_USED_G gal
      let b := (a.setPage { page := p, alloc := true, gallery := gal, gen := (a.page p).gen, refcnt := 1, zeroed := true }).wr off
        (BitVec.ofNat 32 ((a.rd off).toNat + 1))
      let r := Mach.allocPages b gal stack n
      (p :: r.1, r.2)

/-- A free-stack pointer that an ALLOC pops fails: its buffer is lost (07 R188). -/
def Mach.fmPopFault (m : Mach) (err : HwErr) (s : Nat) : Mach :=
  match m.ptrFault err (4 + s / 4) s with
  | none => m
  | some a => (a.fmPop s).elim a (·.2)

/-- ALLOC with or without ZERO: it touches the stacks its pages come from (07 R201). -/
def Mach.alloc (m : Mach) (st : Store) (src : FmSrc) (zero : Bool) (err : HwErr) : Mach × Store :=
  m.fmRun st src 0 zero err fun c err m st =>
    let stack := bits (c.w 0) 25 22
    let m0 := m.fmPopFault err (m.allocStack stack)
    let free := if stack < 8 then m0.fmAvail stack else sumOf m0.fmAvail (List.range 8)
    if !m0.feature 2 then (m0.fmRefuse st c .field 0, st)
    else if free < c.cnt then (m0.fmRefuse st c .poolEmpty 0, st)
    else if (m0.rd (Reg.FMM_QUOTA_G c.gal)).toNat < (m0.rd (Reg.FMM_USED_G c.gal)).toNat + c.cnt then
      (m0.fmRefuse st c .quota 0, st)
    else
      let r := m0.allocPages c.gal stack c.cnt
      if r.1.any m0.chanHalted then (m0.fmRefuse st c .media 0, st) else
      let clear (a : Store) (p : Nat) : Store := { a with hbm := sclear a.hbm (p * 65536) (p * 65536 + 65536) }
      let first := r.1.filter fun p => !(m0.page p).zeroed
      let st1 := (if zero then r.1 else first).foldl clear st
      let m2 := (if zero then r.1 else first).foldl (fun a p => a.hbmWrote 15 (p * 65536) 65536) r.2
      (m2.fmDone st1 c (r.1.map fun p => handleOf (m2.page p)) [], st1)

/-- ALLOC, 07 R197. -/
def execAlloc (src : FmSrc) (err : HwErr) (s : State) : Host.Outcome State Fault Refusal :=
  s.runMS fun st m => m.alloc st src false err

/-- ALLOC with ZERO, 07 R192, R197. -/
def execAllocZero (src : FmSrc) (err : HwErr) (s : State) : Host.Outcome State Fault Refusal :=
  s.runMS fun st m => m.alloc st src true err

/-! ### Reference counts (07 R192, R193) -/

/-- Apply a list of steps, each of which may refuse: all take effect, or the first refusal with its place. -/
def applyAll (f : Mach → Nat → FmReason × Mach) : List Nat → Nat → Mach → FmReason × Nat × Mach
  | [], _, m => (.none, 0, m)
  | h :: t, i, m =>
    match f m h with
    | (.none, a) => applyAll f t (i + 1) a
    | (r, _) => (r, i, m)

/-- Run a command over LIST: every handle is checked before anything changes (07 R199), then the channels (07 R201). -/
def Mach.overList (m : Mach) (st : Store) (c : FmCmd) (f : Mach → Nat → FmReason × Mach) : Mach :=
  match applyAll f c.list 0 m with
  | (.none, _, a) => if c.list.any m.chanHalted then m.fmRefuse st c .media 0 else a.fmDone st c [] []
  | (r, i, _) => m.fmRefuse st c r i

/-- Subtract one reference, freeing the page at zero (07 R192). -/
def Mach.dropRef (m : Mach) (p : Nat) : Mach :=
  let x := m.page p
  if x.refcnt ≤ 1 then m.freePage p else m.setPage { x with refcnt := x.refcnt - 1 }

/-- An error met in the page table or a free stack. -/
def tableErr (err : HwErr) : Option (Nat × Nat × Nat) :=
  match err with
  | .ue store pos addr => if store = 10 || store = 16 then some (store.toNat, pos.toNat, addr.toNat) else none
  | _ => none

/-- INCREF, 07 R197. -/
def execIncref (src : FmSrc) (err : HwErr) (s : State) : Host.Outcome State Fault Refusal :=
  s.runMS fun st m => m.fmRun st src 1 false err fun c err m st =>
    match tableErr err with
    | some e => (m.fmTableUe st c e.1 e.2.1 e.2.2, st)
    | none =>
      (m.overList st c fun a h =>
        match a.checkHandle c.gal h 0 0 with
        | .none => let x := a.page (hPage h)
                   if 65535 ≤ x.refcnt then (.refsFull, a) else (.none, a.setPage { x with refcnt := x.refcnt + 1 })
        | r => (r, a), st)

/-- DECREF, 07 R197. -/
def execDecref (src : FmSrc) (err : HwErr) (s : State) : Host.Outcome State Fault Refusal :=
  s.runMS fun st m => m.fmRun st src 2 false err fun c err m st =>
    match tableErr err with
    | some e => (m.fmTableUe st c e.1 e.2.1 e.2.2, st)
    | none =>
      (m.overList st c fun a h =>
        match a.checkHandle c.gal h 0 0 with
        | .none => (.none, a.dropRef (hPage h))
        | r => (r, a), st)

/-! ### The companion's lines (07 R207) -/

/-- Lines from HBM byte address `a` that the companion holds, or only those it may have modified. -/
def Mach.heldLines (m : Mach) (a n : Nat) (dirty : Bool) : List Nat :=
  (m.jnk.held.filter fun h => decide (a / 64 ≤ h.1) && decide (h.1 < a / 64 + n) && (!dirty || h.2)).map (·.1)

/-- Recall lines: one snoop each, unless one is already on its way (15 R390). -/
def Mach.snoop (m : Mach) (opc : Nat) (lines : List Nat) : Mach :=
  lines.foldl (fun a l => if a.jnk.reqs.any fun r => r.why == .snoop l then a else a.jnkReq opc (64 * l) [] (.snoop l)) m

/-- Run `f` when the companion holds none of the lines to be written and none of those to be read modified; else recall
them, and the command waits at its page (07 R193, R207). -/
def Mach.whenRecalled (m : Mach) (st : Store) (src : FmSrc) (wr rd : Nat × Nat) (f : Mach × Store) : Mach × Store :=
  let w := m.heldLines wr.1 wr.2 false
  let r := m.heldLines rd.1 rd.2 true
  if w.isEmpty && r.isEmpty then f
  else
    let a := (m.snoop 0x10 w).snoop 0x11 (r.filter fun x => !w.contains x)
    ({ a with jnk := { a.jnk with recalls := if a.jnk.recalls.any (sameCmd src) then a.jnk.recalls else a.jnk.recalls ++ [src] } }, st)

/-! ### READ, WRITE, COPY (07 R197, R201, R202) -/

/-- HBM byte address of a line of a handle's page. -/
def lineAddr (h off : Nat) : Nat := hPage h * 65536 + 64 * off

/-- A corrected line of fabric memory is counted and logged (17 R451). -/
def Mach.ceOf (m : Mach) (e : HwErr) (s : Nat) : Mach :=
  match e with
  | .ce _ pos addr hard => m.eccCe 15 s pos.toNat addr.toNat hard
  | _ => m

/-- A line read fails: the command ends with MEDIA and the stack's channel halts (07 R201, 17 R454). -/
def Mach.fmMedia (m : Mach) (st : Store) (c : FmCmd) (h pos addr : Nat) : Mach :=
  let s := hPage h / 2 ^ 20
  let m1 := (((m.eccUe 15 s pos addr).count Reg.FMM_MEDIA_CNT).setFlag Reg.FMM_CHAN_HALT s true).raisePin (20 + s) 2 s 0x18
  m1.fmAnswer st c (c.response .media .uncorrectable false 0 (m.refOf c.main) []) []

/-- Checks shared by READ and WRITE. -/
def Mach.fmCheck (m : Mach) (c : FmCmd) : FmReason :=
  match m.checkHandle c.gal (c.w 1) c.off c.lines with
  | .none => if m.chanHalted (c.w 1) then .media else .none
  | r => r

/-- Send the lines of a READ. -/
def Mach.fmReadOut (m : Mach) (st : Store) (c : FmCmd) (mcast : Bool) (a : Nat) : Mach :=
  let data := sgets zeroCell st.hbm a (64 * c.lines)
  if !mcast then m.fmDone st c [] data
  else
    let x := m.page (hPage (c.w 1))
    let members := ((m.group? x.set_).map fun g => g.present.map (·.target)).getD []
    let block := c.response .none .ok true 0 x.refcnt []
    let p := m.fmrsp c.gal 0 (wordBytes block ++ data)
    let m1 := m.count Reg.FMM_CMD_CNT
    let die := hPage (c.w 1) / 2 ^ 22
    match c.src with
    | .endpoint q =>
      let all := if members.contains q.src.toNat then members else members ++ [q.src.toNat]
      (m1.takeInternal .fmem q).multicast st (all.map fun f => (none, { p with dest := BitVec.ofNat 16 f })) die
    | .ring _ _ _ _ => (m1.multicast st (members.map fun f => (none, { p with dest := BitVec.ofNat 16 f })) die).fmAnswer st c block data

/-- READ, to its requester or, with MCAST, to the bound group (07 R202). -/
def Mach.fmReadCmd (m : Mach) (st : Store) (src : FmSrc) (mcast : Bool) (err : HwErr) : Mach × Store :=
  m.fmRun st src 3 mcast err fun c err m st =>
    let a := lineAddr (c.w 1) c.off
    let x := m.page (hPage (c.w 1))
    match tableErr err, m.fmCheck c with
    | some e, _ => (m.fmTableUe st c e.1 e.2.1 e.2.2, st)
    | none, .none =>
      if mcast && !x.bound then (m.fmRefuse st c .badSet 0, st)
      else
        m.whenRecalled st src (0, 0) (a, c.lines)
          (let inj := m.hbmRead 15 a (64 * c.lines)
           match orErr err inj.1 with
           | .ue 15 pos addr => (m.fmMedia st c (c.w 1) pos.toNat addr.toNat, st)
           | _ => (((inj.2.ceOf inj.1 (a / 2 ^ 36)).fmReadOut st c mcast a), st))
    | none, r => (m.fmRefuse st c r 0, st)

/-- READ, 07 R197. -/
def execFmRead (src : FmSrc) (err : HwErr) (s : State) : Host.Outcome State Fault Refusal :=
  s.runMS fun st m => m.fmReadCmd st src false err

/-- READ with MCAST, 07 R202. -/
def execReadMcast (src : FmSrc) (err : HwErr) (s : State) : Host.Outcome State Fault Refusal :=
  s.runMS fun st m => m.fmReadCmd st src true err

/-- WRITE, 07 R197. -/
def execFmWrite (src : FmSrc) (err : HwErr) (s : State) : Host.Outcome State Fault Refusal :=
  s.runMS fun st m => m.fmRun st src 4 false err fun c err m st =>
    let a := lineAddr (c.w 1) c.off
    match tableErr err, m.fmCheck c with
    | some e, _ => (m.fmTableUe st c e.1 e.2.1 e.2.2, st)
    | none, .none =>
      m.whenRecalled st src (a, c.lines) (0, 0)
        (let st1 := { st with hbm := sputs zeroCell st.hbm a c.data }
         (((m.hbmWrote 15 a (64 * c.lines)).fmDone st1 c [] []), st1))
    | none, r => (m.fmRefuse st c r 0, st)

/-- Copy lines one by one, ascending (07 R197). -/
def copyLines (hbm : Cells 8) (src dst : Nat) : Nat → Nat → Cells 8
  | 0, _ => hbm
  | n + 1, i => copyLines (sputs zeroCell hbm (dst + 64 * i) (sgets zeroCell hbm (src + 64 * i) 64)) src dst n (i + 1)

/-- COPY, 07 R197, R201: lines up to a failing one are written. -/
def execFmCopy (src : FmSrc) (err : HwErr) (s : State) : Host.Outcome State Fault Refusal :=
  s.runMS fun st m => m.fmRun st src 5 false err fun c err m st =>
    let a := lineAddr (c.w 1) c.off
    let b := lineAddr (c.w 3) (c.w 4)
    let copied (n : Nat) : Store := { st with hbm := copyLines st.hbm a b n 0 }
    match tableErr err, m.fmCheck c, m.checkHandle c.gal (c.w 3) (c.w 4) c.lines with
    | some e, _, _ => (m.fmTableUe st c e.1 e.2.1 e.2.2, st)
    | none, .none, .none =>
      if m.chanHalted (c.w 3) then (m.fmRefuse st c .media 0, st)
      else
        m.whenRecalled st src (b, c.lines) (a, c.lines)
          (let inj := m.hbmRead 15 a (64 * c.lines)
           let line (x : Nat) : Nat := if err = .none then x - a % 2 ^ 36 / 64 else (x - a) / 64
           match orErr err inj.1 with
           | .ue 15 pos addr =>
             let n := min c.lines (line addr.toNat)
             (((m.hbmWrote 15 b (64 * n)).fmMedia (copied n) c (c.w 1) pos.toNat addr.toNat), copied n)
           | _ =>
             let m1 := inj.2.ceOf inj.1 (a / 2 ^ 36)
             (((m1.hbmWrote 15 b (64 * c.lines)).fmDone (copied c.lines) c [] []), copied c.lines))
    | none, .none, r => (m.fmRefuse st c r 0, st)
    | none, r, _ => (m.fmRefuse st c r 0, st)

/-! ### ATTACH (07 R197) -/

/-- SET is an ACTIVE KIND REDUCE, TIER 0 group of the gallery (07 R199). -/
def Mach.setOk (m : Mach) (gal id : Nat) : Bool :=
  match m.group? id with
  | some g => g.state == .active && !g.peer && g.tier == 0 && g.gallery == gal
  | none => false

/-- ATTACH: bind or release a page. -/
def Mach.attach (m : Mach) (st : Store) (src : FmSrc) (bind : Bool) (err : HwErr) : Mach × Store :=
  m.fmRun st src 6 bind err fun c err m st =>
    let p := hPage (c.w 1)
    let x := m.page p
    let set := bits (c.w 5) 11 0
    match tableErr err, m.checkHandle c.gal (c.w 1) 0 0 with
    | some e, _ => (m.fmTableUe st c e.1 e.2.1 e.2.2, st)
    | none, .none =>
      if m.chanHalted (c.w 1) then (m.fmRefuse st c .media 0, st)
      else if bind && !m.setOk c.gal set then (m.fmRefuse st c .badSet 0, st)
      else if bind && x.bound then ((m.setPage { x with set_ := set }).fmDone st c [] [], st)
      else if bind && 65535 ≤ x.refcnt then (m.fmRefuse st c .refsFull 0, st)
      else if bind then ((m.setPage { x with bound := true, set_ := set, refcnt := x.refcnt + 1 }).fmDone st c [] [], st)
      else if x.bound then (((m.setPage { x with bound := false, set_ := 0 }).dropRef p).fmDone st c [] [], st)
      else (m.fmDone st c [] [], st)
    | none, r => (m.fmRefuse st c r 0, st)

/-- ATTACH with BIND 1, 07 R197. -/
def execAttachBind (src : FmSrc) (err : HwErr) (s : State) : Host.Outcome State Fault Refusal :=
  s.runMS fun st m => m.attach st src true err

/-- ATTACH with BIND 0, 07 R197. -/
def execAttachUnbind (src : FmSrc) (err : HwErr) (s : State) : Host.Outcome State Fault Refusal :=
  s.runMS fun st m => m.attach st src false err

/-! ### Restart and rebuild (07 R185, R201) -/

/-- A stack's pin of one cause is released when its status is clear (18 R461). -/
def Mach.chanRestart (m : Mach) (value : Nat) : Mach :=
  let m1 := m.wr Reg.FMM_CHAN_HALT (BitVec.ofNat 32 ((m.rd Reg.FMM_CHAN_HALT).toNat &&& ((value &&& 0xFF) ^^^ 0xFFFFFFFF)))
  m1.dropPins fun p => decide (20 ≤ p.group) && decide (p.group < 28) && p.detail == 0x18 && bitOf value (p.group - 20)

/-- FMM_CHAN_RESTART, 07 R201: a write of the register. -/
def execFmmChanRestart (value : Word) (s : State) : Host.Outcome State Fault Refusal :=
  s.runM fun _ m => m.regCmd Reg.FMM_CHAN_RESTART fun m => m.chanRestart value.toNat

/-- A rebuild is refused (07 R185). DESIGN CHOICE (log 67): a pending BPM_SUMP_GIB outside 2 to 32 is no cause of refusal, and the
rebuild takes it as it is written. -/
def Mach.rebuildRefused (m : Mach) : Bool :=
  let gib := m.fld Reg.BPM_SUMP_GIB 5 0
  let base (s : Nat) : Nat := m.fld (Reg.BPM_FMEM_BASE_M s) 19 0
  let limit (s : Nat) : Nat := m.fld (Reg.BPM_FMEM_LIMIT_M s) 19 0
  m.sw.queues.any (fun q => !q.pages.isEmpty) || m.pages.any (·.alloc) ||
    (List.range 8).any fun s => decide (limit s < base s) ||
      (decide (base s < limit s) && (decide (base s < gib * 16384) || decide (1047552 < limit s)))

/-- Lines under the other code after a rebuild (17 R446, R449), where `light` tells the private code of a 64 MiB unit: lines
that leave Sump or FMEM for the private region change to its code, and lines that enter a fixed area are written before they
are read (R450). -/
def rebuiltCodes (light : Nat → Bool) (old new : Pool) (codes : List CodeRange) : List CodeRange :=
  let sump := ((List.range 1024).filter fun u => decide (new.sumpPages / 16384 ≤ u) && decide (u < old.sumpPages / 16384) &&
    !light u).map (unitLines old.stack)
  let fmem := ((List.range 1024).filter fun u => decide (old.fmBase < (u + 1) * 1024) && decide (u * 1024 < old.fmLimit) &&
    light u).map fun u =>
      (⟨true, old.stack, max (old.fmBase * 1024) (u * 2 ^ 20), min (old.fmLimit * 1024) ((u + 1) * 2 ^ 20)⟩ : CodeRange)
  new.fixedLines.foldl cutRanges (new.flipPrivate (sump ++ fmem) codes)

/-- The private 64 MiB units of a stack under the light code. -/
def Mach.lightUnits (m : Mach) (s : Nat) : List CodeRange :=
  if (List.range 16).any fun j => m.flag (Reg.ECC_REGION_M s j) 31 then
    ((List.range 1024).filter fun u => m.unitLight s u).map (unitLines s)
  else []

/-- Lines under another code than they were written with after a reset that keeps the HBM lines of some stacks and not the
ECC and BPM registers; with `pages` their FMEM regions are kept too (17 R446, R449). -/
def Mach.codesReset (m : Mach) (keep : Nat → Bool) (pages : Bool) : List CodeRange :=
  ((List.range 8).filter keep).foldl (fun l s =>
    let old := m.pool s
    let new : Pool := if pages then { old with sumpPages := 0x200000 } else { stack := s }
    rebuiltCodes (fun _ => false) old new (old.flipPrivate (m.lightUnits s) l))
    (m.ecc.otherCode.filter fun r => r.hbm && keep r.unit)

/-- BPM_CTL.REBUILD (07 R185): the pending settings take effect, tables are cleared and stacks refilled. -/
def Mach.rebuild (m : Mach) : Mach :=
  if m.rebuildRefused then m.setFlag Reg.BPM_CTL 1 true
  else
    let gib := m.fld Reg.BPM_SUMP_GIB 5 0
    let pools : List Pool := (List.range 8).map fun s =>
      { stack := s, sumpPages := 262144 * gib, spTop := 262144 * gib, fmBase := m.fld (Reg.BPM_FMEM_BASE_M s) 19 0,
        fmLimit := m.fld (Reg.BPM_FMEM_LIMIT_M s) 19 0, fmTop := m.fld (Reg.BPM_FMEM_LIMIT_M s) 19 0 }
    { (((m.setFlag Reg.BPM_CTL 1 false).setFlag Reg.BPM_CTL 2 false).bypassOn 14).bypassOn 15 with
      pages := [], pools
      sw := { m.sw with lostCells := [0, 0] }
      ecc := { m.ecc with
        otherCode := pools.foldl (fun l q => rebuiltCodes (m.unitLight q.stack) (m.pool q.stack) q l) m.ecc.otherCode } }

/-- BPM_REBUILD, 07 R185. -/
def execBpmRebuild (s : State) : Host.Outcome State Fault Refusal :=
  s.runM fun _ m => m.regCmd Reg.BPM_CTL fun m => m.rebuild

/-- REBUILD_DONE, 07 R185. -/
def execRebuildDone (s : State) : Host.Outcome State Fault Refusal :=
  s.runM fun _ m => m.whenRunning fun m =>
    if m.flag Reg.BPM_CTL 2 then m else ((m.setFlag Reg.BPM_CTL 2 true).bypassOff 14).bypassOff 15

/-- A gallery reset frees the gallery's pages and lifts its fence (07 R205). -/
def Mach.fmGalReset (m : Mach) (g : Nat) : Mach :=
  let m1 := ((m.pages.filter fun x => x.alloc && x.gallery == g).foldl (fun a x => a.freePage x.page) m).wr
    (Reg.FMM_USED_G g) 0
  let m2 := { m1 with jnk := { m1.jnk with recalls := m1.jnk.recalls.filter fun w => (fmCmd w).gal != g } }
  (m2.setFlag (if g < 32 then Reg.FMM_GFENCE_LO else Reg.FMM_GFENCE_HI) (g % 32) false).dropPins fun p =>
    p.group == 28 && p.unit == g

end Sys2Proof.Machine
end

