-- ==== Sys2Proof/Machine/Jionuk.lean ====
section
/-! DEFINITION. Jionuk.lean: the Jionuk link of 15: the fabric-memory window (07 R206, R207), doorbells, enabling and halting
ring sets, answers and lost answers, the link's loss, and interrupts. -/
namespace Sys2Proof.Machine

/-! ### Companion requests (15 R389 to R398) -/

/-- Answer a malformed request (15 R393). -/
def Mach.jnkBadFormat (m : Mach) (tag addr : Nat) : Mach :=
  (m.jnkErrRsp tag addr .badFormat).count Reg.JNK_ERR_SENT_CNT

/-- The FMEM region that holds a window address, and its stack is powered (07 R206, 21 R524). -/
def Mach.windowLine (m : Mach) (addr : Nat) : Bool :=
  decide (addr < 2 ^ 39) && m.inFmem (addr / 65536) && !m.domainOff (78 + addr / 2 ^ 36)

/-- A line request of the companion: refused by its header (R392, R393), in safe state (R398), while the JNK group is fenced
at FC3 (18 R462) or outside every FMEM region (R393); else `f`. -/
def Mach.lineReq (m : Mach) (st : Store) (h : JnkHdr) (f : Mach → Mach × Store) : Mach × Store :=
  let tag := h.tag.toNat
  let a := h.addr.toNat
  if !m.jnkUp then (m, st)
  else if m.flt.safe then (m.jnkErrRsp tag a .uncorrectable, st)
  else if h.bad || h.win != 1 || a % 64 ≠ 0 then (m.jnkBadFormat tag a, st)
  else if m.flt.fences.contains 29 then (m.jnkErrRsp tag a .badPointer, st)
  else if !m.windowLine a then ((m.jnkErrRsp tag a .badPointer).count Reg.FMM_WIN_ERR_CNT, st)
  else f m

/-- The companion no longer holds a line. -/
def Mach.letGo (m : Mach) (line : Nat) : Mach :=
  { m with jnk := { m.jnk with held := m.jnk.held.filter fun h => h.1 != line } }

/-- The snoop filter holds a line already, or has room for it (07 R207). -/
def Mach.filterRoom (m : Mach) (line : Nat) : Bool :=
  decide (m.jnk.held.length < 1048576) || m.jnk.held.any fun h => h.1 == line

/-- The companion holds a line, and may modify it. -/
def Mach.grant (m : Mach) (line : Nat) (own : Bool) : Mach :=
  let m1 := m.letGo line
  { m1 with jnk := { m1.jnk with held := m1.jnk.held ++ [(line, own)] } }

/-- Answer a line read of the window, to be held or owned or neither: data, or ERR for an uncorrectable line, on which the stack's
channel halts (15 R393, 07 R201, 17 R454 store 15). -/
def Mach.lineServe (m : Mach) (st : Store) (h : JnkHdr) (hold : Option Bool) (err : HwErr) : Mach :=
  let a := h.addr.toNat
  let s := a / 2 ^ 36
  let inj := m.hbmRead 15 a 64
  let opc := match hold with
    | none => 0x21 | some false => 0x22 | some true => 0x23
  let answer (b : Mach) : Mach := (hold.elim b fun own => b.grant (a / 64) own).jnkRsp opc h.tag.toNat a 0 (sgets zeroCell st.hbm a 64)
  match orErr err inj.1 with
  | .ue _ pos addr =>
    (((m.eccUe 15 s pos.toNat addr.toNat).count Reg.FMM_MEDIA_CNT).setFlag Reg.FMM_CHAN_HALT s true).raisePin
      (20 + s) 2 s 0x18 |>.jnkErrRsp h.tag.toNat a .uncorrectable
  | .ce _ pos addr hard => answer (inj.2.eccCe 15 s pos.toNat addr.toNat hard)
  | _ => answer inj.2

/-- A line read of the window. One that would hold a line while the snoop filter is full waits for room: the module recalls the
line held longest that no other read waits for (07 R207). -/
def Mach.lineRead (m : Mach) (st : Store) (h : JnkHdr) (hold : Option Bool) (err : HwErr) : Mach × Store :=
  m.lineReq st h fun m =>
    match hold with
    | some own =>
      if m.filterRoom (h.addr.toNat / 64) then (m.lineServe st h hold err, st)
      else
        let a := m.snoop 0x10 (((m.jnk.held.drop m.jnk.waitRd.length).take 1).map (·.1))
        ({ a with jnk := { a.jnk with waitRd := a.jnk.waitRd ++ [(own, h)] } }, st)
    | none => (m.lineServe st h none err, st)

/-- The oldest line read that waits for room in the snoop filter is answered when there is room (07 R207). -/
def Mach.serveReads (m : Mach) (st : Store) : Mach :=
  match m.jnk.waitRd with
  | (own, h) :: t =>
    if m.filterRoom (h.addr.toNat / 64) then
      Mach.lineServe { m with jnk := { m.jnk with waitRd := t } } st h (some own) .none
    else m
  | [] => m

/-- RD_ONCE, 15 R390. -/
def execRdOnce (h : JnkHdr) (err : HwErr) (s : State) : Host.Outcome State Fault Refusal :=
  s.runMS fun st m => m.lineRead st h none err

/-- RD_SHARED, 15 R390. -/
def execRdShared (h : JnkHdr) (err : HwErr) (s : State) : Host.Outcome State Fault Refusal :=
  s.runMS fun st m => m.lineRead st h (some false) err

/-- RD_OWN, 15 R390. -/
def execRdOwn (h : JnkHdr) (err : HwErr) (s : State) : Host.Outcome State Fault Refusal :=
  s.runMS fun st m => m.lineRead st h (some true) err

/-- A line write of the window that leaves no copy held: POISONed data is not used (log 36). -/
def Mach.lineWrite (m : Mach) (st : Store) (h : JnkHdr) (data : List Byte) : Mach × Store :=
  m.lineReq st h fun m =>
    let a := h.addr.toNat
    let m1 := m.letGo (a / 64)
    if h.poison then ((m1.jnkErrRsp h.tag.toNat a .uncorrectable).serveReads st, st)
    else
      let st1 := { st with hbm := sputs zeroCell st.hbm a (data.take 64) }
      (((m1.hbmWrote 15 a 64).jnkRsp 0x20 h.tag.toNat a 0 []).serveReads st1, st1)

/-- WR_FULL, 15 R390. -/
def execWrFull (h : JnkHdr) (data : List Byte) (s : State) : Host.Outcome State Fault Refusal :=
  s.runMS fun st m => m.lineWrite st h data

/-- WB, 15 R390. -/
def execWb (h : JnkHdr) (data : List Byte) (s : State) : Host.Outcome State Fault Refusal :=
  s.runMS fun st m => m.lineWrite st h data

/-- EVICT, 15 R390. -/
def execEvict (h : JnkHdr) (s : State) : Host.Outcome State Fault Refusal :=
  s.runMS fun st m => m.lineReq st h fun m =>
    (((m.letGo (h.addr.toNat / 64)).jnkRsp 0x20 h.tag.toNat h.addr.toNat 0 []).serveReads st, st)

/-! ### Ring sets (15 R399 to R402, R408) -/

/-- Address of a set's doorbell. -/
def Mach.doorbell (m : Mach) (set : Nat) : Nat := m.rd64 (ringReg set 0x28) (ringReg set 0x2C)

/-- A request for a ring's own entries or doorbell. -/
def JnkWhy.ofSet (w : JnkWhy) (set : Nat) : Bool :=
  match w with
  | .doorbell x => x == set
  | .desc x _ => x == set
  | .record x _ _ _ => x == set
  | .tuData _ => set == 64
  | _ => false

/-- Forget a set's outstanding accesses, and the commands whose descriptors have not come. -/
def Mach.dropSet (m : Mach) (set : Nat) : Mach :=
  { m with jnk := { m.jnk with
      reqs := m.jnk.reqs.filter fun r => !r.why.ofSet set
      taken := m.jnk.taken.filter fun c => !(c.set == set && c.words.isEmpty)
      tu := if set = 64 then m.jnk.tu.filter (·.ready) else m.jnk.tu } }

/-- Read a doorbell (15 R400). -/
def Mach.readDoorbell (m : Mach) (set : Nat) : Mach := m.jnkReq 2 (m.doorbell set) [] (.doorbell set)

/-- What fails the enabling of a ring set (15 R394, R402, R408, 22 R552): the ring, the cause and the address. -/
def Mach.ringCheck (m : Mach) (set : Nat) : Option (Nat × RingCause × Nat) :=
  let fs := if set = 64 then [0, 1] else [0, 1, 2]
  let log (f : Nat) : Nat := m.fld (ringReg set 4) (8 * f + 4) (8 * f)
  let base (f : Nat) : Nat := m.rd64 (ringReg set (0x10 + 8 * f)) (ringReg set (0x14 + 8 * f))
  let bytes (f : Nat) : Nat := (if f = 2 then 32 else 64) * 2 ^ log f
  if !m.flag Reg.GLB_WIN_CTL 31 then some (0, .config, 0)
  else
    match fs.find? fun f => decide (log f < 6) || decide (16 < log f) || base f % 4096 != 0 with
    | some f => some (f, .config, base f)
    | none =>
      if m.doorbell set % 64 ≠ 0 then some (0, .config, m.doorbell set)
      else
        match fs.find? fun f => m.ownWindow (base f) (bytes f) with
        | some f => some (f, .ownWindow, base f)
        | none => if m.ownWindow (m.doorbell set) 64 then some (0, .ownWindow, m.doorbell set) else none

/-- A write of RNG_CTL.EN 1 (15 R408): a failed check leaves EN 0 and halts; else the indices are 0, the doorbell is read,
and the module set's held stage reports go out (19 R487). -/
def Mach.ringEnable (m : Mach) (set : Nat) : Mach :=
  if m.ringEn set then m
  else
    match m.ringCheck set with
    | some (f, c, addr) => m.ringHalt set f c 0 addr
    | none =>
      let m1 := (m.setFld (ringReg set 0) 31 30 2).setRing { set := set }
      let m2 := (((m1.wr (ringReg set 0x30) 0).wr (ringReg set 0x34) 0).wr (ringReg set 0x38) 0).readDoorbell set
      if set = 64 then
        let held := m2.boot.reports
        let m3 := held.foldl (fun a r => a.report r.1 r.2) { m2 with boot := { m2.boot with reports := [] } }
        m2.pwr.lateEvents.foldl (fun a b => a.modEvent 0x1A noFault b) { m3 with pwr := { m3.pwr with lateEvents := [] } }
      else m2

/-- A write of RNG_CTL.EN 0: the set is disabled; waiting report records can no longer be written (15 R397, R408). -/
def Mach.ringDisable (m : Mach) (set : Nat) : Mach :=
  let m1 := (m.setFlag (ringReg set 0) 31 false).dropSet set
  if set = 64 then
    { m1.countN Reg.RNG_DISCARD_CNT m1.jnk.reports.length with jnk := { m1.jnk with reports := [] } }
  else m1

/-- A write of RNG_CTL. -/
def Mach.ringCtl (m : Mach) (set value : Nat) : Mach := if bitOf value 31 then m.ringEnable set else m.ringDisable set

/-- RNG_ENABLE, 15 R408: a write of RNG_CTL.EN 1. -/
def execRngEnable (set : BitVec 7) (s : State) : Host.Outcome State Fault Refusal :=
  s.runM fun _ m => if 64 < set.toNat then m else m.regCmd (ringReg set.toNat 0) fun m => m.ringEnable set.toNat

/-- Halt a set's ring and drop its accesses; waiting records of a halted report ring stay for its re-enabling. -/
def Mach.ringStop (m : Mach) (set f : Nat) (c : RingCause) (index addr : Nat) : Mach :=
  (m.dropSet set).ringHalt set f c index addr

/-! ### Doorbells (15 R399 to R401) -/

/-- `new` lies outside `old` to `old + room` in free-running 32-bit counts. -/
def indexBad (old new room : Nat) : Bool := decide (room < (new + 2 ^ 32 - old) % 2 ^ 32)

/-- Distance of two free-running counts. -/
def ahead (p c : Nat) : Nat := (p + 2 ^ 32 - c) % 2 ^ 32

/-- The first index of a doorbell that R401 forbids: its ring and value. -/
def Mach.doorbellBad (m : Mach) (set : Nat) (w : List Word) : Option (Nat × Nat) :=
  let r := m.ring set
  let v (i : Nat) : Nat := (w.getD i 0).toNat
  let cons := (m.rd (ringReg set 0x30)).toNat
  if indexBad r.prod (v 0) (m.ringSize set 0 - ahead r.prod cons) then some (0, v 0)
  else if indexBad r.cplCons (v 1) (ahead (m.rd (ringReg set 0x34)).toNat r.cplCons) then some (1, v 1)
  else if set ≠ 64 && indexBad r.evtCons (v 2) (ahead (m.rd (ringReg set 0x38)).toNat r.evtCons) then some (2, v 2)
  else none

/-- A doorbell value has come. -/
def Mach.doorbellSeen (m : Mach) (set : Nat) (w : List Word) : Mach :=
  match m.doorbellBad set w with
  | some (f, i) => m.ringStop set f .index i (m.doorbell set)
  | none =>
    let v (i : Nat) : Nat := (w.getD i 0).toNat
    let m1 := m.setRing { m.ring set with
      prod := v 0, cplCons := v 1, evtCons := if set = 64 then 0 else v 2, arm := v 3 % 4, held := true, intSent := [false, false] }
    if set = 64 then m1.flushReports m1.jnk.reports.length else m1

/-- SNP_INV, 15 R400: answered, and the doorbell of every open set at that line is read again. -/
def execSnpInv (tag : BitVec 12) (addr : Quad) (s : State) : Host.Outcome State Fault Refusal :=
  s.runM fun _ m =>
    if !m.jnkUp then m
    else
      let a := addr.toNat / 64 * 64
      (((List.range 65).filter fun k => m.ringEn k && m.doorbell k == a).foldl (fun b k =>
        let c := b.setRing { b.ring k with held := false }
        if c.ringOpen k && m.awake then c.readDoorbell k else c) (m.jnkRsp 0x24 tag.toNat addr.toNat 0 []))

/-! ### Answers to the module's requests (15 R390, R404) -/

/-- Take the outstanding request with a tag. -/
def Mach.answered (m : Mach) (tag : Nat) : Option JnkReq × Mach :=
  (m.jnk.reqs.find? fun r => r.tag == tag, { m with jnk := { m.jnk with reqs := m.jnk.reqs.filter fun r => r.tag != tag } })

/-- A transfer of a command's data has failed: the command ends with UNCORRECTABLE and REASON MEDIA (15 R396). -/
def Mach.cmdFail (m : Mach) (set index : Nat) : Mach :=
  match m.taken? set index with
  | none => m
  | some c =>
    let media : Nat := (FmReason.code .media).1
    let ws := match c.record with
      | some (w :: ws) =>
        BitVec.ofNat 32 (setBits (setBits w.toNat 27 24 (statusCode .uncorrectable)) 23 20 media) :: ws
      | _ => (fmCmd (.ring (BitVec.ofNat 6 set) (BitVec.ofNat 32 index) c.words [])).response .media .uncorrectable false 0
          (m.refOf (fmCmd (.ring (BitVec.ofNat 6 set) (BitVec.ofNat 32 index) c.words [])).main) []
    let left := m.jnk.reqs.filter fun (r : JnkReq) => r.why != JnkWhy.cmdData set index && r.why != JnkWhy.caddr set index
    let m1 := { m with jnk := { m.jnk with reqs := left } }
    (m1.dropTaken set index).writeCompletion set index ws

/-- CMP, 15 R404: a write of the module is visible. -/
def execCmp (tag : BitVec 12) (s : State) : Host.Outcome State Fault Refusal :=
  s.runM fun _ m =>
    if !m.awake || !m.jnkUp then m
    else
      match m.answered tag.toNat with
      | (some r, a) =>
        match r.why with
        | .record set evt _ last =>
          if last then
            let g := a.ring set
            a.setRing { g with unsignalled := modNth (fun o => some (o.getD a.advNs)) (b2n evt) g.unsignalled }
          else a
        | .cmdData set i => a.cmdWritten set i
        | .audit _ => a
        | _ => m
      | (none, _) => m

/-- A command-ring descriptor has come (15 R405): a WRITE reads its data; an OPC of neither kind is refused with FIELD; the
others wait for their commands. -/
def Mach.cmdDesc (m : Mach) (st : Store) (set index : Nat) (ws : List Word) : Mach :=
  let m1 := { m with jnk := { m.jnk with
    taken := modFirst (fun x => x.set == set && x.index == index) (fun x => { x with words := ws }) m.jnk.taken } }
  let c := fmCmd (.ring (BitVec.ofNat 6 set) (BitVec.ofNat 32 index) ws [])
  let opc := c.w 0 / 2 ^ 28
  if 7 ≤ opc && opc ≤ 14 then (m1.fmEarly st c).getD m1
  else if opc = 4 && (m1.fmEarly st c).isNone then
    (List.range c.lines).foldl (fun a j => a.jnkReq 1 (c.caddr + 64 * j) [] (.caddr set index)) m1
  else m1

/-- The opcodes of table-update commands (15 R410). -/
def tuOpcodes : List Nat := [0x01, 0x02, 0x03, 0x04, 0x10, 0x11, 0x12, 0x13, 0x18, 0x20, 0x21, 0x28, 0x30, 0x38]

/-- A table-update descriptor has come (15 R409, R410): an OPC not listed is refused, and so is data at a SRC that is not 64-byte
aligned or lies in the module's own windows (R394, log 37); a command with data reads it from SRC, which one request stands for
(log 37); the others wait for their commands. -/
def Mach.tuDesc (m : Mach) (index : Nat) (ws : List Word) : Mach :=
  let x := tuDescOf ws
  let len := x.2.len.toNat
  let src := x.2.src.toNat
  if !tuOpcodes.contains x.1 || (len ≠ 0 && (src % 64 ≠ 0 || m.ownWindow src len)) then
    m.tuDone x.1 x.2 .noSlot (reasonCode .badEntry) 0
  else
    let m1 := { m with jnk := { m.jnk with tu := some ⟨index, ws, len == 0⟩ } }
    if len = 0 then m1 else m1.jnkReq 1 src [] (.tuData index)

/-- CMP_D, 15 R391: descriptor or CADDR data; a POISONed descriptor halts its ring with cause 1 (17 R454). -/
def execCmpD (tag : BitVec 12) (poison : Bool) (data : List Byte) (s : State) : Host.Outcome State Fault Refusal :=
  s.runM fun st m =>
    if !m.awake || !m.jnkUp then m
    else
      match m.answered tag.toNat with
      | (some r, a) =>
        match r.why with
        | .desc set i =>
          if poison then a.ringStop set 0 .errRsp i r.addr
          else if set = 64 then a.tuDesc i (bytesWords (data.take 64))
          else a.cmdDesc st set i (bytesWords ((data ++ List.replicate 64 0).take 64))
        | .caddr set i => if poison then a.cmdFail set i else a
        | .tuData i => if poison then a.ringStop 64 0 .errRsp i r.addr else
            { a with jnk := { a.jnk with tu := a.jnk.tu.map fun t => { t with ready := true } } }
        | _ => m
      | (none, _) => m

/-- CMP_S, 15 R400: a doorbell line, held shared. -/
def execCmpS (tag : BitVec 12) (poison : Bool) (data : List Byte) (s : State) : Host.Outcome State Fault Refusal :=
  s.runM fun _ m =>
    if !m.awake || !m.jnkUp then m
    else
      match m.answered tag.toNat with
      | (some r, a) =>
        match r.why with
        | .doorbell set =>
          if poison then a.ringStop set 0 .errRsp 0 r.addr else a.doorbellSeen set (bytesWords (data.take 16))
        | _ => m
      | (none, _) => m

/-- The snoop fault of 15 R396 is over once no snoop is overdue: the answer releases its pin. -/
def Mach.snoopDone (m : Mach) (r : JnkReq) (line : Nat) : Mach :=
  let m1 := if r.opc = 0x10 then m.letGo line else { m with jnk := { m.jnk with
    held := m.jnk.held.map fun h => if h.1 == line then (h.1, false) else h } }
  m1.dropPins fun p => p.group == 29

/-- SNP_ACK, 07 R207: a recalled line had no modified data. -/
def execSnpAck (tag : BitVec 12) (s : State) : Host.Outcome State Fault Refusal :=
  s.runM fun st m =>
    if !m.awake || !m.jnkUp then m
    else
      match m.answered tag.toNat with
      | (some r, a) =>
        match r.why with
        | .snoop line => (a.snoopDone r line).serveReads st
        | _ => m
      | (none, _) => m

/-- SNP_RSPD, 07 R207: the modified data of a recalled line is written. -/
def execSnpRspd (tag : BitVec 12) (data : List Byte) (s : State) : Host.Outcome State Fault Refusal :=
  s.runMS fun st m =>
    if !m.awake || !m.jnkUp then (m, st)
    else
      match m.answered tag.toNat with
      | (some r, a) =>
        match r.why with
        | .snoop line =>
          let st1 := { st with hbm := sputs zeroCell st.hbm (64 * line) (data.take 64) }
          (((a.snoopDone r line).hbmWrote 15 (64 * line) 64).serveReads st1, st1)
        | _ => (m, st)
      | (none, _) => (m, st)

/-- A module request has failed, by ERR or for want of an answer (15 R396, R419): its ring halts, its command ends, or its
snoop raises FC2 and is repeated. -/
def Mach.reqFailed (m : Mach) (r : JnkReq) (c : RingCause) : Mach :=
  match r.why with
  | .doorbell set => m.ringStop set 0 c 0 r.addr
  | .desc set i => m.ringStop set 0 c i r.addr
  | .tuData i => m.ringStop 64 0 c i r.addr
  | .record set evt i _ => m.ringStop set (if evt then 2 else 1) c i r.addr
  | .cmdData set i => m.cmdFail set i
  | .caddr set i => m.cmdFail set i
  | .snoop line => (m.raisePin 29 2 0 0x10).snoop r.opc [line]
  | .audit _ => m

/-- ERR, 15 R419. -/
def execJnkErr (tag : BitVec 12) (s : State) : Host.Outcome State Fault Refusal :=
  s.runM fun _ m =>
    if !m.awake || !m.jnkUp then m
    else
      match m.answered tag.toNat with
      | (some r, a) => (a.count Reg.JNK_ERR_RSP_CNT).reqFailed r .errRsp
      | (none, _) => m

/-- An unanswered request is overdue after JNK_TIMEOUT (15 R396); 0 is taken as 1 (R420). -/
def Mach.overdue (m : Mach) (tag : Nat) : Bool :=
  (m.jnk.reqs.find? fun r => r.tag == tag).any fun r => decide (r.at_ + 1000 * max 1 (m.fld Reg.JNK_TIMEOUT 15 0) ≤ m.aon)

/-- JNK_TIMEOUT, 15 R396: of a request that is overdue. -/
def execJnkTimeout (tag : BitVec 12) (s : State) : Host.Outcome State Fault Refusal :=
  s.runM fun _ m =>
    if !m.awake || !m.overdue tag.toNat then m
    else
      match m.answered tag.toNat with
      | (some r, a) => (a.count Reg.JNK_TIMEOUT_CNT).reqFailed r .timeout
      | (none, _) => m

/-! ### The link (15 R386, R397) -/

/-- The Jionuk link goes down: every enabled ring halts with cause LINK, and what cannot be written is discarded. -/
def Mach.jnkDown (m : Mach) : Mach :=
  if !m.jnkUp then m
  else
    let m1 := ((m.setFlag Reg.JNK_STATUS 31 false).setFld Reg.JNK_STATUS 20 0 0).count Reg.JNK_LINK_DOWN_CNT
    let m2 := (((List.range 65).reverse.filter m1.ringOpen).foldl (fun a k => a.ringStop k 0 .link 0 0)) m1
    { m2.countN Reg.RNG_DISCARD_CNT m2.jnk.reports.length with jnk := { m2.jnk with reports := [] } }

/-- JNK_LINK_DOWN, 15 R397. -/
def execJnkLinkDown (s : State) : Host.Outcome State Fault Refusal :=
  s.runM fun _ m => m.jnkDown

/-- JNK_LINK_UP, 15 R386: 16 lanes, or lanes 0 to 7 or 8 to 15; `half` 3 names no width. The PHY first trains in stage B1 (19 R481), and
in a halt the link is up only when B1 has passed (19 R485). -/
def execJnkLinkUp (half : BitVec 2) (s : State) : Host.Outcome State Fault Refusal :=
  s.runM fun _ m =>
    if m.boot.resetN || m.boot.warmN || m.pwr.lost || 2 ≤ m.mstate || half = 3 || m.stage < 1 || (m.halted && m.stage < 2) then m
    else ({ m with jnk := { m.jnk with txSeq := 0 } }.setFlag Reg.JNK_STATUS 31 true).setFld Reg.JNK_STATUS 20 0 ((if half = 0 then 16 else 8) * 2 ^ 16 + half.toNat)

/-! ### Taking commands and interrupts (15 R403, R407, R411) -/

/-- A GAL_RESET of the gallery waits. -/
def Mach.resetParked (m : Mach) (g : Nat) : Bool := m.jnk.parked.any fun w => w.opc == 0x38 && w.desc.gallery.toNat == g

/-- DESC_TAKE, 15 R407: the next descriptor of an open command ring is fetched, when the one before has come, fewer than 256
commands are incomplete and its completion will have room. -/
def execDescTake (set : BitVec 6) (s : State) : Host.Outcome State Fault Refusal :=
  s.runM fun _ m => m.whenRunning fun m =>
    let k := set.toNat
    let r := m.ring k
    let i := (m.rd (ringReg k 0x30)).toNat
    let mine := m.jnk.taken.filter fun c => c.set == k
    let unread := ahead (m.rd (ringReg k 0x34)).toNat r.cplCons
    if !m.ringOpen k || !m.jnkUp || i = r.prod || 256 ≤ mine.length || m.ringSize k 1 < mine.length + unread + 1 ||
      m.flt.galFences.contains k || m.resetParked k || mine.any (fun c => c.words.isEmpty || c.index == i) then m
    else
      let m1 := m.wr (ringReg k 0x30) (BitVec.ofNat 32 (i + 1))
      Mach.jnkReq { m1 with jnk := { m1.jnk with taken := m1.jnk.taken ++ [{ set := k, index := i }] } } 1
        (m.rd64 (ringReg k 0x10) (ringReg k 0x14) + 64 * (i % m.ringSize k 0)) [] (.desc k i)

/-- RNG_HOLDOFF has passed since the CMP of a ring's first unsignalled entry (15 R403). -/
def Mach.heldOff (m : Mach) (set f : Nat) : Bool :=
  ((m.ring set).unsignalled.getD f none).any fun t => decide (t + 64 * m.fld (ringReg set 0x0C) 15 0 ≤ m.advNs)

/-- INT, 15 R403: a ring's vector, when it is armed, an entry has stood unsignalled for RNG_HOLDOFF and no INT has gone since the
doorbell was observed. -/
def execJnkInt (set : BitVec 7) (evt : Bool) (s : State) : Host.Outcome State Fault Refusal :=
  s.runM fun _ m =>
    let k := set.toNat
    let f := b2n evt
    let r := m.ring k
    if !m.awake || 64 < k || !m.jnkUp || !m.ringEn k || !m.heldOff k f || r.intSent.getD f false || !bitOf r.arm f
    then m
    else
      (m.setRing { r with intSent := modNth (fun _ => true) f r.intSent,
                          unsignalled := modNth (fun _ => none) f r.unsignalled }).sendJnk
        { opc := 0x0A, tag := 0, addr := 0, value := m.fld (ringReg k 8) (16 * f + 15) (16 * f) }

/-- PROG_START, 15 R405: the program queues on its core, or its completion says why not. -/
def execProgStart (set : BitVec 6) (index : Word) (words : List Word) (s : State) : Host.Outcome State Fault Refusal :=
  s.runM fun _ m => m.whenRunning fun m =>
    let w (i : Nat) : Nat := (words.getD i 0).toNat
    let tag := w 0 % 65536
    if (m.taken? set.toNat index.toNat).map (·.words) ≠ some words || bits (w 0) 31 28 ≠ 0xF then m
    else
      let start : Start := { entry := w 1 % 32768, gallery := set.toNat, scrBase := w 2 % 2 ^ 17, scrLimit := w 3 % 2 ^ 17,
                             hbmBase := w 4 % 2 ^ 31, hbmLimit := w 5 % 2 ^ 31,
                             regs := (List.range 8).map fun i => (i + 1, words.getD (8 + i) 0)
                             cmd := some (set.toNat, index.toNat, tag) }
      match m.queueStart (bits (w 0) 20 16) start with
      | (none, a) => a
      | (some r, _) => m.startRefused start .noSlot r

end Sys2Proof.Machine
end

