-- ==== Sys2Proof/Machine/Sm2.lean ====
section
/-! DEFINITION. Sm2.lean: SM2 signatures with SM3 on the recommended curve of GB/T 32918 (10 R281, 20 R504; the standard
itself is outside the spec: log 7), and the unit's own key and UNIT_ID (20 R505). -/
namespace Sys2Proof.Machine

/-- The field prime. -/
def sm2P : Nat := 0xFFFFFFFEFFFFFFFFFFFFFFFFFFFFFFFFFFFFFFFF00000000FFFFFFFFFFFFFFFF
/-- Curve coefficient a. -/
def sm2A : Nat := 0xFFFFFFFEFFFFFFFFFFFFFFFFFFFFFFFFFFFFFFFF00000000FFFFFFFFFFFFFFFC
/-- Curve coefficient b. -/
def sm2B : Nat := 0x28E9FA9E9D9F5E344D5A9E4BCF6509A7F39789F515AB8F92DDBCBD414D940E93
/-- Order of the base point. -/
def sm2N : Nat := 0xFFFFFFFEFFFFFFFFFFFFFFFFFFFFFFFF7203DF6B21C6052B53BBF40939D54123
/-- Base point, x. -/
def sm2Gx : Nat := 0x32C4AE2C1F1981195F9904466A39C9948FE30BBFF2660BE1715A4589334C74C7
/-- Base point, y. -/
def sm2Gy : Nat := 0xBC3736A2F4F6779C59BDCEE36B692153D0A9877CC62A474002DF32E52139F0A0

/-- `b ^ e mod m` over the low `k` bits of e, most significant first. -/
def powMod (m b e : Nat) : Nat → Nat → Nat
  | 0, acc => acc
  | k + 1, acc =>
    let sq := acc * acc % m
    powMod m b e k (if bitOf e k then sq * b % m else sq)

/-- Inverse modulo a prime m of at most 256 bits. -/
def invMod (m x : Nat) : Nat := powMod m (x % m) (m - 2) 256 1

/-- A point of the curve; none is the point at infinity. -/
abbrev Point := Option (Nat × Nat)

/-- Sum of two points. -/
def ptAdd (p q : Point) : Point :=
  match p, q with
  | none, _ => q
  | _, none => p
  | some (x1, y1), some (x2, y2) =>
    if x1 = x2 && (y1 + y2) % sm2P = 0 then none
    else
      let l := if x1 = x2 then (3 * x1 * x1 + sm2A) * invMod sm2P (2 * y1) % sm2P
        else (y2 + sm2P - y1) * invMod sm2P (x2 + sm2P - x1) % sm2P
      let x3 := (l * l + 2 * sm2P - x1 - x2) % sm2P
      some (x3, (l * (x1 + sm2P - x3) + sm2P - y1) % sm2P)

/-- Multiple of a point by the low `n` bits of k, most significant first. -/
def ptMul (k : Nat) (p : Point) : Nat → Point → Point
  | 0, acc => acc
  | n + 1, acc =>
    let d := ptAdd acc acc
    ptMul k p n (if bitOf k n then ptAdd d p else d)

/-- The base point. -/
def sm2G : Point := some (sm2Gx, sm2Gy)

/-- Scalar multiple. -/
def sm2Mul (k : Nat) (p : Point) : Point := ptMul k p 256 none

/-- Big-endian bytes of a number. -/
def beBytes (n x : Nat) : List Byte := (leBytes n x).reverse

/-- The number of a big-endian byte string. -/
def beNat (b : List Byte) : Nat := leNat b.reverse

/-- A public key as x ‖ y, 64 bytes big-endian (10 R278). -/
def keyBytes (p : Point) : List Byte := match p with
  | some (x, y) => beBytes 32 x ++ beBytes 32 y
  | none => List.replicate 64 0

/-- The digest that SM2 signs: SM3 over Z of the signer and the message. -/
def sm2Digest (key id msg : List Byte) : Nat :=
  let z := sm3 (beBytes 2 (8 * id.length) ++ id ++ beBytes 32 sm2A ++ beBytes 32 sm2B ++ beBytes 32 sm2Gx ++
    beBytes 32 sm2Gy ++ key)
  beNat (sm3 (z ++ msg))

/-- A point given by its coordinates lies on the curve. -/
def onCurve (x y : Nat) : Bool :=
  decide (x < sm2P) && decide (y < sm2P) && (y * y % sm2P == (x * x * x + sm2A * x + sm2B) % sm2P)

/-- Verify a signature r ‖ s over a message under a key x ‖ y and a user identity. -/
def sm2Verify (key id msg sig : List Byte) : Bool :=
  let x := beNat (key.take 32)
  let y := beNat (key.drop 32)
  let r := beNat (sig.take 32)
  let s := beNat (sig.drop 32)
  let t := (r + s) % sm2N
  onCurve x y && decide (0 < r) && decide (r < sm2N) && decide (0 < s) && decide (s < sm2N) && t != 0 &&
    (match ptAdd (sm2Mul s sm2G) (sm2Mul t (some (x, y))) with
    | some (x1, _) => (sm2Digest key id msg + x1) % sm2N == r
    | none => false)

/-- The module's public key (20 R504). -/
def unitKey : List Byte := keyBytes (sm2Mul Config.sm2Key sm2G)

/-- The module's UNIT_ID, the first 16 bytes of SM3 over its public key (20 R505). -/
def unitId : List Byte := (sm3 unitKey).take 16

/-- Sign a message with the module's key and a nonce k. -/
def sm2Sign (k : Nat) (msg : List Byte) : List Byte :=
  let x1 := match sm2Mul k sm2G with
    | some (x, _) => x
    | none => 0
  let r := (sm2Digest unitKey unitId msg + x1) % sm2N
  let d := Config.sm2Key
  let s := invMod sm2N (1 + d) * (k + sm2N - r * d % sm2N) % sm2N
  beBytes 32 r ++ beBytes 32 s

end Sys2Proof.Machine
end

