-- ==== Sys2Proof/Machine/Time.lean ====
section
/-! DEFINITION. Time.lean: fabric time and the step calendar of 09. -/
namespace Sys2Proof.Machine

/-! ### The calendar (09 R250 to R256) -/

/-- Word `w` (0 or 1) of entry `i` of a calendar bank. -/
def Mach.calWord (m : Mach) (bank i w : Nat) : Nat :=
  (m.rd (if bank = 0 then Reg.TIM_CAL_BANK0 (2 * i + w) else Reg.TIM_CAL_BANK1 (2 * i + w))).toNat

/-- ACTIVE. -/
def Mach.calActive (m : Mach) : Nat := m.fld Reg.TIM_CAL_CTL 29 29
/-- ACT_COUNT. -/
def Mach.actCount (m : Mach) : Nat := m.fld Reg.TIM_CAL_CTL 25 13
/-- DURATION of an entry of the active bank. -/
def Mach.calDur (m : Mach) (i : Nat) : Nat := m.calWord m.calActive i 0 / 256

/-- Cycle length L (09 R251). -/
def Mach.calLen (m : Mach) : Nat := sumOf m.calDur (List.range m.actCount)

/-- The calendar runs entries: EN, a cycle, NS not before the base, and no fault in the active bank (09 R251, 17 R454). -/
def Mach.calRuns (m : Mach) : Bool :=
  m.flag Reg.TIM_CAL_CTL 31 && m.actCount != 0 && decide (m.time.base ≤ m.now) && m.calLen != 0 &&
    !m.fencedTable (.calendar m.calActive)

/-- The entry that holds a phase, from entry `i` on, with the ns left in it. -/
def Mach.entryAt (m : Mach) : Nat → Nat → Nat → Nat × Nat
  | 0, i, _ => (i, 0)
  | n + 1, i, ph => if ph < m.calDur i then (i, m.calDur i - ph) else Mach.entryAt m n (i + 1) (ph - m.calDur i)

/-- The running entry and the ns left in it (09 R251). -/
def Mach.runningEntry (m : Mach) : Option (Nat × Nat) :=
  if m.calRuns then some (m.entryAt m.actCount 0 ((m.now - m.time.base) % m.calLen)) else none

/-- A permission bit of word 4 holds now: 31 REFRESH, 30 CAL, 29 BIST (09 R251, R253). -/
def Mach.calPermits (m : Mach) (bit : Nat) : Bool :=
  match m.runningEntry with
  | some (i, _) => bitOf (m.calWord m.calActive i 1) bit
  | none => true

/-- A calendar: its bank, its entry count, its base (09 R251). -/
structure Cal where
  bank : Nat
  count : Nat
  base : Nat

/-- The calendar in force. -/
def Mach.cal (m : Mach) : Cal := ⟨m.calActive, m.actCount, m.time.base⟩

/-- The calendar of a bank has a cycle: EN, entries with a length, and no fault in the bank (09 R251, R255, 17 R454). -/
def Mach.hasCycle (m : Mach) (c : Cal) : Bool :=
  m.flag Reg.TIM_CAL_CTL 31 && c.count != 0 && sumOf (fun i => m.calWord c.bank i 0 / 256) (List.range c.count) != 0 &&
    !m.fencedTable (.calendar c.bank)

/-- From `ph` ns into entry `i`, VC v stays open for `need` ns through the following entries (09 R252). -/
def Mach.openFor (m : Mach) (c : Cal) (v need : Nat) : Nat → Nat → Nat → Bool
  | 0, _, _ => true
  | n + 1, i, ph =>
    let dur := m.calWord c.bank i 0 / 256
    if dur ≤ ph then Mach.openFor m c v need n ((i + 1) % c.count) (ph - dur)
    else
      (decide (v < 2) || bitOf (m.calWord c.bank i 0) v) &&
        (decide (need ≤ dur - ph) || Mach.openFor m c v (need - (dur - ph)) n ((i + 1) % c.count) 0)

/-- Under one calendar, VC v is open from fabric time `t` for `need` ns: before the base it is, and one whole cycle open is open
for ever (09 R251, R252). -/
def Mach.openUnder (m : Mach) (c : Cal) (v t need : Nat) : Bool :=
  if need = 0 || !m.hasCycle c || t + need ≤ c.base then true
  else
    let from_ := max t c.base
    let len := sumOf (fun i => m.calWord c.bank i 0 / 256) (List.range c.count)
    m.openFor c v (t + need - from_) (2 * c.count + 2) 0 ((from_ - c.base) % len)

/-- When an armed switch takes effect: at the first cycle boundary of the bank in force at or after the switch time, or at the
switch time when that bank has no cycle (09 R254, R255). -/
def Mach.switchNs (m : Mach) (a : CalArm) : Nat :=
  let s := max a.switchAt a.armedAt
  if !m.hasCycle m.cal then s
  else if s ≤ m.time.base then m.time.base
  else m.time.base + (s - m.time.base + m.calLen - 1) / m.calLen * m.calLen

/-- VC v is open from fabric time `t` for `need` ns, across an armed switch of banks (09 R252, R254). -/
def Mach.openFrom (m : Mach) (v t need : Nat) : Bool :=
  match m.time.arm with
  | some a =>
    let n := min need (m.switchNs a - t)
    m.openUnder m.cal v t n && m.openUnder ⟨1 - m.calActive, a.count, a.base⟩ v (t + n) (need - n)
  | none => m.openUnder m.cal v t need

/-- Where a step takes fabric time from `t` ns. -/
def HeldStep.apply (h : HeldStep) (t : Nat) : Nat :=
  match h with
  | .set ns => ns % 2 ^ 64
  | .offset u => ((t : Int) + u / (nsUnit : Int)).toNat

/-- VC v is open for the next `need` ns, across the end of the running entry at which a held step applies (09 R248, R252). -/
def Mach.vcOpenFor (m : Mach) (v need : Nat) : Bool :=
  match m.time.held with
  | some h =>
    let n := min need (m.time.heldEnd - m.now)
    m.openFrom v m.now n && m.openFrom v (h.apply (m.now + n)) (need - n)
  | none => m.openFrom v m.now need

/-! ### Events and steps (09 R239, R241, R248, R257) -/

/-- TIME_STATE or CAL_MARK. -/
def Mach.timeEvent (m : Mach) (type old new cause entry bank : Nat) (off : Int) : Mach :=
  let o := max (-(2 : Int) ^ 31 + 1) (min ((2 : Int) ^ 31 - 1) off)
  m.modEvent type noFault [old * 2 ^ 30 + new * 2 ^ 28 + cause * 2 ^ 25 + entry * 2 ^ 13 + bank * 2 ^ 12, tcBits 32 o,
    m.now % 2 ^ 32, m.now / 2 ^ 32, 0]

/-- STATE of the time function (09 R239). -/
def Mach.timState (m : Mach) : Nat := m.fld Reg.TIM_STATUS 1 0

/-- Move to a state; a transition raises TIME_STATE. -/
def Mach.timGo (m : Mach) (new cause : Nat) (off : Int) : Mach :=
  if m.timState = new then m
  else ((m.setFld Reg.TIM_STATUS 1 0 new)).timeEvent 0x12 m.timState new cause 0 0 off

/-- Apply a step now (09 R241): counted, and a TIME_STATE event with cause STEP. -/
def Mach.stepNow (m : Mach) (h : HeldStep) : Mach :=
  let acc : Nat := match h with
    | .set ns => ns % 2 ^ 64 * nsUnit
    | .offset u => ((m.time.acc : Int) + u).toNat
  let off : Int := ((acc / nsUnit : Nat) : Int) - ((m.time.acc / nsUnit : Nat) : Int)
  let m1 := { m with time := { m.time with acc := acc, held := none } }
  ((m1.setFlag Reg.TIM_STATUS 2 false).countWrap Reg.DGT_TEV_TIME).timeEvent 0x12 m.timState m.timState 3 0 0 off

/-- A step: applied at once while no entry runs, else held, replacing one that is held (09 R248). -/
def Mach.timStep (m : Mach) (h : HeldStep) : Mach :=
  match m.runningEntry with
  | none => m.stepNow h
  | some (_, left) => { m.setFlag Reg.TIM_STATUS 2 true with
      time := { m.time with held := some h, heldEnd := if m.time.held.isSome then m.time.heldEnd else m.now + left } }

/-- A held step applies when the calendar has stopped running an entry (09 R248). -/
def Mach.releaseStep (m : Mach) : Mach :=
  match m.time.held with
  | some h => if m.runningEntry.isNone then m.stepNow h else m
  | none => m

/-! ### Discipline (09 R239 to R242) -/

/-- A slew: ADJ takes a value that the spec bounds by SLEW_PPM and does not state (09 R241, log 29). -/
def Mach.slew (m : Mach) : Mach :=
  let ppm := min 500 (max 1 (m.fld Reg.TIM_LIMITS 22 14))
  let d := m.draw 32
  d.2.wr Reg.TIM_ADJ (BitVec.ofInt 32 ((d.1 % (2 * ppm * 65536 + 1) : Nat) - ((ppm * 65536 : Nat) : Int)))

/-- An offset measurement in accumulator units (09 R239, R241, R242). -/
def Mach.measure (m : Mach) (u : Int) : Mach :=
  let ns := u / (nsUnit : Int)
  let near := decide (u.natAbs ≤ 50 * nsUnit)
  let locked := if near then min 8 (m.time.locked + 1) else 0
  let m1 := { m with time := { m.time with locked, measured := true, lost := false, heard := m.advNs } }
  let m2 := if m.time.lost then m1.countWrap Reg.DGT_TEV_TIME else m1
  let m3 := if u.natAbs ≤ m.fld Reg.TIM_LIMITS 13 0 * nsUnit then m2.slew else m2.timStep (.offset u)
  let s := m.timState
  if s = 3 then m3.timGo 1 2 ns
  else if locked = 8 then m3.timGo 2 0 ns
  else
    let d := m3.draw 3
    if s = 1 then m3 else d.2.timGo 1 d.1 ns

/-- A write of TIM_CTL (09 R239 to R241): a change of source, and SET. -/
def Mach.timCtl (m : Mach) (value : Nat) : Mach :=
  let m1 := m.writeRw Reg.TIM_CTL 0x07FF07FF value
  let src := m1.fld Reg.TIM_CTL 1 0
  let same := src == m.fld Reg.TIM_CTL 1 0 && (src != 2 || m1.fld Reg.TIM_CTL 10 2 == m.fld Reg.TIM_CTL 10 2)
  let m2 :=
    if same then m1
    else
      let a := { m1 with time := { m1.time with locked := 0, lost := false, heard := m1.advNs } }
      let d := a.draw 3
      if src = 0 then (d.2.wr Reg.TIM_ADJ 0).timGo 0 d.1 0
      else if m.time.measured then d.2.timGo 1 d.1 0 else a
  if bitOf value 31 then m2.timStep (.set (m2.rd64 Reg.TIM_SET_NS_LO Reg.TIM_SET_NS_HI)) else m2

/-- TIM_CTL.SET, 09 R241: a write of the register. -/
def execTimSet (value : Word) (s : State) : Host.Outcome State Fault Refusal :=
  s.runM fun _ m => m.regCmd Reg.TIM_CTL fun m => m.timCtl value.toNat

/-- A read of TIM_NOW_NS_LO latches the high word and the fraction (09 R238). -/
def Mach.latchNow (m : Mach) : Mach :=
  (m.wr Reg.TIM_NOW_NS_HI (BitVec.ofNat 32 (m.now / 2 ^ 32))).wr Reg.TIM_NOW_FRAC (BitVec.ofNat 32 m.frac)

/-- TIM_NOW_READ, 09 R238. -/
def execTimNowRead (s : State) : Host.Outcome State Fault Refusal :=
  s.runM fun _ m => if m.awake && m.access Reg.TIM_NOW_NS_LO = .live then m.latchNow else m

/-- A write of TIM_PPS_SEC (09 R240). -/
def Mach.ppsSec (m : Mach) (value : Nat) : Mach :=
  match m.time.lastPps with
  | some p => if value = (p + 1) % 2 ^ 32 then
      { m.wr Reg.TIM_PPS_SEC (BitVec.ofNat 32 value) with time := { m.time with lastPps := some value } }
    else m.count Reg.TIM_ERR_CNT
  | none => { m.wr Reg.TIM_PPS_SEC (BitVec.ofNat 32 value) with time := { m.time with lastPps := some value } }

/-- TIM_PPS_SEC_WRITE, 09 R240. -/
def execTimPpsSecWrite (value : Word) (s : State) : Host.Outcome State Fault Refusal :=
  s.runM fun _ m => m.regCmd Reg.TIM_PPS_SEC fun m => m.ppsSec value.toNat

/-- PPS_EDGE, 09 R240: with source 1, a second boundary; the bits above TIM_PPS_SEC are those of the local second. -/
def execPpsEdge (s : State) : Host.Outcome State Fault Refusal :=
  s.runM fun _ m => m.whenRunning fun m =>
    if m.fld Reg.TIM_CTL 1 0 ≠ 1 then m
    else
      let sec := m.now / 10 ^ 9 / 2 ^ 32 * 2 ^ 32 + (m.rd Reg.TIM_PPS_SEC).toNat
      m.measure (((sec * 10 ^ 9 * nsUnit : Nat) : Int) - (m.time.acc : Int))

/-- The source is lost (09 R242): HOLDOVER from LOCKED, ACQUIRE from any other state. -/
def Mach.sourceLost (m : Mach) : Mach :=
  if m.time.lost then m
  else
    let m1 := { m with time := { m.time with lost := true, locked := 0 } }.countWrap Reg.DGT_TEV_TIME
    m1.timGo (if m.timState = 2 then 3 else 1) 1 0

/-- The source has been silent for too long: 1.5 s without an edge of PPS_IN, or four Sync intervals without a valid Sync, of the
clock's advance (09 R242). -/
def Mach.sourceSilent (m : Mach) : Bool :=
  let t := m.advNs - m.time.heard
  let src := m.fld Reg.TIM_CTL 1 0
  (src == 1 && decide (1500000000 ≤ t)) || (src == 2 && decide (4 * 10 ^ 9 ≤ t * 2 ^ m.fld Reg.TIM_CTL 26 24))

/-- SOURCE_LOSS, 09 R242. -/
def execSourceLoss (s : State) : Host.Outcome State Fault Refusal :=
  s.runM fun _ m => m.whenRunning fun m => if m.sourceSilent then m.sourceLost else m

/-! ### IEEE 1588 messages (09 R243 to R246) -/

/-- A port carries time: UP, DEGRADED or QUARANTINE (09 R246). -/
def Mach.timePort (m : Mach) (f : Nat) : Bool :=
  match m.port? f with
  | some p => p.usable || p.state == .quarantine
  | none => false

/-- The source port with source 2. -/
def Mach.isSource (m : Mach) (f : Nat) : Bool := m.fld Reg.TIM_CTL 1 0 == 2 && m.fld Reg.TIM_CTL 10 2 == f

/-- The port is a master port (09 R246). -/
def Mach.isMaster (m : Mach) (f : Nat) : Bool := m.flag (Reg.TIM_MASTER_W (f / 32)) (f % 32)

/-- The usable source port with source 2. -/
def Mach.sourcePort (m : Mach) (f : Nat) : Bool :=
  m.isSource f && (match m.port? f with
    | some p => p.usable
    | none => false)

/-- A 1588 message in the layout of IEEE 1588-2019 (PRESUMED, log 30): its type, correctionField, sequence, logMessageInterval, time
in ns and what follows it, one-step (twoStepFlag 0). The fields of the common header that the spec does not state are free. -/
def Mach.ptpMessage (m : Mach) (port type corr seq : Nat) (log : Int) (ns : Nat) (tail : List Byte) : List Byte × Mach :=
  let be (n x : Nat) : List Byte := (leBytes n x).reverse
  let d := m.draw 64
  let body := be 6 (ns / 10 ^ 9) ++ be 4 (ns % 10 ^ 9) ++ tail
  ([BitVec.ofNat 8 (0x50 + type), BitVec.ofNat 8 (d.1 % 16 * 16 + 2)] ++ be 2 (34 + body.length) ++
    be 1 (m.fld Reg.TIM_CTL 23 16) ++ be 1 0x31 ++ be 2 (setBits (d.1 / 16 % 2 ^ 16) 9 9 0) ++ be 8 corr ++ be 4 (d.1 / 2 ^ 20) ++
    be 8 Config.clockIdentity.toNat ++ be 2 port ++ be 2 seq ++ be 1 (d.1 / 2 ^ 52) ++ be 1 (tcBits 8 log) ++ body, d.2)

/-- Send a TIME packet on a port (09 R244). -/
def Mach.sendTime (m : Mach) (f : Nat) (msg : List Byte) : Mach :=
  m.toPort f { type := 3, vc := 1, epoch := m.sw.stamp, gallery := 0, length := BitVec.ofNat 13 msg.length, dest := 0xFFF6,
               src := 0xFFF6, payload := msg } none false false true

/-- domainNumber and sdoId are those of the profile (09 R243). -/
def Mach.ptpMine (m : Mach) (domain : Byte) (sdo : BitVec 12) : Bool :=
  domain.toNat == m.fld Reg.TIM_CTL 23 16 && sdo == 0x531

/-- SYNC, 09 R243: an origin time with its correction in 2^-16 ns; the measurement needs the port's peer delay. -/
def execSync (port : BitVec 9) (domain : Byte) (sdo : BitVec 12) (sec : BitVec 48) (ns : Word) (corr : Quad)
    (replayed : Bool) (s : State) : Host.Outcome State Fault Refusal :=
  s.runM fun _ m => m.whenRunning fun m =>
    let f := port.toNat
    if !m.timePort f then m
    else if replayed || !m.isSource f then m.count Reg.TIM_ERR_CNT
    else if !m.ptpMine domain sdo || !m.sourcePort f then m
    else
      match m.time.peerDelay.find? fun d => d.1 == f with
      | none => m
      | some (_, d) =>
        let origin : Int := ((sec.toNat * 10 ^ 9 + ns.toNat) * nsUnit : Nat) + corr.toInt * 1000000
        m.measure (origin + d - (m.time.acc : Int))

/-- PDELAY_REQ, 09 R246: answered with a one-step Pdelay_Resp, whose turnaround is a free value and whose
logMessageInterval is the 127 of IEEE 1588-2019 (PRESUMED, log 30). -/
def execPdelayReq (port : BitVec 9) (domain : Byte) (sdo : BitVec 12) (seq : BitVec 16) (identity : BitVec 80)
    (replayed : Bool) (s : State) : Host.Outcome State Fault Refusal :=
  s.runM fun _ m => m.whenRunning fun m =>
    if !m.timePort port.toNat then m
    else if replayed then m.count Reg.TIM_ERR_CNT
    else if !m.ptpMine domain sdo then m
    else
      let c := m.draw 64
      let r := c.2.ptpMessage port.toNat 3 c.1 seq.toNat 127 0 (leBytes 10 identity.toNat).reverse
      r.2.sendTime port.toNat r.1

/-- PDELAY_RESP, 09 R243: half of the round trip less the turnaround is the port's peer delay. -/
def execPdelayResp (port : BitVec 9) (domain : Byte) (sdo : BitVec 12) (corr : Quad) (replayed : Bool) (s : State) :
    Host.Outcome State Fault Refusal :=
  s.runM fun _ m => m.whenRunning fun m =>
    let f := port.toNat
    if !m.timePort f then m
    else if replayed then m.count Reg.TIM_ERR_CNT
    else if !m.ptpMine domain sdo then m
    else
      match m.time.pdelaySent.find? fun d => d.1 == f with
      | none => m
      | some (_, t) =>
        let d : Int := (((m.time.acc : Int) - (t : Int)) - corr.toInt * 1000000) / 2
        { m with time := { m.time with
          peerDelay := (f, d) :: m.time.peerDelay.filter fun x => x.1 != f,
          pdelaySent := m.time.pdelaySent.filter fun x => x.1 != f } }

/-- SYNC_SEND, 09 R246: Sync on a master port that is not the source port. -/
def execSyncSend (port : BitVec 9) (s : State) : Host.Outcome State Fault Refusal :=
  s.runM fun _ m => m.whenRunning fun m =>
    let f := port.toNat
    if !m.timePort f || !m.isMaster f || m.isSource f then m
    else
      let r := m.ptpMessage f 0 m.frac m.time.syncSeq (-(m.fld Reg.TIM_CTL 26 24 : Int)) m.now []
      { r.2 with time := { r.2.time with syncSeq := (r.2.time.syncSeq + 1) % 65536 } }.sendTime f r.1

/-- PDELAY_SEND, 09 R243: Pdelay_Req on a port that carries time. -/
def execPdelaySend (port : BitVec 9) (s : State) : Host.Outcome State Fault Refusal :=
  s.runM fun _ m => m.whenRunning fun m =>
    let f := port.toNat
    if !m.timePort f || !(m.isMaster f || m.isSource f) then m
    else
      let r := m.ptpMessage f 2 0 m.time.syncSeq 0 0 (List.replicate 10 0)
      { r.2 with time := { r.2.time with
        syncSeq := (r.2.time.syncSeq + 1) % 65536,
        pdelaySent := (f, m.time.acc) :: m.time.pdelaySent.filter fun x => x.1 != f } }.sendTime f r.1

/-! ### Writing and switching the calendar (09 R254 to R256) -/

/-- What refuses the inactive bank (09 R256, 17 R454). -/
def Mach.bankBad (m : Mach) (bank count : Nat) : Bool :=
  let is := List.range count
  count == 0 || decide (4096 < count) || is.any (fun i => decide (m.calWord bank i 0 / 256 < 64)) ||
    is.any (fun i => decide (m.calWord bank i 1 % 2 ^ 28 ≠ 0)) ||
    (List.range 6).any (fun v => is.all fun i => !bitOf (m.calWord bank i 0) (v + 2)) ||
    (m.fencedTable (.calendar bank) && decide (m.time.calFresh.length < 8192))

/-- ARM (09 R254, R256). -/
def Mach.calArm (m : Mach) : Mach :=
  let bank := 1 - m.calActive
  let count := m.fld Reg.TIM_CAL_CTL 12 0
  if m.time.arm.isSome then m.count Reg.TIM_ERR_CNT
  else if m.bankBad bank count then m.setFlag Reg.TIM_CAL_CTL 28 true
  else
    let m1 := m.unfence fun f => f == .calendar bank
    { (m1.setFlag Reg.TIM_CAL_CTL 28 false).setFlag Reg.TIM_CAL_CTL 30 true with
      time := { m1.time with
        arm := some ⟨count, m1.rd64 Reg.TIM_CAL_BASE_LO Reg.TIM_CAL_BASE_HI, m1.rd64 Reg.TIM_CAL_SWITCH_LO Reg.TIM_CAL_SWITCH_HI, m1.now⟩,
        calFresh := [] } }

/-- A write of TIM_CAL_CTL: EN and COUNT, then ARM (09 R251, R254); clearing EN releases a held step (R248). -/
def Mach.calCtl (m : Mach) (value : Nat) : Mach :=
  let m1 := (m.writeRw Reg.TIM_CAL_CTL 0x80001FFF value).releaseStep
  if bitOf value 30 then m1.calArm else m1

/-- TIM_CAL_CTL.ARM, 09 R254: a write of the register. -/
def execCalArm (value : Word) (s : State) : Host.Outcome State Fault Refusal :=
  s.runM fun _ m => m.regCmd Reg.TIM_CAL_CTL fun m => m.calCtl value.toNat

/-- TIM_CAL_CTL.EN, 09 R251: a write of the register. -/
def execCalEnWrite (value : Word) (s : State) : Host.Outcome State Fault Refusal :=
  s.runM fun _ m => m.regCmd Reg.TIM_CAL_CTL fun m => m.calCtl value.toNat

/-- A write of a calendar entry word (09 R254): the active bank, and either bank while ARM is set, discard it. -/
def Mach.calWrite (m : Mach) (off value : Nat) : Mach :=
  let bank := if off < Reg.TIM_CAL_BANK1 0 then 0 else 1
  if bank = m.calActive || m.time.arm.isSome then m.count Reg.TIM_ERR_CNT
  else
    let m1 := m.wr off (BitVec.ofNat 32 (if off % 8 = 0 then value ||| 3 else value))
    if m.fencedTable (.calendar bank) && !m.time.calFresh.contains off then
      { m1 with time := { m1.time with calFresh := off :: m1.time.calFresh } }
    else m1

/-- BANK_SWITCH, 09 R254, R255: the armed switch completes at its boundary, not before its time. -/
def execBankSwitch (s : State) : Host.Outcome State Fault Refusal :=
  s.runM fun _ m => m.whenRunning fun m =>
    match m.time.arm with
    | none => m
    | some a =>
      if m.now < m.switchNs a then m
      else
        let m1 := ((m.setFlag Reg.TIM_CAL_CTL 30 false).setFld Reg.TIM_CAL_CTL 29 29 (1 - m.calActive)).setFld
          Reg.TIM_CAL_CTL 25 13 a.count
        { m1 with time := { m1.time with base := a.base, arm := none } }.releaseStep

/-- Start of the running entry, in NS. -/
def Mach.entryStart (m : Mach) : Option Nat := m.runningEntry.map fun (i, left) => m.now + left - m.calDur i

/-- An entry of the calendar starts now: within a REF_CLK period of its start (11 R319, log 71). -/
def Mach.entryStarts (m : Mach) : Bool := m.entryStart.any fun s => decide (m.now ≤ s + 10)

/-- The running entry's start has been served. -/
def Mach.entrySeen (m : Mach) : Mach := { m with time := { m.time with entryBegan := m.entryStart } }

/-- CAL_ENTRY_START, 09 R248, R251: a held step applies once the entry in which it was held has ended; an entry with MARK raises
CAL_MARK at its start, once. `err` is an uncorrectable word of the active bank (17 R454, store 9). -/
def execCalEntryStart (err : HwErr) (s : State) : Host.Outcome State Fault Refusal :=
  s.runM fun _ m => m.whenRunning fun m =>
    let bank := m.calActive
    let inj := m.injRead 9 0 (4096 * bank) (4096 * bank + m.actCount)
    match orErr err inj.1 with
    | .ue _ pos addr => ((m.eccUe 9 0 pos.toNat addr.toNat).fenceTable 0 (.calendar bank)).releaseStep
    | e =>
      let m0 := match e with
        | .ce _ pos addr hard => inj.2.eccCe 9 0 pos.toNat addr.toNat hard
        | _ => m
      match m0.time.held with
      | some h => if m0.runningEntry.isNone || m0.time.heldEnd ≤ m0.now then (m0.stepNow h).entrySeen else m0
      | none =>
        match m0.runningEntry with
        | some (i, _) =>
          if m0.entryStart = m0.time.entryBegan then m0
          else if bitOf (m0.calWord bank i 1) 28 then m0.entrySeen.timeEvent 0x13 0 0 4 i bank 0 else m0.entrySeen
        | none => m0

/-- HBM_REFRESH, 01 R19: inside a REFRESH entry a refresh changes no state; a forced one outside is counted (08 R218). -/
def execHbmRefresh (forced : Bool) (s : State) : Host.Outcome State Fault Refusal :=
  s.runM fun _ m => m.whenRunning fun m =>
    if forced && !m.calPermits 31 then m.countWrap Reg.DGT_TEV_REFRESH else m

end Sys2Proof.Machine
end

