-- ==== Sys2Proof/Machine/Ports.lean ====
section
/-! DEFINITION. Ports.lean: ports and lanes as operations that 10, 11 and 16 share: lane and port states with their events,
the wiring plan, link loss, going DOWN, flits sent and identity exchanges started and completed. -/
namespace Sys2Proof.Machine

/-! ### Lanes -/

/-- What a lane holds beside its registers. -/
def Mach.lane (m : Mach) (n : Nat) : LaneX := (m.lanes.find? fun x => x.lane == n).getD { lane := n }

/-- Change what a lane holds; a lane as at reset is not listed. -/
def Mach.modLane (m : Mach) (n : Nat) (f : LaneX → LaneX) : Mach :=
  let x := { f (m.lane n) with lane := n }
  let rest := m.lanes.filter fun y => y.lane != n
  { m with lanes := if x == { lane := n } then rest else x :: rest }

/-- LSTATE: 0 LS0, 1 LS1, 2 LS2, 3 none (11 R310). -/
def Mach.lstate (m : Mach) (n : Nat) : Nat := m.fld (Reg.LNE_LANE_STATUS n) 1 0

/-- Set LSTATE and TRAIN_STEP. -/
def Mach.setLstate (m : Mach) (n state step : Nat) : Mach :=
  (m.setFld (Reg.LNE_LANE_STATUS n) 1 0 state).setFld (Reg.LNE_LANE_STATUS n) 18 16 step

/-- TRAIN_STEP (11 R306). -/
def Mach.trainStep (m : Mach) (n : Nat) : Nat := m.fld (Reg.LNE_LANE_STATUS n) 18 16

/-- SIG_DET. -/
def Mach.sigDet (m : Mach) (n : Nat) : Bool := m.flag (Reg.LNE_LANE_STATUS n) 27

/-- The configured port that a lane belongs to. -/
def Mach.portOf? (m : Mach) (n : Nat) : Option Port := m.ports.find? fun p => decide (p.first ≤ n) && decide (n < p.first + p.width)

/-- Lanes of a port. -/
def Port.lanes (p : Port) : List Nat := (List.range p.width).map fun i => p.first + i

/-- A lane is in its port's active mask. -/
def Mach.laneActive (m : Mach) (n : Nat) : Bool :=
  match m.portOf? n with
  | some p => bitOf p.mask (n - p.first)
  | none => false

/-- Minimum active lanes of a port, MIN_WIDTH + 1, as its first lane last took it (11 R318, R328). -/
def Mach.minLanes (m : Mach) (p : Port) : Nat := bits (m.lane p.first).cfg 9 7 + 1

/-- A tap's bits in LNE_TX_COEF, from the highest: c−3, c−2, c−1, c0, c+1. -/
def tapField : Nat → Nat × Nat
  | 0 => (31, 27) | 1 => (26, 21) | 2 => (20, 14) | 3 => (13, 6) | _ => (5, 0)

/-- The taps in a coefficient word; c0 is unsigned (11 R327). -/
def coefTaps (w : Nat) : List Int :=
  (List.range 5).map fun t =>
    let f := tapField t
    if t = 3 then (bits w 13 6 : Int) else sext (f.1 + 1 - f.2) (bits w f.1 f.2)

/-- The coefficient word of five taps. -/
def tapsWord (l : List Int) : Nat :=
  (List.range 5).foldl (fun a t =>
    let f := tapField t
    setBits a f.1 f.2 (tcBits (f.1 + 1 - f.2) (l.getD t 0))) 0

/-- The presets of 11 R301. -/
def presetTaps : Nat → List Int
  | 0 => [0, 0, 0, 128, 0]
  | 1 => [0, 0, -16, 104, -8]
  | 2 => [0, 4, -24, 92, -8]
  | _ => [-4, 8, -32, 76, -8]

/-- The training frame that a lane sends now: its request with LPOS, and the answer to its partner's (11 R303, R304). -/
def Mach.sendFrame (m : Mach) (n : Nat) : Mach :=
  let x := m.lane n
  let pos := match m.portOf? n with
    | some p => n - p.first
    | none => 0
  (m.modLane n fun y => { y with frames := y.frames + 1 }).emit
    (.trainFrame n { control := BitVec.ofNat 32 (setBits x.request 21 19 pos), status := BitVec.ofNat 32 x.answer } x.frames)

/-- A lane in use that may transmit: enabled, not isolated, its lane group's domain on. -/
def Mach.laneOn (m : Mach) (n : Nat) : Bool := (m.lane n).en && !(m.lane n).off && !m.domainOff (n / 16)

/-- A lane under test: a generator or checker runs (11 R324). -/
def Mach.underTest (m : Mach) (n : Nat) : Bool := m.fld (Reg.LNE_PRBS_CTL n) 27 24 != 0

/-- Pattern state behind `n` symbols. -/
def patternSkip (kind : Nat) : Nat → Nat → Nat
  | 0, s => s
  | n + 1, s => patternSkip kind n (patternNext kind s).2

/-- The levels of the `index`-th training frame a lane has sent since its training began: its PRBS13Q continues from frame to frame
(11 R302). -/
def trainFrameLevels (lane index : Nat) (f : TrainFrame) : List (BitVec 2) :=
  frameLevels f.control f.status (patternSkip 1 (3808 * index % 8191) (Config.prbsSeed lane 0))

/-- Start training a lane (11 R301, R306, R310, R328): from the preset, or from the stored taps without step 3. A
lane under test keeps its pattern. A lane removed by DROP stays so (R314). -/
def Mach.laneTrain (m : Mach) (n : Nat) (short : Bool) : Mach :=
  if m.underTest n then m
  else if !m.laneOn n then m.setLstate n 3 0
  else
    let cfg := (m.rd (Reg.LNE_LANE_CFG n)).toNat
    let coef := if short then m.rd (Reg.LNE_STORED_COEF n) else BitVec.ofNat 32 (tapsWord (presetTaps (bits cfg 1 0)))
    let m1 := (m.modLane n fun x => { x with
      cfg, tcfg := (m.rd Reg.LNE_TRAIN_CFG).toNat, failed := false, short, readySeen := 0, answer := 0, request := 0, answered := false, calLeft := 0,
      frames := 0, txY := 0, rxY := 0 }).wr
      (Reg.LNE_TX_COEF n) coef
    (m1.setLstate n 3 (if m.sigDet n then 1 else 0)).sendFrame n

/-- LANE_STATE with the active mask after the event (11 R326). -/
def Mach.laneEventAs (m : Mach) (n cause mask : Nat) : Mach :=
  let p := (m.portOf? n).getD { first := 0, width := 0 }
  m.modEvent 0x14 noFault [n * 2 ^ 23 + p.first * 2 ^ 14 + maskWidth mask * 2 ^ 10 + m.lstate n * 2 ^ 8 + cause * 2 ^ 4,
    mask * 2 ^ 24, 0, 0, 0]

/-- LANE_STATE of an event that leaves its port's mask as it is (11 R326). -/
def Mach.laneEvent (m : Mach) (n cause : Nat) : Mach := m.laneEventAs n cause ((m.portOf? n).map (·.mask) |>.getD 0)

/-! ### The plan and PORT_STATE (16 R428 to R431, R442) -/

/-- Code of a port state (16 R426). -/
def PortState.code : PortState → Nat
  | .down => 0 | .training => 1 | .quarantine => 2 | .up => 3 | .degraded => 4 | .isolated => 5

/-- PORT_STATE with PLAN_CHANGE 0 for a port as it stands. -/
def Mach.portEvent (m : Mach) (f old cause : Nat) : Mach :=
  match m.port? f with
  | none => m
  | some p =>
    let i := p.ident.getD {}
    m.modEvent 0x18 noFault
      [f * 2 ^ 23 + old * 2 ^ 20 + p.state.code * 2 ^ 17 + cause * 2 ^ 13 + maskWidth p.mask * 2 ^ 9 +
        m.fld Reg.SVC_PLAN_CTL 30 30 * 2 ^ 7, i.feid.toNat * 2 ^ 16 + i.port.toNat * 2 ^ 7, i.straps.toNat, 0, 0]

/-- A partner is expected at a port: VALID of its plan entry (16 R428). -/
def Mach.planned (m : Mach) (f : Nat) : Bool := m.flag (Reg.SVC_PLAN_W0 f) 31

/-- Bring the plan state up to date (16 R431): COMPLETE while every planned port is UP or DEGRADED, DEGRADED from the
moment one has been missing for GRACE_MS; each change raises PORT_STATE with PLAN_CHANGE 1. -/
def Mach.updatePlan (m : Mach) : Mach :=
  let m1 := { m with ports := m.ports.map fun (p : Port) =>
    if p.usable || !m.planned p.first then { p with missing := false } else p }
  let n := (m1.ports.filter fun (p : Port) => p.missing).length
  let m2 := m1.setFld Reg.SVC_PLAN_MISSING 9 0 n
  let old := m.fld Reg.SVC_PLAN_CTL 30 30
  let new := if n ≠ 0 then 1 else if m.ports.all fun (p : Port) => p.usable || !m.planned p.first then 0 else old
  if new = old then m2
  else (m2.setFld Reg.SVC_PLAN_CTL 30 30 new).modEvent 0x18 noFault [11 * 2 ^ 13 + new * 2 ^ 7 + 2 ^ 6, 0, 0, 0, 0]

/-- Move a port to a state; a change raises PORT_STATE with its CAUSE (16 R442), and the source of fabric time is lost when its port
leaves UP or DEGRADED (09 R242). -/
def Mach.setPortState (m : Mach) (f : Nat) (new : PortState) (cause : Nat) : Mach :=
  match m.port? f with
  | none => m
  | some p =>
    if p.state == new then m
    else
      let a := ((m.modPort f fun q => { q with state := new, cause, leftAt := if p.usable then m.aon else q.leftAt }).portEvent f p.state.code cause).updatePlan
      if p.usable && m.isSource f && new != .up && new != .degraded then a.sourceLost else a

/-- UP at the configured width, DEGRADED below it (11 R318). -/
def Port.runState (p : Port) : PortState := if maskWidth p.mask = p.width then .up else .degraded

/-- The link layer of a port runs: UP, DEGRADED or QUARANTINE (16 R430). -/
def Port.linked (p : Port) : Bool := p.usable || p.state == .quarantine

/-- A lane that enters its port's mask waits no longer for it and has ended step 7 (11 R306, R320). -/
def Mach.joined (m : Mach) (n : Nat) : Mach := (m.modLane n fun x => { x with wantJoin := false }).setLstate n (m.lstate n) 0

/-- Set the active mask of a port, with LANE_STATE, and UP or DEGRADED by its width (11 R318, R326). -/
def Mach.setMask (m : Mach) (f mask cause : Nat) : Mach :=
  match m.port? f with
  | none => m
  | some p =>
    if p.mask = mask then m
    else
      let m0 := (setBitsOf 8 mask).foldl (fun a i => a.joined (f + i)) (m.modPort f fun q => { q with mask })
      let m1 := m0.laneEvent f cause
      if p.usable then m1.setPortState f { p with mask }.runState 0 else m1

/-! ### Link loss and going DOWN (12 R346, 16 R427) -/

/-- Credit of packets that came on a port's former link is no longer returned (10 R268). -/
def Mach.noCreditTo (m : Mach) (f : Nat) : Mach :=
  let cut (x : QPkt) : QPkt := if x.ingress.any fun i => i.1 == f then { x with ingress := none } else x
  { m with sw := { m.sw with queues := m.sw.queues.map fun q => { q with pkts := q.pkts.map cut } } }

/-- A packet that a lost link leaves partly received (10 R276, 12 R346): when its head was forwarded, a free value (the module
may), the rest goes on zero-filled as DATA_POISONED; else it is discarded and counted. -/
def Mach.partLost (m : Mach) (st : Store) (p : Port) : Mach :=
  if p.rxPart = 0 then m
  else
    let d := m.draw 1
    let h := pktOfHeader (p.rxBytes.take 32)
    let body := ((p.rxBytes.drop 32) ++ List.replicate 4200 0)
    let pkt := { h with
      payload := body.take h.length.toNat
      trailer := (body.drop h.length.toNat).take (trailerLen h.type.toNat)
      epoch := if (p.ident.getD {}).kind == 1 then m.sw.stamp else h.epoch
      hops := h.hops + 1 }
    let mine := (headerBad p h).isNone && h.dest.toNat < 0xFFF0 && p.usable && h.type != 3 && decide (h.hops.toNat < 31)
    if mine && d.1 = 1 && p.rxPart < pktFlits h then d.2.routePacket st pkt (some (p.first, 0)) false 0 (some p.rxPart)
    else d.2.count Reg.SWC_FLUSH_CNT

/-- Stop a port's egress and flush what it holds (12 R346 steps 1, 2 and 4, 14 R383). -/
def Mach.stopPort (m : Mach) (f : Nat) : Mach :=
  match m.port? f with
  | none => m
  | some p =>
    let m1 := (List.range 8).foldl (fun a v => a.flushQueue (.port f v)) m
    let m2 := m1.countN Reg.SWC_FLUSH_CNT p.fiHeld.length
    let m3 := m2.noCreditTo f
    m3.modPort f fun q => { q with
      replay := [], sent := [], rxPart := 0, rxBytes := [], naking := false, quiesced := false, widthX := none, fiHeld := [], ptr := [0, 0],
      turnOpen := [false, false], txStream := [], newwDue := false, late := false,
      deficit := [List.replicate 8 0, List.replicate 8 0] }

/-- The port die of a port is fenced at FC3: its ports stay DOWN (18 R462). -/
def Mach.portFenced (m : Mach) (f : Nat) : Bool := m.flt.fences.contains (f / 128)

/-- A DOWN port whose lanes see signal is TRAINING (16 R426). -/
def Mach.portWake (m : Mach) (f : Nat) : Mach :=
  match m.port? f with
  | none => m
  | some p =>
    if p.state == .down && !m.portFenced f && p.lanes.any fun n => m.laneOn n && m.sigDet n && !(m.lane n).failed
    then m.setPortState f .training 0 else m

/-- Take a port DOWN (16 R426, R427): when it was UP or DEGRADED this is a link loss, on which the groups act. -/
def Mach.portGone (m : Mach) (st : Store) (f cause : Nat) (new : PortState) : Mach :=
  match m.port? f with
  | none => m
  | some p =>
    let m0 := if p.mask = 0 then m else (m.modPort f fun q => { q with mask := 0, rxMask := 0 }).laneEvent f 0
    let m1 := m0.modPort f fun q => { q with
      exchanging := false, partnerSeen := false, bothSeen := false, doneSent := false, doneRcvd := false, authState := 0, negRev := 0 }
    let m2 := ((m1.setPortState f new cause).partLost st p).stopPort f
    if p.usable then m2.groupsLinkLost st f .lost 0 else m2

/-- CAUSE of a port that leaves its state for DOWN: LINK_LOST from UP or DEGRADED, else OTHER. -/
def Port.downCause (p : Port) : Nat := if p.usable then 7 else 0

/-- Take a port DOWN and retrain its lanes (10 R275, 11 R317, R318). -/
def Mach.portDown (m : Mach) (st : Store) (f : Nat) : Mach :=
  match m.port? f with
  | none => m
  | some p =>
    let m1 := m.portGone st f p.downCause .down
    let m2 := p.lanes.foldl (fun a n => if (a.lane n).failed then a else a.laneTrain n false) m1
    m2.portWake f

/-! ### Flits (10 R259 to R268, R278) -/

/-- A flit: control word, 248 bytes of payload, CRC-32 (10 R259 to R261). -/
def flitBytes (ftype seq ack : Nat) (ackv eop : Bool) (vc : Nat) (payload : List Byte) : List Byte :=
  let body := leBytes 4 (ftype * 2 ^ 29 + seq * 2 ^ 17 + ack * 2 ^ 5 + b2n ackv * 2 ^ 4 + b2n eop * 2 ^ 3 + vc) ++
    (payload ++ List.replicate 248 0).take 248
  body ++ leBytes 4 (crc32 body)

/-- A flit of a port, with its ACK of the last DATA flit accepted in order (10 R271). -/
def Port.flit (p : Port) (ftype seq : Nat) (eop : Bool) (vc : Nat) (payload : List Byte) : List Byte :=
  flitBytes ftype seq (if p.rxAny then (p.rxNext + 4095) % 4096 else 0) p.rxAny eop vc payload

/-! ### Groups (10 R262, 11 R297, R315) -/

/-- CMD and ARG of the next group on a port's active lanes: NEWW behind a switch, WIDTH until it is acknowledged (11 R315). -/
def Port.groupCmd (p : Port) : Nat × Nat :=
  if p.newwDue then (3, p.mask)
  else match p.widthX with
    | some x => if x.initiator && !x.acked then (1, x.mask) else (0, 0)
    | none => (0, 0)

/-- Send a group of a port: each active lane's share of the stream bytes, as PAM4 levels. -/
def Mach.sendGroup (m : Mach) (f : Nat) (stream : List Byte) : Mach :=
  match m.port? f with
  | none => m
  | some p =>
    let active := setBitsOf 8 p.mask
    let send (a : Mach) (i : Nat × Nat) : Mach :=
      let n := f + i.1
      let on := a.flag (Reg.LNE_LANE_STATUS n) 21
      let l := groupLevels p.gseq p.groupCmd.1 p.groupCmd.2 (laneShare active.length i.2 stream) on (a.lane n).txY
      (a.modLane n fun x => { x with txY := l.getLastD 0 }).emit (.group n l)
    (active.zipIdx.foldl send m).modPort f fun q => { q with gseq := (q.gseq + 1) % 64, newwDue := false }

/-- A flit enters the byte stream of its port (10 R262): the group being filled is sent when it is full. -/
def Mach.feed (m : Mach) (f : Nat) (bytes : List Byte) : Mach :=
  match m.port? f with
  | none => m
  | some p =>
    let room := 2560 * maskWidth p.mask
    let s := p.txStream ++ bytes
    if room = 0 then m
    else if s.length < room then m.modPort f fun q => { q with txStream := s }
    else (m.modPort f fun q => { q with txStream := s.drop room }).sendGroup f (s.take room)

/-- Put a flit on the wire. -/
def Mach.sendFlit (m : Mach) (f : Nat) (bytes : List Byte) : Mach := (m.emit (.flit f bytes)).feed f bytes

/-- Send a flit that is not DATA. -/
def Mach.sendCtl (m : Mach) (f ftype : Nat) (payload : List Byte) : Mach :=
  match m.port? f with
  | none => m
  | some p => (m.modPort f fun q => { q with sinceLink := if ftype = 3 then 0 else q.sinceLink + 1 }).sendFlit f
      (p.flit ftype 0 false 0 payload)

/-- Send a LINK flit: NAK of the expected SEQ, or a request, with the credit freed (10 R266). QUIESCE, RESUME and the DOWN notice
are of revision 0x03: never sent below it (R280). -/
def Mach.sendLink (m : Mach) (f : Nat) (nak : Bool) (req : Nat) : Mach :=
  match m.port? f with
  | none => m
  | some p =>
    if req ≠ 0 && decide (p.negRev < 3) then m
    else (m.modPort f fun q => { q with retSent := q.retOut }).sendCtl f 3
      (leBytes 4 (b2n nak * 2 ^ 31 + (if nak then p.rxNext else 0) * 2 ^ 19 + req * 2 ^ 16) ++ p.retOut.flatMap (leBytes 2))

/-- The slot before a pick, when DATA is queued (`busy`) or not: a LINK flit when there is credit to return, but not within 256 flits of the last
while DATA is queued (10 R265). -/
def Mach.linkSlot (m : Mach) (f : Nat) (busy : Bool) : Mach :=
  match m.port? f with
  | none => m
  | some p => if p.retOut != p.retSent && (!busy || 256 ≤ p.sinceLink) then m.sendLink f false 0 else m

/-- An IDLE flit, whenever there is nothing else to send (10 R265). -/
def Mach.sendIdle (m : Mach) (f : Nat) : Mach := m.sendCtl f 0 []

/-- The payload of an IDENT message, 248 bytes (10 R278). -/
def identPayload (i : Ident) : List Byte :=
  (leBytes 4 (b2n i.peerSeen * 2 ^ 27 + b2n i.authReq * 2 ^ 26 + i.kind.toNat * 2 ^ 24 + i.revMax.toNat * 2 ^ 16 +
    i.revMin.toNat * 2 ^ 8 + i.arithRev.toNat) ++ leBytes 4 (i.port.toNat * 2 ^ 23 + i.width.toNat * 2 ^ 19) ++
    leBytes 4 i.straps.toNat ++ leBytes 4 (i.feid.toNat * 2 ^ 16) ++ leBytes 16 i.uid.toNat ++
    i.credit.flatMap (fun (c : BitVec 16) => leBytes 2 c.toNat) ++ List.replicate 248 0).take 248

/-- The module's own IDENT on a port (10 R278): it is a switch. -/
def Mach.ownIdent (m : Mach) (p : Port) : Ident :=
  { peerSeen := p.partnerSeen, authReq := p.authOn, kind := 0, revMax := 3, revMin := 1,
    arithRev := BitVec.ofNat 8 (m.rd Reg.ENG_ARITH_REV).toNat, port := BitVec.ofNat 9 p.first,
    width := BitVec.ofNat 4 p.width, straps := BitVec.ofNat 18 (m.rd Reg.SVC_STRAPS).toNat, feid := 0xFFFF,
    uid := BitVec.ofNat 128 (leNat unitId), credit := p.advertised.map (BitVec.ofNat 16) }

/-- Send IDENT. -/
def Mach.sendIdent (m : Mach) (f : Nat) : Mach :=
  match m.port? f with
  | none => m
  | some p => m.sendCtl f 4 (identPayload (m.ownIdent p))

/-- Send KEY, CHALLENGE, RESPONSE or DONE with its data (10 R278). -/
def Mach.idMsg (m : Mach) (f msg : Nat) (data : List Byte) : Mach :=
  m.sendCtl f 4 (leBytes 4 (msg * 2 ^ 28 + 3 * 2 ^ 16 + 1 * 2 ^ 8 + (m.rd Reg.ENG_ARITH_REV).toNat % 256) ++ data)

/-- Send a message of the exchange after IDENT; it is repeated while the port is TRAINING. -/
def Mach.sendIdMsg (m : Mach) (f msg : Nat) (data : List Byte) : Mach :=
  (m.modPort f fun q => { q with idSent := q.idSent.filter (fun x => x.1 != msg) ++ [(msg, data)] }).idMsg f msg data

/-! ### Identity exchanges (10 R269, R274, R279, R291, 12 R334) -/

/-- Replay depth of a configured width (10 R274). -/
def replayDepth (width : Nat) : Nat := 100000 * width / 256

/-- The credit a port advertises (10 R269). -/
def Mach.creditInit (m : Mach) (p : Port) : List Nat :=
  let bulk := m.fld (Reg.TRL_PORT_CFG p.first) 5 0
  [64, 64] ++ List.replicate 6 (if bulk = 0 then replayDepth p.width else 64 * bulk)

/-- Start the identity exchange of a port on a mask of lanes in LS0 (11 R309): its settings take effect (10 R291), its
credit counts in FLOOR (12 R334), and IDENT is sent. -/
def Mach.exchangeStart (m : Mach) (f mask : Nat) : Mach :=
  match m.port? f with
  | none => m
  | some p =>
    let cfg := Reg.TRL_PORT_CFG f
    let m1 := (m.setPortState f .training 0).modPort f fun q => { q with
      exchanging := true, partnerSeen := false, bothSeen := false, doneSent := false, doneRcvd := false, authState := 0, authOn := m.flag cfg 13, authFailed := false, shared := m.flag cfg 12,
      gallery := m.fld cfg 11 6, advertised := m.creditInit p, negRev := 0, nonce := [], peerKey := [],
      rxAny := false, rxNext := 0, txSeq := 0, replay := [], retOut := List.replicate 8 0, retSent := List.replicate 8 0, idSent := [], retSeen := List.replicate 8 0,
      credit := List.replicate 8 0 }
    let full := decide (262144 - m1.fld Reg.SWC_MIN_WORK 17 0 < m1.floorOf (dieOf f))
    ((m1.modPort f fun q => { q with bufferFail := full, rxMask := mask, late := false, txStream := [] }).setMask f mask 0).sendIdent f

/-- The outcome of the plan comparison (16 R429): 0 passes, 1 UNPLANNED, 2 MISMATCH. -/
def Mach.planCheck (m : Mach) (f : Nat) (i : Ident) : Nat :=
  if !m.flag Reg.SVC_PLAN_CTL 31 then 0
  else if !m.planned f then 1
  else
    let w0 := (m.rd (Reg.SVC_PLAN_W0 f)).toNat
    let kind := bits w0 30 29
    let uid := (m.rd (Reg.SVC_PLAN_UID_W0 f)).toNat + 2 ^ 32 * (m.rd (Reg.SVC_PLAN_UID_W1 f)).toNat +
      2 ^ 64 * (m.rd (Reg.SVC_PLAN_UID_W2 f)).toNat + 2 ^ 96 * (m.rd (Reg.SVC_PLAN_UID_W3 f)).toNat
    if kind != i.kind.toNat || (kind == 0 && m.fld (Reg.SVC_PLAN_W2 f) 17 0 != i.straps.toNat) ||
      (kind == 1 && m.fld (Reg.SVC_PLAN_W1 f) 31 16 != i.feid.toNat) ||
      (bitOf w0 28 && m.fld (Reg.SVC_PLAN_W1 f) 8 0 != i.port.toNat) || (bitOf w0 27 && uid != i.uid.toNat) then 2
    else 0

/-- The negotiated revision lies below a REV_MIN (10 R280). -/
def Port.revBad (p : Port) : Bool :=
  match p.ident with
  | some i => decide (p.negRev < max 1 i.revMin.toNat)
  | none => false

/-- Complete the exchange of a port (10 R279 step 4): the first cause of 16 R429, or UP or DEGRADED; groups are compared
(03 R70). -/
def Mach.exchangeEnd (m : Mach) (st : Store) (f : Nat) : Mach :=
  match m.port? f with
  | none => m
  | some p =>
    match p.ident with
    | none => m
    | some i =>
      let cause := if p.revBad then 3 else if p.authFailed then 4 else if p.bufferFail then 5 else m.planCheck f i
      let m1 := m.modPort f fun q => { q with exchanging := false, leadsToSwitch := i.kind == 0 }
      let m2 := m1.setPortState f (if cause = 0 then p.runState else .quarantine) cause
      m2.groupsRecheck st f

/-- A port leads to a switch (13 R363). -/
def Mach.leadsToSwitch (m : Mach) (f : Nat) : Bool :=
  match m.port? f with
  | some p => if p.partnerSeen then p.leadsToSwitch else m.planned f && m.fld (Reg.SVC_PLAN_W0 f) 30 29 == 0
  | none => false

end Sys2Proof.Machine
end

