-- ==== Sys2Proof/Machine/Weights.lean ====
section
/-! DEFINITION. Weights.lean: weight records and program digests (08 R227 to R229, R234). -/
namespace Sys2Proof.Machine

/-- Tp for a weight record: that of a session on the core; without one the spec states none, and it is free. -/
def Mach.weightTp (m : Mach) (gal core : Nat) : Nat × Mach :=
  match m.sessions.find? fun s => s.home == core && s.gallery == gal with
  | some s => (s.tp, m)
  | none => let d := m.draw 5
            (d.1 + 1, d.2)

/-- The record of a layer entry on a core (08 R227). -/
def Mach.weightRec (m : Mach) (st : Store) (layer core : Nat) : WeightRec × Mach :=
  let t := m.weightTp (m.lay layer 0 17 12) core
  let len := 256 * m.lay layer 6 14 0
  let pre := m.lay layer 4 31 31 == 1
  let router := if pre then (256 * m.lay layer 5 30 0, len) else (64 * m.lay layer 4 16 0, len)
  let n1 := 64 * m.lay layer 7 16 0
  let n2 := 64 * m.lay layer 8 16 0
  let span := 4096 * t.1
  let bytes := (if pre then sgets zeroCell st.hbm router.1 len else st.scr core router.1 len) ++ st.scr core n1 span ++
    st.scr core n2 span
  let norms := [(n1, n1 + span), (n2, n2 + span)]
  ({ layer, core, wd := sm3 bytes, scr := if pre then norms else (router.1, router.1 + len) :: norms,
     hbm := if pre then [(router.1, router.1 + len)] else [] }, t.2)

/-- DGT_WEIGHT without CLEAR (08 R227, R234, 22 R553). -/
def Mach.dgtWeight (m : Mach) (st : Store) (d : TuDesc) : Mach :=
  let i := d.arg0.toNat
  let k := d.arg1.toNat
  let same (r : WeightRec) : Bool := r.layer == i && r.core == k
  let m1 :=
    if !m.feature 3 || tuBad d 0 || d.flags != 0 || decide (256 ≤ i) || decide (32 ≤ k) then m.tuRefuse 0x18 d .badEntry
    else if !bitOf (m.layerWord i 0) 31 || m.lay i 0 17 12 != d.gallery.toNat then m.tuRefuse 0x18 d .notFound
    else if !m.corePresent k then m.tuRefuse 0x18 d .coreAbsent
    else if !m.dgt.records.any same && 1024 ≤ m.dgt.records.length then m.tuRefuse 0x18 d .quota
    else if m.layerBusy i || m.tuBehind 0x18 d then m.park 0x18 d []
    else
      let r := m.weightRec st i k
      { r.2 with dgt := { r.2.dgt with records := r.1 :: r.2.dgt.records.filter fun x => !same x } }.tuDone 0x18 d .ok 0 0
  m1.markStale (some d.gallery.toNat)

/-- DGT_WEIGHT with CLEAR (08 R227). -/
def Mach.dgtWeightClear (m : Mach) (d : TuDesc) : Mach :=
  let same (r : WeightRec) : Bool := r.layer == d.arg0.toNat && r.core == d.arg1.toNat
  let m1 :=
    if tuBad d 0 || 2 ≤ d.flags.toNat || 256 ≤ d.arg0.toNat || 32 ≤ d.arg1.toNat then m.tuRefuse 0x18 d .badEntry
    else if !m.dgt.records.any same then m.tuRefuse 0x18 d .notFound
    else if m.layerBusy d.arg0.toNat || m.tuBehind 0x18 d then m.park 0x18 d []
    else { m with dgt := { m.dgt with records := m.dgt.records.filter fun x => !same x } }.tuDone 0x18 d .ok 0 0
  m1.markStale (some d.gallery.toNat)

/-- DGT_WEIGHT, 08 R227. -/
def execDgtWeight (d : TuDesc) (s : State) : Host.Outcome State Fault Refusal :=
  s.runM fun st m => m.tuCmd 0x18 (tuPlain d) fun m => m.dgtWeight st (tuPlain d)

/-- DGT_WEIGHT with CLEAR, 08 R227. -/
def execDgtWeightClear (d : TuDesc) (s : State) : Host.Outcome State Fault Refusal :=
  s.runM fun _ m => m.tuCmd 0x18 (tuMarked d) fun m => m.dgtWeightClear (tuMarked d)

/-! ### Program digests (08 R229) -/

/-- The 64-byte entry of a group as R60 lays it out, RO fields zero, with its member entries. -/
def Group.tableBytes (g : Group) : List Byte :=
  let policy := match g.policy with
    | .wait => 0 | .abort => 1 | .exclude => 2
  let w0 := b2n g.peer * 2 ^ 30 + g.tier * 2 ^ 28 + b2n g.accMode * 2 ^ 27 + b2n g.leafSum * 2 ^ 26 + policy * 2 ^ 24 +
    b2n g.nanMode * 2 ^ 23 + b2n g.intWrap * 2 ^ 22 + b2n g.allowMixed * 2 ^ 21 + g.gallery * 2 ^ 12 + g.id
  let w1 := g.cfmt * 2 ^ 27 + g.rfmt * 2 ^ 22 + g.func * 2 ^ 18 + (g.segTiles - 1) * 2 ^ 12 + (g.window - 1) * 2 ^ 8 + g.arithRev
  let w2 := g.flareSat * 2 ^ 26 + g.flareFlush * 2 ^ 20 + (g.planes - 1) * 2 ^ 16 + g.planeIndex * 2 ^ 12 + g.members.length
  let w6 := g.blockHi * 2 ^ 24 + g.blockLo * 2 ^ 16 + g.uplink
  let mst (x : Member) : Nat := match x.mstate with
    | .present => 0 | .removed => 1 | .lost => 2
  [w0, w1, w2, g.stragglerNs, g.redCores, g.memberBase, w6, 0, 0, 0, 0, 0, 0, 0, 0, 0].flatMap (leBytes 4) ++
    g.members.flatMap fun x => leBytes 4 (mst x * 2 ^ 30 + x.rank * 2 ^ 16 + x.target)

/-- The bytes a gallery's program digest covers (08 R229). -/
def Mach.progBytes (m : Mach) (st : Store) (gal : Nat) : List Byte :=
  let gs := (List.range 4096).filterMap fun id => m.groups.find? fun g => g.id == id && g.gallery == gal
  let ls := (List.range 256).filterMap fun i => m.layers.find? fun l => l.idx == i && m.lay i 0 17 12 == gal
  let named (e : Nat) : Bool := ls.any fun l => m.lay l.idx 0 30 29 == 0 && decide (m.lay l.idx 3 15 0 ≤ e) &&
    decide (e ≤ m.lay l.idx 3 15 0 + m.lay l.idx 2 10 0)
  gs.flatMap Group.tableBytes ++ ls.flatMap (fun l => wordBytes l.words) ++
    ((List.range 65536).filter named).flatMap (fun e => leBytes 4 (sget zeroCell st.expmap e).toNat) ++
    ((List.range 32).filter fun k => m.flag Reg.ENG_PRESENT k).flatMap fun k =>
      (sgets zeroCell st.prog (32768 * k) 32768).flatMap fun w => leBytes 8 w.toNat

/-- A write of DGT_PROG_CTL (08 R229): GO is ignored while BUSY. -/
def Mach.progCtl (m : Mach) (value : Nat) : Mach :=
  let m1 := m.writeRw Reg.DGT_PROG_CTL 0x3F value
  if bitOf value 7 && m1.dgt.busy.isNone then { m1 with dgt := { m1.dgt with busy := some (value % 64) } } else m1

/-- DGT_PROG_CTL.GO, 08 R229: a write of the register. -/
def execDgtProgGo (value : Word) (s : State) : Host.Outcome State Fault Refusal :=
  s.runM fun _ m => m.regCmd Reg.DGT_PROG_CTL fun m => m.progCtl value.toNat

/-- PROG_DIGEST_DONE, 08 R229: the digest of the tables and programs as they stand is valid (log 28). -/
def execProgDigestDone (s : State) : Host.Outcome State Fault Refusal :=
  s.runM fun st m => m.whenRunning fun m =>
    match m.dgt.busy with
    | none => m
    | some g =>
      let pd := sm3 (m.progBytes st g)
      let m1 := (List.range 8).foldl (fun a w =>
        a.wr (Reg.DGT_PD_G g w) (BitVec.ofNat 32 (leNat ((pd.drop (4 * w)).take 4)))) m
      { m1 with dgt := { m1.dgt with busy := none, valid := g :: m1.dgt.valid.filter (· != g),
                                     stale := m1.dgt.stale.filter (· != g) } }

end Sys2Proof.Machine
end

