-- ==== Sys2Proof/Machine/GalReset.lean ====
section
/-! DEFINITION. GalReset.lean: the effects of a gallery reset in every chapter (15 R412), which a gallery fence of 18 R464
shares. -/
namespace Sys2Proof.Machine

/-- The next reset generation is still stamped on a queued packet of the gallery, or a data write of a command of its ring
is not answered: the reset is held (12 R347, 15 R404). -/
def Mach.resetHeld (m : Mach) (g : Nat) : Bool :=
  m.sw.queues.any (fun q => q.pkts.any fun x => x.pkt.gallery.toNat == g && x.gen == (m.galGen g + 1) % 256) ||
    m.jnk.taken.any fun c => c.set == g && c.waits != 0

/-- The start belongs to the gallery. -/
def Start.ofGallery (s : Start) (g : Nat) : Bool := s.gallery == g

/-- Packets of the gallery that wait for a function of the module: FMREQ commands end with ABORT_GALLERY (07 R205), the
others are discarded under 12 R347. -/
def Mach.resetFunctions (m : Mach) (st : Store) (g : Nat) : Mach :=
  let reqs := ((m.queue (.fmem 0)).pkts ++ (m.queue (.fmem 1)).pkts).filter fun x => x.pkt.gallery.toNat == g
  let m1 := reqs.foldl (fun a x =>
    let c := fmCmd (.endpoint x.pkt)
    a.fmAnswer st c (c.response .none .abortGallery false 0 (a.refOf c.main) []) []) m
  let eng := ((m1.queue (.engine 0)).pkts ++ (m1.queue (.engine 1)).pkts).filter fun x => x.pkt.gallery.toNat == g
  (m1.dropEngine fun p => p.gallery.toNat == g).countN Reg.SWC_GFLUSH_CNT eng.length

/-- Programs of the gallery stop and its queued starts leave with ABORT_GALLERY (15 R412). -/
def Mach.resetCores (m : Mach) (st : Store) (g : Nat) : Mach :=
  m.cores.foldl (fun a c =>
    let stop := (c.running.map fun s => s.ofGallery g) == some true
    let b := if stop then a.leaveCore st c.core .abortGallery else a
    let gone := (b.core c.core).queue.filter fun s => s.ofGallery g
    let d := b.modCore c.core fun x => { x with queue := x.queue.filter fun s => !s.ofGallery g }
    (gone.foldl (fun e s => e.startRefused s .abortGallery .none) d).applyLong c.core) m

/-- Commands taken from the gallery's ring complete with ABORT_GALLERY, or with their own status (15 R412). -/
def Mach.resetTaken (m : Mach) (g : Nat) : Mach :=
  (m.jnk.taken.filter fun c => c.set == g && !c.words.isEmpty).foldl (fun a c =>
    let w0 := (c.words.getD 0 0).toNat
    let ws := match c.record with
      | some ws => ws
      | none =>
        if w0 / 2 ^ 28 = 15 then progRecord (statusCode .abortGallery) 0 (w0 % 65536) 0 (List.replicate 8 0)
        else
          let f := fmCmd (.ring (BitVec.ofNat 6 g) (BitVec.ofNat 32 c.index) c.words [])
          f.response .none .abortGallery false 0 (a.refOf f.main) []
    (a.dropTaken g c.index).writeCompletion g c.index ws) m

/-- Parked table-update commands of the gallery end with ABORT_GALLERY (15 R411). -/
def Mach.resetParkedTu (m : Mach) (g : Nat) : Mach :=
  let wide (opc : Nat) : Bool := opc == 0x20 || opc == 0x21 || opc == 0x28 || opc == 0x30 || opc == 0x38
  let mine (w : TuWait) : Bool := !wide w.opc && w.desc.gallery.toNat == g
  let m1 := { m with jnk := { m.jnk with parked := m.jnk.parked.filter fun w => !mine w } }
  (m.jnk.parked.filter mine).foldl (fun a w => a.tuDone w.opc w.desc .abortGallery 0 0) m1

/-- Scratch windows of a gallery's sessions and programs, in bytes of the scratch memory. -/
def Mach.galWindows (m : Mach) (g : Nat) : List (Nat × Nat) :=
  let win (k b l : Nat) : Nat × Nat := (k * 2 ^ 23 + 64 * b, k * 2 ^ 23 + min (2 ^ 23) (64 * l))
  ((m.sessions.filter fun s => s.gallery == g).map fun s => win s.home s.scrBase s.scrLimit) ++
    m.cores.flatMap fun c => ((c.running.toList ++ c.queue).filter fun s => s.ofGallery g).map fun s => win c.core s.scrBase s.scrLimit

/-- The gallery-reset rules of every chapter (15 R412; 03 R68, 04 R117, 06 R173, 07 R205, 12 R347, 18 R478). -/
def Mach.galReset (m : Mach) (st : Store) (g : Nat) : Mach × Store :=
  let st1 := { st with scratch := (m.galWindows g).foldl (fun a w => sclear a w.1 w.2) st.scratch }
  let mw := (m.galWindows g).foldl (fun a w => a.scrWrote (w.1 / 2 ^ 23) (w.1 % 2 ^ 23) (w.2 - w.1)) m
  let m0 := { mw with sw := { mw.sw with gens := sput zeroCell m.sw.gens g (BitVec.ofNat 8 (m.galGen g + 1)) } }
  let m1 := m0.resetParkedTu g
  let m2 := (m1.sessions.filter fun s => s.gallery == g).foldl (fun a s => a.layerFail st s.n .abortGallery) m1
  let m3 := m2.resetCores st g
  let own := m3.groups.filter fun x => x.gallery == g
  let m4 := own.foldl (fun a x => a.endOps st x.id .abortGallery) m3
  let m5 := (m4.resetFunctions st g).resetTaken g
  let lays := (m5.layers.filter fun l => m5.lay l.idx 0 17 12 == g).map (·.idx)
  let m6 := { m5 with
    groups := m5.groups.filter fun x => x.gallery != g
    ended := m5.ended.filter fun e => !own.any fun x => x.id == e.group
    sessions := m5.sessions.filter fun s => s.gallery != g
    layers := m5.layers.filter fun l => !lays.contains l.idx
    dgt := { m5.dgt with records := m5.dgt.records.filter fun r => !lays.contains r.layer } }
  let m7 := ((m6.fmGalReset g).markStale (some g)).ringDisable g
  (m7.setFlag (ringReg g 0) 30 false, st1)

/-- The ports of a gallery go down, each with a DOWN notice first when it speaks revision 0x03 (16 R435). -/
def Mach.galPorts (m : Mach) (st : Store) (g : Nat) : Mach :=
  (m.ports.filter fun (p : Port) => !p.shared && p.gallery == g && (p.linked || p.state == .training)).foldl
    (fun a p => (if 3 ≤ p.negRev then a.sendLink p.first false 3 else a).portDown st p.first) m

/-- GAL_RESET: held while the reset is held, refused for a reserved field, else done (15 R410, R412). -/
def Mach.galResetCmd (m : Mach) (st : Store) (d : TuDesc) : Mach × Store :=
  let g := d.gallery.toNat
  if tuBad d 0 || 2 ≤ d.flags.toNat then (m.tuRefuse 0x38 d .badEntry, st)
  else if m.resetHeld g then (m.park 0x38 d [], st)
  else
    let r := m.galReset st g
    ((if bitOf d.flags.toNat 0 then r.1.galPorts st g else r.1).tuDone 0x38 d .ok 0 0, r.2)

/-- GAL_RESET, 15 R412. -/
def execGalReset (d : TuDesc) (s : State) : Host.Outcome State Fault Refusal :=
  s.runMS fun st m => m.tuCmdS st 0x38 (tuPlain d) fun m => m.galResetCmd st (tuPlain d)

/-- GAL_RESET with PORT_RESET, 15 R410, 16 R435. -/
def execGalResetPort (d : TuDesc) (s : State) : Host.Outcome State Fault Refusal :=
  s.runMS fun st m => m.tuCmdS st 0x38 (tuMarked d) fun m => m.galResetCmd st (tuMarked d)

end Sys2Proof.Machine
end

