-- ==== Sys2Proof/Machine/Image.lean ====
section
/-! DEFINITION. Image.lean: the firmware image of 20 R514 and its verification (R515, R516), measurement registers (R510), and
the views of the unit's fuses. -/
namespace Sys2Proof.Machine

/-! ### The unit -/

/-- The stepping code of the unit (23 R572). -/
def steppingCode : Nat := match Config.stepping with
  | 0 => 0xA0
  | 1 => 0xB0
  | _ => 0xB1

/-! ### The image (20 R514) -/

/-- The 32-bit word of an image at a byte offset. -/
def imgWord (img : List Byte) (off : Nat) : Nat := leNat ((img.drop off).take 4)

/-- LENGTH. -/
def imgLength (img : List Byte) : Nat := imgWord img 12

/-- SVN. -/
def imgSvn (img : List Byte) : Nat := bits (imgWord img 4) 23 16

/-- The image bytes 0 to LENGTH − 1. -/
def imgBytes (img : List Byte) : List Byte := img.take (imgLength img)

/-- Kind, offset and length of the sections of the table. -/
def imgTable (img : List Byte) : List (Nat × Nat × Nat) :=
  (List.range (bits (imgWord img 4) 7 0)).map fun s =>
    (bits (imgWord img (32 + 48 * s)) 31 24, imgWord img (36 + 48 * s), imgWord img (40 + 48 * s))

/-- The bytes of the section of a kind; none when the table has no such section. -/
def imgSection (img : List Byte) (kind : Nat) : List Byte :=
  match (imgTable img).find? fun s => s.1 == kind with
  | some s => (img.drop s.2.1).take s.2.2
  | none => []

/-- The default SM2 user identity: 0x31 to 0x38 twice (20 R506). -/
def defaultId : List Byte := [0x31, 0x32, 0x33, 0x34, 0x35, 0x36, 0x37, 0x38, 0x31, 0x32, 0x33, 0x34, 0x35, 0x36, 0x37, 0x38]

/-- The key of the image's signer certificate, when that verifies (20 R515). -/
def imgSigner (img : List Byte) : Option (List Byte) :=
  if 4096 < imgWord img 20 then none else Config.signerKey ((img.drop (imgWord img 16)).take (imgWord img 20))

/-- Every section lies between byte 1,024 and LENGTH − 64, and no two overlap. -/
def imgPlaced (img : List Byte) : Bool :=
  let t := imgTable img
  (t.all fun s => decide (1024 ≤ s.2.1) && decide (s.2.1 + s.2.2 ≤ imgLength img - 64)) &&
    (t.zipIdx.all fun a => t.zipIdx.all fun b =>
      a.2 == b.2 || decide (a.1.2.1 + a.1.2.2 ≤ b.1.2.1) || decide (b.1.2.1 + b.1.2.2 ≤ a.1.2.1))

/-- The checks of 20 R516 in order; `arb` is the fused count. -/
def imgChecks (arb : Nat) (img : List Byte) : List Bool :=
  let len := imgLength img
  let key := imgSigner img
  let t := imgTable img
  [imgWord img 0 == 0x4B475846 && bits (imgWord img 4) 31 24 == 1 && decide (2048 ≤ len) && decide (len ≤ 2 ^ 25) &&
      decide (len ≤ img.length),
    key.isSome,
    sm2Verify (key.getD []) defaultId (img.take (len - 64)) ((img.drop (len - 64)).take 64),
    decide (arb ≤ imgSvn img),
    bitOf (imgWord img 4) (8 + Config.stepping.val),
    ((List.range 7).all fun k => (t.filter fun s => s.1 == k).length == 1) && imgPlaced img,
    t.zipIdx.all fun s => sm3 ((img.drop s.1.2.1).take s.1.2.2) == (img.drop (48 + 48 * s.2)).take 32]

/-- VSTEP of the first check that fails, none when the image verifies (20 R516). -/
def imgFails (arb : Nat) (img : List Byte) : Option Nat :=
  ((imgChecks arb img).zipIdx.find? fun c => !c.1).map fun c => c.2 + 1

/-! ### Measurements (20 R510) -/

/-- Set a measurement register. -/
def Mach.setMeas (m : Mach) (n : Nat) (digest : List Byte) : Mach :=
  (List.range 8).foldl (fun a w => a.wr (Reg.SEC_MEAS_W n w) ((bytesWords digest).getD w 0)) m

/-- The 32 bytes of a measurement register. -/
def Mach.meas (m : Mach) (n : Nat) : List Byte := wordBytes ((List.range 8).map fun w => m.rd (Reg.SEC_MEAS_W n w))

/-- The flash image verifies and is the image that runs (20 R517). -/
def Mach.imageRuns (m : Mach) : Bool :=
  (imgFails m.sec.arb m.sec.image).isNone && sm3 (imgBytes m.sec.image) == m.meas 1

/-- A push ends with RESULT and CAUSE (20 R518); one that is programming leaves an image area that no longer verifies. -/
def Mach.pushEnds (m : Mach) (result cause : Nat) (torn : Bool) : Mach :=
  let m1 := ((m.setFld Reg.SEC_FW_CTL 30 30 0).setFld Reg.SEC_FW_CTL 29 24 (result * 8)).setFld Reg.SEC_FW_CTL 23 16 cause
  if torn then { m1 with sec := { m1.sec with image := [] } } else m1

/-- Lantern is held in reset: a push in progress stops (20 R520). -/
def Mach.pushStops (m : Mach) : Mach :=
  if m.flag Reg.SEC_FW_CTL 30 && !m.boot.waitingImage then m.pushEnds 2 10 (m.fld Reg.SEC_FW_CTL 26 24 == 2) else m

/-- Measure the image at B2: MEAS1 and MEAS2, its version, security version and board parameters (19 R483, R492, 20 R510). -/
def Mach.loadImage (m : Mach) : Mach :=
  let img := m.sec.image
  let board := imgSection img 6
  let m1 := ((m.setMeas 1 (sm3 (imgBytes img))).setMeas 2 (sm3 (imgSection img 0))).wr Reg.SEC_IMAGE
    (BitVec.ofNat 32 (imgWord img 8))
  { m1.setFld Reg.BST_BUDGET 9 0 (Config.boardBudget board) with
    sec := { m1.sec with svn := imgSvn img, kept := imgSection img 5 ++ board }
    boot := { m1.boot with board := Config.boardLayout board } }

/-- Measure the agent sections, and GOLDEN and BOARD as kept from B2, at B7 (20 R510, R517). -/
def Mach.measureAgents (m : Mach) : Mach :=
  let s (k : Nat) : List Byte := imgSection m.sec.image k
  (m.setMeas 3 (sm3 (s 1 ++ s 2 ++ s 3 ++ s 4))).setMeas 4 (sm3 m.sec.kept)

/-- Measure the unit at B8 (20 R510). -/
def Mach.measureUnit (m : Mach) : Mach :=
  m.setMeas 5 (sm3 (leBytes 1 m.sec.arb ++ leBytes 1 steppingCode ++ leBytes 4 (m.rd (Reg.ENG_FUSE_H 0)).toNat ++
    leBytes 4 (m.rd (Reg.ENG_FUSE_H 1)).toNat ++ if m.ecc.retire.isEmpty then [] else Config.retireBytes m.ecc.retire))

end Sys2Proof.Machine
end

