-- ==== Sys2Proof/Machine/Link.lean ====
section
/-! DEFINITION. Link.lean: the link layer of 10: flits received, acknowledgement and replay, credit, link requests, the
identity exchange with its SM2 challenge, and link fault injection. -/
namespace Sys2Proof.Machine

/-! ### Fault injection (R288, R289) -/

/-- Injection may act on a port (R288). -/
def Mach.fiOn (m : Mach) (p : Port) : Bool :=
  p.fiArmed && !p.shared && m.flag Reg.TRL_FI_EN 31 &&
    m.flag (if p.gallery < 32 then Reg.TRL_FI_GAL_LO else Reg.TRL_FI_GAL_HI) (p.gallery % 32)

/-- MODE of a port's injection (R289). -/
def Mach.fiMode (m : Mach) (f : Nat) : Nat := m.fld (Reg.TRL_FI_CTL f) 30 28

/-- One eligible flit or packet passes: whether it is injected on, counted, under RATE (R289). -/
def Mach.fiTry (m : Mach) (f : Nat) : Bool × Mach :=
  match m.port? f with
  | none => (false, m)
  | some p =>
    let rate := m.fld (Reg.TRL_FI_CTL f) 27 24
    if rate = 0 then (true, (m.modPort f fun q => { q with fiArmed := false }).count (Reg.TRL_FI_CNT f))
    else
      let m1 := m.modPort f fun q => { q with fiCount := q.fiCount + 1 }
      if (p.fiCount + 1) % 2 ^ rate = 0 then (true, m1.count (Reg.TRL_FI_CNT f)) else (false, m1)

/-- Invert bit `i` of a byte string. -/
def flipBit (i : Nat) (bs : List Byte) : List Byte := modNth (fun b => b ^^^ BitVec.ofNat 8 (2 ^ (i % 8))) (i / 8) bs

/-- Put one DATA flit on the wire, under DROP or CORRUPT injection (R271, R289). -/
def Mach.sendData (m : Mach) (f : Nat) (x : TxFlit) : Mach :=
  match m.port? f with
  | none => m
  | some p =>
    let m := m.modPort f fun q => { q with sinceLink := q.sinceLink + 1 }
    let wire := p.flit (if x.poisoned then 2 else 1) x.seq x.eop x.vc x.payload
    let mode := m.fiMode f
    if m.fiOn p && x.gal == p.gallery && (mode == 1 || mode == 2) then
      let r := m.fiTry f
      if !r.1 then r.2.sendFlit f wire
      else if mode = 1 then r.2
      else r.2.sendFlit f (flipBit (m.fld (Reg.TRL_FI_CTL f) 10 0) wire)
    else m.sendFlit f wire

/-- The DATA flits of a packet from a sequence number on (R264): all DATA_POISONED when its POISON flag is set, or those from
`badFrom` on (R276). -/
def packetFlits (seq : Nat) (p : Packet) (badFrom : Option Nat) : List TxFlit :=
  let parts := piecesOf 248 (pktFlits p) (pktWire p)
  parts.zipIdx.map fun x =>
    { seq := (seq + x.2) % 4096, poisoned := p.poison || badFrom.any fun n => decide (n ≤ x.2), eop := x.2 + 1 == parts.length, vc := p.vc.toNat,
      payload := x.1, gal := p.gallery.toNat }

/-- Send every flit of a packet and keep them for replay (R271, R273, 13 R364). -/
def Mach.sendPacket (m : Mach) (f : Nat) (pkt : Packet) (routed : Bool) (badFrom : Option Nat := none) : Mach :=
  match m.port? f with
  | none => m
  | some p =>
    let fl := packetFlits p.txSeq pkt badFrom
    let last := (p.txSeq + fl.length + 4095) % 4096
    let m1 := m.modPort f fun q => { q with
      txSeq := (q.txSeq + fl.length) % 4096, replay := q.replay ++ fl, sent := q.sent ++ [⟨last, pkt.epoch, routed⟩] }
    fl.foldl (fun a x => a.sendData f x) m1

/-- Start a packet whose credit has been taken: sent, or held under REORDER, and the one held before it of its VC and gallery
released behind it (R289). -/
def Mach.startPacket (m : Mach) (f : Nat) (pkt : Packet) (routed : Bool) (badFrom : Option Nat := none) : Mach :=
  match m.port? f with
  | none => m
  | some p =>
    let like (h : HeldPkt) : Bool := h.pkt.vc == pkt.vc && h.pkt.gallery == pkt.gallery
    let on := m.fiOn p && pkt.gallery.toNat == p.gallery
    let r := if on && m.fiMode f == 3 && !pkt.ordered then m.fiTry f
      else if on && m.fiMode f == 4 then (false, m.count (Reg.TRL_FI_CNT f)) else (false, m)
    if r.1 then r.2.modPort f fun q => { q with fiHeld := q.fiHeld ++ [⟨pkt, routed, badFrom⟩] }
    else
      let a := r.2.sendPacket f pkt routed badFrom
      match p.fiHeld.find? like with
      | some h => (a.modPort f fun q => { q with fiHeld := eraseFirst like q.fiHeld }).sendPacket f h.pkt h.routed h.badFrom
      | none => a

/-- A write of TRL_FI_CTL (R289): MODE 0 or a reserved one disarms, GO arms. -/
def Mach.fiCtl (m : Mach) (f value : Nat) : Mach :=
  let m1 := m.writeRw (Reg.TRL_FI_CTL f) 0x7F0007FF value
  let mode := bits value 30 28
  let m2 := if mode > 4 then m1.setFld (Reg.TRL_FI_CTL f) 30 28 0 else m1
  if mode = 0 || 4 < mode then m2.modPort f fun q => { q with fiArmed := false }
  else if bitOf value 31 then m2.modPort f fun q => { q with fiArmed := true, fiCount := 0 }
  else m2

/-- TRL_FI_GO, R289: a write of TRL_FI_CTL. -/
def execTrlFiGo (port : BitVec 9) (value : Word) (s : State) : Host.Outcome State Fault Refusal :=
  s.runM fun _ m => m.regCmd (Reg.TRL_FI_CTL port.toNat) fun m => m.fiCtl port.toNat value.toNat

/-- REORDER_TIMEOUT, R289: the packet held longest is sent. -/
def execReorderTimeout (port : BitVec 9) (s : State) : Host.Outcome State Fault Refusal :=
  s.runM fun _ m => m.whenRunning fun m =>
    let f := port.toNat
    match m.port? f with
    | none => m
    | some p =>
      match p.fiHeld with
      | [] => m
      | h :: t => (m.modPort f fun q => { q with fiHeld := t }).sendPacket f h.pkt h.routed h.badFrom

/-! ### Acknowledgement and replay (R271 to R275) -/

/-- An ACK acknowledges every flit up to its number; it leaves the replay buffer (R271). -/
def Mach.ackUp (m : Mach) (f ack : Nat) : Mach :=
  match m.port? f with
  | none => m
  | some p =>
    match p.replay.findIdx? fun x => x.seq == ack with
    | none => m
    | some i =>
      let gone := p.replay.take (i + 1)
      m.modPort f fun q => { q with
        replay := q.replay.drop (i + 1), sent := q.sent.filter fun c => !gone.any fun x => x.seq == c.endSeq }

/-- Replay from place `i` of the replay buffer: counted, or the port goes DOWN when a flit has been resent RETRY_LIMIT
times without an ACK past it (R273, R275). -/
def Mach.resend (m : Mach) (st : Store) (f i : Nat) : Mach :=
  match m.port? f with
  | none => m
  | some p =>
    let fl := p.replay.drop i
    let limit := max 1 (m.fld (Reg.TRL_REPLAY_CFG f) 19 16)
    if fl.isEmpty then m
    else if fl.any fun x => decide (limit ≤ x.tries) then m.portDown st f
    else
      let again := fl.map fun x => { x with tries := x.tries + 1 }
      let m1 := (m.modPort f fun q => { q with replay := q.replay.take i ++ again }).count (Reg.TRL_RETRY_CNT f)
      again.foldl (fun a x => a.sendData f x) (m1.countWrap Reg.DGT_TEV_RETRY)

/-- A NAK for a SEQ (R273): nothing to resend when it is the next new number. -/
def Mach.nak (m : Mach) (st : Store) (f seq : Nat) : Mach :=
  match m.port? f with
  | none => m
  | some p =>
    match p.replay.findIdx? fun x => x.seq == seq with
    | some i => m.resend st f i
    | none => m

/-- A flit fails its CRC, or a DATA flit has an unexpected SEQ (R272): one NAK for a gap, one for every CRC failure. -/
def Mach.rxBad (m : Mach) (p : Port) (crc : Bool) : Mach :=
  if crc || !p.naking then
    let m1 := m.count (Reg.TRL_CRC_CNT p.first)
    if p.linked || p.exchanging then (m1.modPort p.first fun q => { q with naking := true }).sendLink p.first true 0 else m1
  else m

/-- A SEQ that has already been accepted, which a timeout replay repeats: behind the expected one by no more than the partner's replay
buffer holds (R272, R274). -/
def seqOld (depth next seq : Nat) : Bool :=
  let d := (next + 4096 - seq) % 4096
  decide (1 ≤ d) && decide (d ≤ depth)

/-- A corrected codeword, with its symbols (11 R327). -/
def Mach.fecCount (m : Mach) (n syms : Nat) : Mach :=
  let m1 := ((m.count (Reg.LNE_FEC_CORR_CNT n)).countN (Reg.LNE_FEC_SYM_CNT n) syms)
  m1.setFld (Reg.LNE_FEC_PEAK n) 15 0 (max (m1.fld (Reg.LNE_FEC_PEAK n) 15 0) syms)

/-- A group that a lane's receiver has decoded (11 R294, R298, R327): each of its codewords that was corrected is counted. One that
cannot be corrected is UNCORRECTABLE_CODEWORD. -/
def Mach.groupRx (m : Mach) (n : Nat) (levels : List (BitVec 2)) : Mach :=
  let words := groupRead (m.flag (Reg.LNE_LANE_STATUS n) 20) (m.lane n).rxY levels
  (words.foldl (fun a w => match w with
    | some x => if x.2.2 = 0 then a else a.fecCount n x.2.2
    | none => a) m).modLane n fun y => { y with rxY := levels.getLastD 0 }

/-- What the receiver of a port reassembles of a group from the levels its lanes carry, by position in the receive mask (10 R262,
11 R297, R315): nothing of a LOCK group. -/
def Mach.groupBytes (m : Mach) (p : Port) (levels : Nat → List (BitVec 2)) : List Byte :=
  unstripe 2560 ((setBitsOf 8 p.rxMask).map fun i =>
    groupStream (groupRead (m.flag (Reg.LNE_LANE_STATUS (p.first + i)) 20) (m.lane (p.first + i)).rxY (levels i)))

/-- A flit arrives (R260, R261, R271, R272). -/
def Mach.flitRx (m : Mach) (f : Nat) (flit : List Byte) (failed : Bool) : Mach :=
  match m.port? f with
  | none => m
  | some p =>
    let w := leNat (flit.take 4)
    let ft := bits w 31 29
    let seq := bits w 28 17
    if !(p.linked || p.exchanging) then m
    else if failed || leNat (flit.drop 252) != crc32 (flit.take 252) || decide (5 ≤ ft) then m.rxBad p true
    else
      let m1 := if bitOf w 4 then m.ackUp f (bits w 16 5) else m
      if (ft = 1 || ft = 2) && p.linked then
        if seq = p.rxNext then
          m1.modPort f fun q => { q with
            rxNext := (seq + 1) % 4096, rxAny := true, naking := false, rxPart := if bitOf w 3 then 0 else q.rxPart + 1
            rxBytes := if bitOf w 3 then [] else q.rxBytes ++ (flit.drop 4).take 248 }
        else if p.rxAny && seqOld (replayDepth p.width) p.rxNext seq then m1
        else m1.rxBad p false
      else m1

/-- FLIT_RX, R272: the flit's bytes, whether one was marked failed (11 R299), and the groups its lanes have completed with it. -/
def execFlitRx (port : BitVec 9) (flit : List Byte) (failed : Bool) (groups : List (BitVec 9 × List (BitVec 2))) (s : State) :
    Host.Outcome State Fault Refusal :=
  s.runM fun _ m => m.whenRunning fun m =>
    (groups.foldl (fun a x => a.groupRx x.1.toNat x.2) m).flitRx port.toNat flit failed

/-- NAK_RX, R273. -/
def execNakRx (port : BitVec 9) (seq : BitVec 12) (s : State) : Host.Outcome State Fault Refusal :=
  s.runM fun st m => m.whenRunning fun m => m.nak st port.toNat seq.toNat

/-- ACK_TIMEOUT, R272, R273: the receiver sends its NAK again, or the transmitter replays from its oldest flit. -/
def execAckTimeout (port : BitVec 9) (receiver : Bool) (s : State) : Host.Outcome State Fault Refusal :=
  s.runM fun st m => m.whenRunning fun m =>
    let f := port.toNat
    match m.port? f with
    | none => m
    | some p =>
      if !p.linked then m
      else if receiver then (if p.naking then m.sendLink f true 0 else m)
      else m.resend st f 0

/-! ### Credit and link requests (R266 to R269) -/

/-- Returned credit: the advance of each cumulative count (R268). -/
def Port.takeCredit (p : Port) (ret : List Nat) : Port :=
  { p with
    credit := (List.range 8).map fun v => p.credit.getD v 0 + (ret.getD v 0 + 65536 - p.retSeen.getD v 0) % 65536
    retSeen := (List.range 8).map fun v => ret.getD v 0 }

/-- A DOWN notice: the link is lost on receipt (R266). -/
def Mach.downNotice (m : Mach) (st : Store) (f : Nat) : Mach :=
  match m.port? f with
  | some p => if p.linked then m.portDown st f else m
  | none => m

/-- A link request (R266), of a partner that speaks revision 0x03 (R280). -/
def Mach.linkReq (m : Mach) (st : Store) (f req : Nat) : Mach :=
  if !(m.port? f).any fun p => decide (3 ≤ p.negRev) then m
  else if req = 1 then m.modPort f fun q => { q with quiesced := true }
  else if req = 2 then m.modPort f fun q => { q with quiesced := false }
  else if req = 3 then m.downNotice st f
  else m

/-- LINK_FLIT, R268: credit, then a NAK, then a request. -/
def execLinkFlit (port : BitVec 9) (msg : LinkMsg) (s : State) : Host.Outcome State Fault Refusal :=
  s.runM fun st m => m.whenRunning fun m =>
    let f := port.toNat
    match m.port? f with
    | none => m
    | some p =>
      if !p.linked then m
      else
        let m1 := m.modPort f fun q => q.takeCredit (msg.creditRet.map (·.toNat))
        let m2 := if msg.nak then m1.nak st f msg.nakSeq.toNat else m1
        m2.linkReq st f msg.req.toNat

/-- QUIESCE, R266. -/
def execQuiesce (port : BitVec 9) (s : State) : Host.Outcome State Fault Refusal :=
  s.runM fun st m => m.whenRunning fun m => m.linkReq st port.toNat 1

/-- RESUME, R266. -/
def execResume (port : BitVec 9) (s : State) : Host.Outcome State Fault Refusal :=
  s.runM fun st m => m.whenRunning fun m => m.linkReq st port.toNat 2

/-- DOWN_NOTICE, R266. -/
def execDownNotice (port : BitVec 9) (s : State) : Host.Outcome State Fault Refusal :=
  s.runM fun st m => m.whenRunning fun m => m.linkReq st port.toNat 3

/-! ### The identity exchange (R278 to R281) -/

/-- A message of the exchange reaches a port: on an UP or DEGRADED port any IDENT flit is a link loss (16 R433); while the
exchange runs, or on a quarantined port, it has its effect. -/
def Mach.onIdent (m : Mach) (st : Store) (f : Nat) (g : Port → Mach → Mach) : Mach :=
  m.whenRunning fun m =>
    match m.port? f with
    | none => m
    | some p => if p.usable then m.portDown st f else if p.exchanging || p.state == .quarantine then g p m else m

/-- Send DONE; the exchange ends when the partner's has come (R279). -/
def Mach.finishAuth (m : Mach) (st : Store) (f : Nat) : Mach :=
  let m1 := (m.sendIdMsg f 4 []).modPort f fun q => { q with doneSent := true }
  match m1.port? f with
  | some p => if p.doneRcvd && p.exchanging then m1.exchangeEnd st f else m1
  | none => m1

/-- Authentication fails: the port is quarantined (R281). -/
def Mach.authFail (m : Mach) (st : Store) (f : Nat) : Mach :=
  ((m.sendIdMsg f 4 []).modPort f fun q => { q with doneSent := true, authState := 2, authFailed := true }).exchangeEnd st f

/-- Both ends have seen each other (R279 step 2): the challenge runs when either requires it (R281), else DONE. -/
def Mach.authStep (m : Mach) (st : Store) (f : Nat) : Mach :=
  match m.port? f with
  | none => m
  | some p =>
    let need := p.authOn || (p.ident.getD {}).authReq
    if need && decide (2 ≤ p.negRev) then
      let d := m.draw 256
      let nonce := leBytes 32 d.1
      (d.2.modPort f fun q => { q with authState := 3, nonce }).sendIdMsg f 2 nonce
    else if p.authOn then m.authFail st f
    else m.finishAuth st f

/-- A valid IDENT: a defined KIND and a width of 1 to 8 (R278). -/
def identValid (i : Ident) : Bool := decide (i.kind.toNat < 2) && decide (1 ≤ i.width.toNat) && decide (i.width.toNat ≤ 8)

/-- IDENT, R279: the first valid one is recorded and answered, a later one that differs takes the port DOWN, and one with
PEER_SEEN leads on. -/
def execIdent (port : BitVec 9) (msg : Ident) (s : State) : Host.Outcome State Fault Refusal :=
  s.runM fun st m =>
    let f := port.toNat
    m.onIdent st f fun p m =>
      if !identValid msg then m
      else if p.partnerSeen && (p.ident.map fun i => { i with peerSeen := true }) != some { msg with peerSeen := true } then
        m.portDown st f
      else if !p.exchanging then m
      else
        let m1 := if p.partnerSeen then m
          else (m.modPort f fun q => { q with
            ident := some msg, partnerSeen := true, negRev := min 3 msg.revMax.toNat }).sendIdent f
        if msg.peerSeen && !p.bothSeen then (m1.modPort f fun q => { q with bothSeen := true }).authStep st f else m1

/-- IDENT_RESEND, R278: while the port is TRAINING its message is sent again, those after IDENT together. -/
def execIdentResend (port : BitVec 9) (s : State) : Host.Outcome State Fault Refusal :=
  s.runM fun _ m => m.whenRunning fun m =>
    match m.port? port.toNat with
    | some p =>
      if !p.exchanging then m
      else if p.idSent.isEmpty then m.sendIdent p.first
      else p.idSent.foldl (fun a x => a.idMsg p.first x.1 x.2) m
    | none => m

/-- IDENT_TIMEOUT, R279. -/
def execIdentTimeout (port : BitVec 9) (s : State) : Host.Outcome State Fault Refusal :=
  s.runM fun st m => m.whenRunning fun m =>
    match m.port? port.toNat with
    | some p => if p.exchanging && !p.partnerSeen then m.portDown st port.toNat else m
    | none => m

/-- The 16 bytes of a UNIT_ID. -/
def uidBytes (i : Ident) : List Byte := leBytes 16 i.uid.toNat

/-- What a signer signs (R281): the nonce, its own IDENT payload and the challenger's, each with PEER_SEEN set. -/
def challengeText (nonce : List Byte) (signer challenger : Ident) : List Byte :=
  nonce ++ identPayload { signer with peerSeen := true } ++ identPayload { challenger with peerSeen := true }

/-- KEY, 20 R508: the key must give the partner's UNIT_ID. -/
def execLinkKey (port : BitVec 9) (key : List Byte) (s : State) : Host.Outcome State Fault Refusal :=
  s.runM fun st m =>
    let f := port.toNat
    m.onIdent st f fun p m =>
      if p.authState != 3 then m
      else if (sm3 key).take 16 != uidBytes (p.ident.getD {}) then m.authFail st f
      else m.modPort f fun q => { q with peerKey := key }

/-- CHALLENGE, R281: answered with KEY and RESPONSE; no RESPONSE while group 37 is fenced (20 R509). -/
def execChallenge (port : BitVec 9) (nonce : List Byte) (s : State) : Host.Outcome State Fault Refusal :=
  s.runM fun st m =>
    let f := port.toNat
    m.onIdent st f fun p m =>
      match p.ident with
      | none => m
      | some i =>
        let m1 := m.sendIdMsg f 1 unitKey
        if m.flt.fences.contains 37 then m1
        else
          let d := m1.draw 256
          d.2.sendIdMsg f 3 (sm2Sign (d.1 % (sm2N - 1) + 1) (challengeText nonce (m.ownIdent p) i))

/-- RESPONSE, R281. -/
def execResponse (port : BitVec 9) (sig : List Byte) (s : State) : Host.Outcome State Fault Refusal :=
  s.runM fun st m =>
    let f := port.toNat
    m.onIdent st f fun p m =>
      if p.authState != 3 then m
      else
        let i := p.ident.getD {}
        if sm2Verify p.peerKey (uidBytes i) (challengeText p.nonce i (m.ownIdent p)) sig then
          (m.modPort f fun q => { q with authState := 1 }).finishAuth st f
        else m.authFail st f

/-- AUTH_TIMEOUT, R281. -/
def execAuthTimeout (port : BitVec 9) (s : State) : Host.Outcome State Fault Refusal :=
  s.runM fun st m => m.whenRunning fun m =>
    match m.port? port.toNat with
    | some p => if p.authState == 3 then m.authFail st port.toNat else m
    | none => m

/-- DONE, R279: numbers and credit counts restart, the partner's CREDIT_INIT is loaded, and the exchange ends once this
end has sent its own. -/
def execLinkDone (port : BitVec 9) (s : State) : Host.Outcome State Fault Refusal :=
  s.runM fun st m =>
    let f := port.toNat
    m.onIdent st f fun p m =>
      match p.ident with
      | none => m
      | some i =>
        if !p.partnerSeen || p.doneRcvd then m
        else
          let m1 := m.modPort f fun q => { q with
            doneRcvd := true, txSeq := 0, rxNext := 0, rxAny := false, replay := [], retSeen := List.replicate 8 0,
            retOut := List.replicate 8 0, retSent := List.replicate 8 0, credit := i.credit.map (·.toNat) }
          if p.doneSent && p.exchanging then m1.exchangeEnd st f else m1

end Sys2Proof.Machine
end

