-- ==== Sys2Proof/Machine/Egress.lean ====
section
/-! DEFINITION. Egress.lean: what leaves the queues: fill and Sump writes of 12, escape and epoch flips of 13, the scheduler
and shapers of 14. -/
namespace Sys2Proof.Machine

/-- The queue a selector names. -/
def qkey : QSel → QKey
  | .port p v => .port p.toNat v.toNat
  | .engine d => .engine d.toNat
  | .fmem d => .fmem d.toNat
  | .mgmt d => .mgmt d.toNat

/-! ### Fill and Sump writes (12 R336 to R339) -/

/-- The oldest Sump packet of a queue. -/
def Queue.oldestSump (q : Queue) : Option QPkt := q.pkts.find? fun x => x.loc == .sump

/-- A packet may be taken from a queue's Sump part (12 R338). -/
def Mach.fillFits (m : Mach) (q : Queue) (x : QPkt) : Bool :=
  decide (q.onDie + x.cells ≤ m.qLimit q.key) && decide (m.floorOf q.key.die + x.cells ≤ m.freeCells q.key.die)

/-- The fill channel of the stack that holds a queue's oldest Sump packet is halted (17 R455). -/
def Mach.fillHalted (m : Mach) (q : Queue) : Bool :=
  match q.pages with
  | p :: _ => m.flag Reg.ECC_SUMP_HALT (pageStack p) || m.flt.fences.contains (20 + pageStack p)
  | [] => false

/-- Cells of the packet that a spilled queue of the die could have taken before `x`: it was spilled before and fits. -/
def Mach.fillAhead (m : Mach) (q : Queue) (x : QPkt) (r : Queue) : Nat :=
  if r.key == q.key || r.key.die != q.key.die || m.fillHalted r then 0
  else
    match r.oldestSump with
    | some y => if y.seq < x.seq && m.fillFits r y then y.cells else 0
    | none => 0

/-- The die's free cells do not allow a packet beside the packets spilled before it that its other queues could have taken:
those go first (12 R338). -/
def Mach.fillBehind (m : Mach) (q : Queue) (x : QPkt) : Bool :=
  decide (m.freeCells q.key.die < m.floorOf q.key.die + x.cells + sumOf (m.fillAhead q x) m.sw.queues)

/-- Mark the queue spilled while packets of its Sump part, or waiting for it, are left (12 R336). -/
def Queue.reSpill (q : Queue) : Queue := { q with spilled := q.pkts.any fun x => x.loc == .sump || x.loc == .staged }

/-- The fill engine takes a packet: it holds cells from now on and joins the on-die part (12 R338). -/
def Mach.fillTake (m : Mach) (q : Queue) (x : QPkt) : Mach :=
  let c := m.newChain q.key.die x.cells 1
  let r := c.2.readSump q x.cells
  r.2.setQueue ({ r.1 with
    pkts := modFirst (fun y => y.seq == x.seq) (fun y => { y with loc := .filling, chain := c.1, whole := true }) r.1.pkts }).reSpill

/-- A queue whose packet with queueing number `n` is poisoned. -/
def Queue.poison (q : Queue) (n : Nat) : Queue :=
  { q with pkts := modFirst (fun y => y.seq == n) (fun y => { y with pkt := { y.pkt with poison := true } }) q.pkts }

/-- A queue whose oldest Sump packet lies in a page whose pointer has failed: the page is never pushed again and the packet is
poisoned (07 R188). -/
def Queue.badPage (q : Queue) (x : QPkt) : Queue :=
  { q.poison x.seq with pages := modNth (fun p => 2 ^ 27 + p % 2 ^ 27) 0 q.pages }

/-- A pop for the page of a packet that has just been written to Sump met a failed pointer: its buffer is lost and the packet is
poisoned (07 R188). -/
def Mach.spillFault (m : Mach) (k : QKey) (seq : Nat) (err : HwErr) : Mach :=
  let q := m.queue k
  let st := pageStack (q.pages.getLastD 0)
  if !(q.pkts.any fun x => x.loc == .sump && x.seq == seq) then m
  else
    match m.ptrFault err (2 + k.die) st with
    | none => m
    | some a =>
      let b := match (a.pool st).sumpPop with
        | some (_, p) => a.setPool p
        | none => a
      b.setQueue (q.poison seq)

/-- FILL_TAKE, 12 R338; an uncorrectable error halts the fill channel of the stack (17 R454), and a failed page pointer loses
the page and poisons the packet (07 R188). -/
def execFillTake (q : QSel) (err : HwErr) (s : State) : Host.Outcome State Fault Refusal :=
  s.runM fun _ m => m.whenRunning fun m =>
    let qu := m.queue (qkey q)
    match qu.oldestSump with
    | none => m
    | some x =>
      if !m.fillFits qu x || m.fillHalted qu || m.fillBehind qu x then m
      else
        let stack := pageStack (qu.pages.headD 0)
        match err with
        | .badPtr p => if p.toNat = 2 + qu.key.die then (m.ptrFailed p.toNat).fillTake (qu.badPage x) x else m.fillTake qu x
        | .ue 14 pos addr =>
          (((m.eccUe 14 stack pos.toNat addr.toNat).setFlag Reg.ECC_SUMP_HALT stack true).raisePin (20 + stack) 2 stack
            0x30).setQueue { qu with pkts := modFirst (fun y => y.seq == x.seq) (fun y => { y with failed := true }) qu.pkts }
        | .ce 14 pos addr hard => (m.eccCe 14 stack pos.toNat addr.toNat hard).fillTake qu x
        | _ => m.fillTake qu x

/-- FILL_HEAD_WRITTEN, 12 R338: egress may start the packet from now on. -/
def execFillHeadWritten (q : QSel) (s : State) : Host.Outcome State Fault Refusal :=
  s.runM fun _ m => m.whenRunning fun m =>
    let qu := m.queue (qkey q)
    m.setQueue { qu with pkts := modFirst (fun x => x.loc == .filling) (fun x => { x with loc := .onDie }) qu.pkts }

/-- SUMP_WRITE, 12 R339: the packet that has waited longest is written and its credit returned. -/
def execSumpWrite (w : SumpWr) (s : State) : Host.Outcome State Fault Refusal :=
  s.runM fun _ m => m.whenRunning fun m =>
    let qu := m.queue (qkey w.q)
    match qu.pkts.find? fun x => x.loc == .staged with
    | none => m
    | some x =>
      let n := qu.newPages x.cells
      let cap := match qu.key with
        | .port p v => m.fld (Reg.SWC_QCFG p v) 31 16
        | _ => 0
      let free := m.dieSumpFree qu.key.die
      if free = 0 || free < n || (cap ≠ 0 && cap * 64 < qu.pages.length + n) then m
      else
        let r := m.writeSump qu x
        let a := r.2.setQueue { r.1 with
          pkts := modFirst (fun y => y.seq == x.seq) (fun y => { y with loc := .sump, chain := 0, whole := true }) r.1.pkts }
        if n = 0 then a else a.spillFault qu.key x.seq w.err

/-- REHASH_HOLD_END, 12 R344. -/
def execRehashHoldEnd (port : BitVec 9) (vc : BitVec 3) (s : State) : Host.Outcome State Fault Refusal :=
  s.runM fun _ m => m.whenRunning fun m =>
    let qu := m.queue (.port port.toNat vc.toNat)
    m.setQueue { qu with pkts := modFirst (fun x => x.held) (fun x => { x with held := false }) qu.pkts }

/-! ### Shapers (14 R377 to R382) -/

/-- PKT_MODE of a shaper. -/
def Mach.pktMode (m : Mach) (p v : Nat) : Bool := m.flag (Reg.SHP_CFG p v) 30

/-- A full bucket: the burst size in the unit of the mode, raised to its minimum (14 R379). -/
def burstLevel (packets : Bool) (burst : Nat) : Nat := if packets then 1000 * max 1 burst else max 4255 burst

/-- Full level of C. -/
def Mach.cFull (m : Mach) (p v : Nat) : Nat := burstLevel (m.pktMode p v) (m.fld (Reg.SHP_CBS p v) 23 0)
/-- Full level of P. -/
def Mach.pFull (m : Mach) (p v : Nat) : Nat := burstLevel (m.pktMode p v) (m.fld (Reg.SHP_PBS p v) 23 0)

/-- The bucket levels of a shaper. -/
def Mach.buckets (m : Mach) (p v : Nat) : Nat × Nat :=
  match m.shapers.find? fun s => s.key == 8 * p + v with
  | some s => (s.c, s.p)
  | none => (m.cFull p v, m.pFull p v)

/-- Set the bucket levels; a full shaper is not listed. -/
def Mach.setBuckets (m : Mach) (p v c q : Nat) : Mach :=
  let rest := m.shapers.filter fun s => s.key != 8 * p + v
  { m with shapers := if c = m.cFull p v && q = m.pFull p v then rest else ⟨8 * p + v, c, q⟩ :: rest }

/-- CIR. -/
def Mach.cir (m : Mach) (p v : Nat) : Nat := m.fld (Reg.SHP_RATE p v) 15 0
/-- PIR. -/
def Mach.pir (m : Mach) (p v : Nat) : Nat := m.fld (Reg.SHP_RATE p v) 31 16

/-- The shaper is enabled. -/
def Mach.shaped (m : Mach) (p v : Nat) : Bool := m.flag (Reg.SHP_CFG p v) 31

/-- Shaper cost of a packet (14 R378). -/
def Mach.shapeCost (m : Mach) (p v : Nat) (pkt : Packet) : Nat :=
  if m.pktMode p v then 1000 else pktBytes pkt + m.fld (Reg.SHP_CFG p v) 5 0

/-- A packet conforms to class c, 0 committed and 1 peak (14 R381). -/
def Mach.conforms (m : Mach) (p v c : Nat) (pkt : Packet) : Bool :=
  if !m.shaped p v then c == 0
  else
    let b := m.buckets p v
    let k := m.shapeCost p v pkt
    let peak := m.pir p v == 0 || decide (k ≤ b.2)
    if c = 0 then m.cir p v != 0 && decide (k ≤ b.1) && peak else peak

/-- Take the cost of a packet that starts (14 R381). -/
def Mach.payShaper (m : Mach) (p v c : Nat) (pkt : Packet) : Mach :=
  if !m.shaped p v then m
  else
    let b := m.buckets p v
    let k := m.shapeCost p v pkt
    m.setBuckets p v (if c = 0 then b.1 - k else b.1) (if m.pir p v = 0 then b.2 else b.2 - k)

/-- SHAPER_REFILL, 14 R380: CIR and PIR units into C and P for every boundary of 80 ns of advance that has come since the last one,
clipped at the burst sizes. -/
def execShaperRefill (s : State) : Host.Outcome State Fault Refusal :=
  s.runM fun _ m => m.whenRunning fun m =>
    let n := m.advNs / 80 - m.time.refills
    { m with time := { m.time with refills := max m.time.refills (m.advNs / 80) } } |> fun m => m.shapers.foldl (fun a x =>
      let p := x.key / 8
      let v := x.key % 8
      a.setBuckets p v (min (m.cFull p v) (x.c + n * m.cir p v)) (min (m.pFull p v) (x.p + n * m.pir p v))) m

/-- Offset of a shaper register. -/
def shpOffset (p v : Nat) : ShpReg → Nat
  | .cfg => Reg.SHP_CFG p v | .rate => Reg.SHP_RATE p v | .cbs => Reg.SHP_CBS p v | .pbs => Reg.SHP_PBS p v

/-- RW bits of a shaper register. -/
def shpMask : ShpReg → Nat
  | .cfg => 0xC000003F | .rate => 0xFFFFFFFF | .cbs => 0xFFFFFF | .pbs => 0xFFFFFF

/-- A write of a shaper register (14 R377, R382): both buckets become full; EN 1 on VC0 or VC1 is discarded and counted. -/
def Mach.shaperWrite (m : Mach) (p v : Nat) (r : ShpReg) (value : Nat) : Mach :=
  if r = .cfg && v < 2 && bitOf value 31 then m.count Reg.SHP_CFG_ERR_CNT
  else
    let m1 := m.writeRw (shpOffset p v r) (shpMask r) value
    { m1 with shapers := m1.shapers.filter fun s => s.key != 8 * p + v }

/-- SHAPER_WRITE, 14 R382. -/
def execShaperWrite (port : BitVec 9) (vc : BitVec 3) (reg : ShpReg) (value : Word) (s : State) :
    Host.Outcome State Fault Refusal :=
  s.runM fun _ m => m.regCmd (shpOffset port.toNat vc.toNat reg) fun m =>
    m.shaperWrite port.toNat vc.toNat reg value.toNat

/-! ### Chimney (13 R358 to R361) -/

/-- Queue a packet's chain on the VC0 queue of an escape port; a port of the other hub die needs cells of its own (13 R359). -/
def Mach.chimneyIn (m : Mach) (f esc : Nat) (x : QPkt) : Mach :=
  let p := { x.pkt with vc := 0, escape := true }
  if dieOf esc ≠ dieOf f then (m.freeCopy x).toPort esc p none x.routed false x.whole x.badFrom
  else
    match m.egressBar esc p with
    | some cnt => (m.freeCopy x).count cnt
    | none =>
      let y := m.stampCopy p x.chain none x.routed false x.whole x.badFrom
      y.2.place (.port esc 0) y.1

/-- Move the head of a port queue into Chimney, or count that it cannot (13 R359, R361). -/
def Mach.escapeHead (m : Mach) (st : Store) (f v : Nat) : Mach :=
  let k : QKey := .port f v
  let q := m.queue k
  match q.pkts with
  | [] => m
  | x :: t =>
    let e := m.routeEntry st (dieOf f) (b2n x.pkt.epoch) x.pkt.dest.toNat
    if reValid e && reEscValid e && m.portUsable (reEscPort e) then
      let m1 := m.setQueue { q with pkts := t, escape := q.escape || x.pkt.ordered }
      (m1.chimneyIn f (reEscPort e) x).count Reg.RTE_ESCAPE_CNT
    else if x.escCounted then m
    else (m.setQueue { q with pkts := { x with escCounted := true } :: t }).count Reg.RTE_ESC_BLOCK_CNT

/-- In escape mode every packet that reaches the head goes to Chimney at once (13 R361), but for a stale one, which goes away (12 R347);
one that cannot go stays. -/
def Mach.escapeAll (m0 : Mach) (st : Store) (f v : Nat) : Nat → Mach
  | 0 => m0
  | n + 1 =>
    let m := m0.dropStale (.port f v) (n + 1)
    let q := m.queue (.port f v)
    match q.pkts with
    | x :: _ =>
      if q.escape && m.flag Reg.RTE_CTL 0 && x.loc == .onDie then
        let m1 := m.escapeHead st f v
        if (m1.queue (.port f v)).pkts.length < q.pkts.length then Mach.escapeAll m1 st f v n else m1
      else m
    | [] => m

/-- Bring the head of a port queue up to date: stale copies go (12 R347), and escape mode drains (13 R361). -/
def Mach.settleHead (m : Mach) (st : Store) (f v : Nat) : Mach :=
  let n := (m.queue (.port f v)).pkts.length
  (m.dropStale (.port f v) n).escapeAll st f v n

/-- Nanoseconds that n flits take at a width, rounded up (10 R262); at port level S flits start at 0.70 / 1.35 of the rate (21 R526). -/
def flitNs (levelS : Bool) (n w : Nat) : Nat :=
  if w = 0 then 0
  else if levelS then (n * 512 * 135 + 7000 * w - 1) / (7000 * w)
  else (n * 512 + 100 * w - 1) / (100 * w)

/-- Nanoseconds that n flits take on a port as it runs: its active width, the level of its port die. -/
def Mach.flitTime (m : Mach) (p : Port) (n : Nat) : Nat := flitNs (m.pwr.run.getD (p.first / 128) 0 == 1) n (maskWidth p.mask)

/-- ESCAPE, 13 R359: the head has been blocked for want of credit for RTE_ESC_THRESH while its VC was open. -/
def execEscape (port : BitVec 9) (vc : BitVec 3) (s : State) : Host.Outcome State Fault Refusal :=
  s.runM fun st m => m.whenRunning fun m =>
    let f := port.toNat
    let v := vc.toNat
    let m1 := m.settleHead st f v
    match m1.port? f, (m1.queue (.port f v)).pkts with
    | some p, x :: _ =>
      let n := pktFlits x.pkt
      if v ≠ 0 && m1.flag Reg.RTE_CTL 0 && x.loc == .onDie && m1.vcOpenFor v (m1.flitTime p n) &&
        decide (p.credit.getD v 0 < n) then (m1.escapeHead st f v).settleHead st f v else m1
    | _, _ => m1

/-- ORDER_HOLD_END, 13 R361: a queue that has been empty for RTE_ORDER_HOLD leaves escape mode. -/
def execOrderHoldEnd (port : BitVec 9) (vc : BitVec 3) (s : State) : Host.Outcome State Fault Refusal :=
  s.runM fun _ m => m.whenRunning fun m =>
    let q := m.queue (.port port.toNat vc.toNat)
    if q.pkts.isEmpty then m.setQueue { q with escape := false } else m

/-! ### Epoch flips (13 R363, R366) -/

/-- Refuse a flip with its cause. -/
def Mach.flipRefuse (m : Mach) (cause feid : Nat) : Mach :=
  { m.wr Reg.RTE_FLIP_ERR (BitVec.ofNat 32 (cause * 65536 + feid)) with sw := { m.sw with flipRefused := true } }

/-- STAMP changes, and ARRIVED is cleared. -/
def Mach.flipNow (m : Mach) : Mach :=
  { m.setFlag Reg.RTE_STATUS 28 false with sw := { m.sw with stamp := !m.sw.stamp, flipBusy := false } }

/-- FLIP is written: causes 2 to 4 refuse it at once; with TREE_CHANGE the check is skipped (13 R363, R366). -/
def Mach.flip (m : Mach) : Mach :=
  let m1 := { m with sw := { m.sw with flipRefused := false } }
  if m.sw.flipBusy then m1.flipRefuse 2 0xFFFF
  else if m.oldCnt ≠ 0 then m1.flipRefuse 3 0xFFFF
  else if m.flag Reg.RTE_CTL 3 && m.vc0Cnt != 0 then m1.flipRefuse 4 0xFFFF
  else
    let m2 := m1.wr Reg.RTE_FLIP_ERR 0
    if m.flag Reg.RTE_CTL 3 then m2.flipNow else { m2 with sw := { m2.sw with flipBusy := true } }

/-- A write of RTE_CTL; ESC_EN 1 is discarded while group 30 is fenced at FC3 (18 R462). -/
def Mach.rteCtl (m : Mach) (value : Nat) : Mach :=
  let m1 := m.writeRw Reg.RTE_CTL (if m.flt.fences.contains 30 && bitOf value 0 then 8 else 9) value
  if bitOf value 2 then m1.flip else m1

/-- FLIP, 13 R363: a write of RTE_CTL. -/
def execFlip (value : Word) (s : State) : Host.Outcome State Fault Refusal :=
  s.runM fun _ m => m.regCmd Reg.RTE_CTL fun m => m.rteCtl value.toNat

/-- The FEIDs that fail the flip check (13 R363): valid in both banks, an escape port that leads to a switch, and the
escape ports differ. Failing entries are skipped (17 R456). -/
def Mach.flipBad (m : Mach) (st : Store) : List Nat :=
  ((st.route.filter fun c => decide (c.1 < 65536)).map (·.1)).filter fun feid =>
    let a := st.routeEntry 0 feid
    let b := st.routeEntry 1 feid
    let bad := m.ecc.badRoutes.any fun x => x.2 % 65536 == feid
    reValid a && reValid b && !bad &&
      ((reEscValid a && m.leadsToSwitch (reEscPort a)) || (reEscValid b && m.leadsToSwitch (reEscPort b))) &&
      (reEscValid a != reEscValid b || reEscPort a != reEscPort b)

/-- FLIP_CHECK_DONE, 13 R363. -/
def execFlipCheckDone (s : State) : Host.Outcome State Fault Refusal :=
  s.runM fun st m => m.whenRunning fun m =>
    if !m.sw.flipBusy then m
    else
      match m.flipBad st with
      | f :: _ => { m with sw := { m.sw with flipBusy := false } }.flipRefuse 1 f
      | [] => m.flipNow

/-! ### The pick (14 R371 to R376) -/

/-- Weight of a VC; 0 is taken as 1 (14 R373, R384). -/
def Mach.weight (m : Mach) (p v : Nat) : Nat :=
  max 1 (if v < 4 then m.fld (Reg.SHP_WEIGHT_LO p) (8 * v + 7) (8 * v) else m.fld (Reg.SHP_WEIGHT_HI p) (8 * (v - 4) + 7) (8 * (v - 4)))

/-- The head packet of a port queue is a candidate for class c (14 R372): it may start now, its VC stays open, the port
holds credit for every flit and room to keep them (10 R274), no QUIESCE bars it (10 R266), and the shaper conforms. -/
def Mach.cand (m : Mach) (p : Port) (v c : Nat) : Option QPkt :=
  match (m.queue (.port p.first v)).pkts with
  | x :: _ =>
    let n := pktFlits x.pkt
    if x.loc == .onDie && !x.held && m.vcOpenFor v (m.flitTime p n) && decide (n ≤ p.credit.getD v 0) &&
      decide (p.replay.length + sumOf (fun h => pktFlits h.pkt) p.fiHeld + n ≤ replayDepth p.width) && (v == 1 || !p.quiesced) && m.conforms p.first v c x.pkt
    then some x else none
  | [] => none

/-- Deficit of a queue in a class. -/
def Port.def_ (p : Port) (c v : Nat) : Nat := (p.deficit.getD c []).getD v 0

/-- Set the deficit of a queue in a class. -/
def Port.setDef (p : Port) (c v x : Nat) : Port := { p with deficit := modNth (modNth (fun _ => x) v) c p.deficit }

/-- The turns of one class: the current queue, then one lap (14 R374). -/
def Mach.pickClass (m : Mach) (c : Nat) : Nat → Port → Port × Option Nat
  | 0, p => (p, none)
  | n + 1, p =>
    let v := p.ptr.getD c 0
    let q := 17 * m.weight p.first v
    let next (r : Port) : Port × Option Nat :=
      let r1 := if (m.queue (.port p.first v)).pkts.isEmpty then (r.setDef 0 v 0).setDef 1 v 0 else r
      Mach.pickClass m c n { r1 with
        ptr := modNth (fun _ => (v + 1) % 8) c r1.ptr, turnOpen := modNth (fun _ => false) c r1.turnOpen }
    match m.cand p v c with
    | none => next p
    | some x =>
      let p1 := if p.turnOpen.getD c false then p
        else { p.setDef c v (min (p.def_ c v + q) (q + 16)) with turnOpen := modNth (fun _ => true) c p.turnOpen }
      let cost := pktFlits x.pkt
      if cost ≤ p1.def_ c v then (p1.setDef c v (p1.def_ c v - cost), some v) else next p1

/-- The pick of a port: the committed class first (14 R374), with its class. -/
def Mach.pick (m : Mach) (p : Port) : Port × Option (Nat × Nat) :=
  let a := m.pickClass 0 9 p
  match a.2 with
  | some v => (a.1, some (v, 0))
  | none =>
    let b := m.pickClass 1 9 a.1
    (b.1, b.2.map fun v => (v, 1))

/-- Start the head packet of a queue that was picked: shaper cost and credit are taken, its cells are freed, its flits
leave (14 R381, 10 R267). -/
def Mach.startHead (m : Mach) (f v c : Nat) (err : HwErr) : Mach :=
  let q := m.queue (.port f v)
  match q.pkts with
  | [] => m
  | x :: t =>
    let die := dieOf f
    let bad : Packet := { x.pkt with poison := true }
    let r : Packet × Mach := match err with
      | .ce 0 pos addr hard => (x.pkt, m.eccCe 0 die pos.toNat addr.toNat hard)
      | .ue 0 pos addr => (bad, m.eccUeNote 0 die pos.toNat addr.toNat)
      | .badPtr p => if p.toNat = die then (bad, (m.ptrFailed die).loseCell die) else (x.pkt, m)
      | _ => (x.pkt, m)
    let m1 := (r.2.payShaper f v c x.pkt).modPort f fun p => { p with
      credit := modNth (fun k => k - pktFlits x.pkt) v p.credit }
    ((m1.setQueue { q with pkts := t }).freeCopy x).startPacket f r.1 x.routed x.badFrom

/-- PICK, 14 R371, R374, behind a LINK flit that is due; with no candidate the port sends an IDLE flit (10 R265); `err` is an error met in the packet's cells (17 R454) or a failed link of its chain (07 R188). -/
def execPick (port : BitVec 9) (err : HwErr) (s : State) : Host.Outcome State Fault Refusal :=
  s.runM fun st m => m.whenRunning fun m =>
    let f := port.toNat
    let m1 := (List.range 8).foldl (fun a v => a.settleHead st f v) m
    match m1.port? f with
    | none => m1
    | some p =>
      if !p.linked then m1
      else
        let m2 := m1.linkSlot f ((List.range 8).any fun v => !(m1.queue (.port f v)).pkts.isEmpty)
        let r := m2.pick ((m2.port? f).getD p)
        let m3 := m2.modPort f fun _ => r.1
        match r.2 with
        | some (v, c) => (m3.startHead f v c err).settleHead st f v
        | none => m3.sendIdle f

end Sys2Proof.Machine
end

