-- ==== Sys2Proof/Machine/Ingress.lean ====
section
/-! DEFINITION. Ingress.lean: what the module does with a packet that a port has received (10 R282 to R287, 12 R329, R330,
13 R351 to R364, 16 R430, 18 R462). -/
namespace Sys2Proof.Machine

/-- A TIME packet is addressed to the time function of this end of its link: the module never forwards one (09 R244). -/
def timeStrays (p : Packet) : Bool := p.type == 3 && decide (p.dest.toNat < 0xFFF0)

/-- The type that a function FEID takes (13 R351). -/
def functionTakes (dest type : Nat) : Bool :=
  (dest == 0xFFF0 && type == 2) || (dest == 0xFFF1 && (type == 8 || type == 9 || type == 10)) ||
    (dest == 0xFFF5 && type == 16) || (dest == 0xFFF6 && type == 3)

/-- Hub die whose ENGINE queue holds a collective packet: that of the core that reduces its tile (12 R329). -/
def Mach.engineDie (m : Mach) (p : Packet) (ingress : Nat) : Nat :=
  match m.group? p.group.toNat with
  | some g => g.coreOf p.tile.toNat / 16
  | none => ingress

/-- Hub die whose FMEM queue holds a fabric-memory request: that of its page, or of its ALLOC stack (12 R329). -/
def fmemDie (p : Packet) (ingress : Nat) : Nat :=
  let c := fmCmd (.endpoint p)
  if c.w 0 / 2 ^ 28 = 0 then
    let s := bits (c.w 0) 25 22
    if s < 8 then s / 4 else ingress
  else hPage c.main / 2 ^ 22

/-- An MGMT_RX record for a packet at 0xFFF0 (15 R414); without room it is discarded and counted (15 R415). -/
def Mach.mgmtRx (m : Mach) (port : Nat) (p : Packet) : Mach :=
  let n := (32 + p.length.toNat + 63) / 64
  let ws := bytesWords (((pktHeader p) ++ p.payload ++ List.replicate (64 * n) 0).take (64 * n))
  let head : List Word := [0, BitVec.ofNat 32 (port * 2 ^ 23)] ++ List.replicate 14 0
  match m.tryReport (3 * 2 ^ 28) (head :: piecesOf 16 n ws) with
  | some m' => m'
  | none => m.count Reg.RNG_MGMT_DROP_CNT

/-- Hand the MGMT packets that wait on a die to Lantern firmware (12 R329); while Lantern is held in reset they are discarded
and counted (18 R474). -/
def Mach.drainMgmt (m : Mach) (die : Nat) : Mach :=
  (m.queue (.mgmt die)).pkts.foldl (fun a x =>
    let b := a.takeInternal .mgmt x.pkt
    if m.flt.lanternReset then b.count Reg.RNG_MGMT_DROP_CNT else b.mgmtRx ((x.ingress.map (·.1)).getD 0) x.pkt) m

/-- A Chimney packet would go back toward the root (13 R360). -/
def Mach.chimneyBreach (m : Mach) (f : Nat) (e : Nat) (p : Packet) : Bool :=
  let up (x : Nat) : Bool := m.flag (Reg.RTE_UP_PORT_W (x / 32)) (x % 32)
  p.escape && reValid e && reEscValid e && up f && up (reEscPort e)

/-- Hub die, bank and FEID of a route entry read with an error (17 R454): the entry reads as VALID 0 and its bank on
that die is fenced. -/
def Mach.routeErr (m : Mach) (die bank feid : Nat) (err : HwErr) : Mach :=
  match err with
  | .ce 6 pos addr hard => m.eccCe 6 die pos.toNat addr.toNat hard
  | .ue 6 pos addr =>
    let m1 := m.eccUe 6 die pos.toNat addr.toNat
    { m1 with ecc := { m1.ecc with badRoutes := (die, bank * 65536 + feid) :: m1.ecc.badRoutes } }.fenceTable die (.route bank)
  | _ => m

/-- An error in the packet's cells (17 R451, R454): a corrected one is written back, an uncorrectable one, or a failed pointer of
the die's cell pool (07 R188), poisons it. -/
def Mach.cellErr (m : Mach) (die : Nat) (p : Packet) (err : HwErr) : Packet × Mach :=
  match err with
  | .ce 0 pos addr hard => (p, m.eccCe 0 die pos.toNat addr.toNat hard)
  | .ue 0 pos addr => ({ p with poison := true }, m.eccUeNote 0 die pos.toNat addr.toNat)
  | _ =>
    match m.ptrFault err die die with
    | some a => ({ p with poison := true }, a.loseCell die)
    | none => (p, m)

/-- The pop for the Sump page of a packet that has just been queued with number `seq` met a failed pointer (07 R188). -/
def Mach.queuedFault (m : Mach) (seq : Nat) (err : HwErr) : Mach :=
  let spilled (a : Mach) : Mach :=
    match a.sw.queues.find? fun q => q.pkts.any fun x => x.seq == seq with
    | some q => a.spillFault q.key seq err
    | none => a
  match err with
  | .badPtr _ => spilled m
  | .ue 16 _ _ => spilled m
  | _ => m

/-- Forward a packet that came in `flits` flits by table (13 R351 to R360, 10 R286): one with ESCAPE 1 leaves on VC0, whatever VC it came
on (13 R360). -/
def Mach.forward (m : Mach) (st : Store) (f flits : Nat) (p : Packet) (badFrom : Option Nat) (err : HwErr) : Mach :=
  let back (a : Mach) : Mach := a.returnCredit (some (f, flits)) p.vc.toNat
  if 31 < p.hops.toNat + 1 then back (m.count Reg.TRL_HOPS_CNT)
  else
    let die := dieOf f
    let key := b2n p.epoch * 65536 + p.dest.toNat
    let inj := m.injRead 6 die key (key + 1)
    let m1 := inj.2.routeErr die (b2n p.epoch) p.dest.toNat (orErr err inj.1)
    let e := m1.routeEntry st die (b2n p.epoch) p.dest.toNat
    if m1.chimneyBreach f e p then back ((m1.count Reg.RTE_ESC_VIOL_CNT).pulsePin 30 2 0 0x30)
    else if p.escape && p.vc ≠ 0 then
      (back m1).routePacket st { p with hops := p.hops + 1, vc := 0 } none false die badFrom
    else m1.routePacket st { p with hops := p.hops + 1 } (some (f, flits)) false 0 badFrom

/-- Queue a packet for the function it is addressed to, or consume it (12 R329, 13 R351). -/
def Mach.toFunction (m : Mach) (f flits : Nat) (p : Packet) : Mach :=
  let die := dieOf f
  let dest := p.dest.toNat
  if !functionTakes dest p.type.toNat then
    (m.count Reg.RTE_BADDEST_CNT).returnCredit (some (f, flits)) p.vc.toNat
  else if dest = 0xFFF0 then (m.enqueue (.mgmt die) p (some (f, flits)) false false true).drainMgmt die
  else if dest = 0xFFF1 then m.enqueue (.engine (m.engineDie p die)) p (some (f, flits)) false false true
  else if dest = 0xFFF5 then m.enqueue (.fmem (fmemDie p die)) p (some (f, flits)) false false true
  else m.returnCredit (some (f, flits)) p.vc.toNat

/-- A quarantined port accepts only MGMT packets to 0xFFF0 and TIME packets (16 R430). -/
def quarantineBars (q : Port) (p : Packet) : Bool :=
  q.state == .quarantine && !(p.type == 3 || (p.type == 2 && p.dest == 0xFFF0))

/-- The first flit sent as DATA_POISONED of a packet of `n` flits whose head had left when the fault was found (10 R276): which
flits remained is a matter of time, a free value. -/
def Mach.tailFrom (m : Mach) (n : Nat) : Option Nat × Mach :=
  let d := m.draw 8
  (some (1 + d.1 % (n - 1)), d.2)

/-- A received packet (10 R287): `flits` is how many it came in, `poisoned` whether one was DATA_POISONED, `headLeft`
whether its head had been forwarded before its tail arrived. -/
def Mach.ingress (m : Mach) (st : Store) (f : Nat) (p0 : Packet) (flits : Nat) (poisoned headLeft : Bool) (err : HwErr) : Mach :=
  match m.port? f with
  | none => m
  | some q =>
    let back (a : Mach) : Mach := a.returnCredit (some (f, flits)) p0.vc.toNat
    let die := dieOf f
    if !q.linked then m
    else
      match headerBad q p0 with
      | some cnt => back (m.count cnt)
      | none =>
        if timeStrays p0 then back (m.count Reg.RTE_BADDEST_CNT) else
        let short := decide (flits ≠ pktFlits p0)
        let routed := decide (p0.dest.toNat < 0xFFF0)
        if short && !(routed && headLeft) then back (m.count Reg.TRL_MALFORMED_CNT)
        else if quarantineBars q p0 then back (m.count Reg.SVC_QUAR_DROP_CNT)
        else if p0.vc ≠ 1 && m.flt.galFences.contains p0.gallery.toNat then back (m.count Reg.SWC_GFLUSH_CNT)
        else if p0.vc ≠ 1 && (m.flt.fences.contains (12 + die) || m.flt.fences.contains (14 + die)) then
          back (m.count Reg.SWC_UNREACH_CNT)
        else
          let m1 := if short then m.count Reg.TRL_MALFORMED_CNT else m
          let left := routed && headLeft
          let p1 : Packet := { p0 with
            epoch := if (q.ident.getD {}).kind == 1 then m.sw.stamp else p0.epoch
            poison := p0.poison || (!left && (poisoned || short)) }
          let m2 := if p1.epoch != m.sw.stamp then m1.setFlag Reg.RTE_STATUS 28 true else m1
          let c := m2.cellErr die p1 err
          let t := if left && (poisoned || short) then c.2.tailFrom (pktFlits p0) else (none, c.2)
          (if routed then t.2.forward st f flits c.1 t.1 err else t.2.toFunction f flits c.1).queuedFault m.sw.nextSeq err

/-- PACKET_INGRESS, 10 R287. -/
def execPacketIngress (port : BitVec 9) (pkt : Packet) (flits : Byte) (poisoned headLeft : Bool) (err : HwErr) (s : State) :
    Host.Outcome State Fault Refusal :=
  s.runM fun st m => m.whenRunning fun m => m.ingress st port.toNat pkt flits.toNat poisoned headLeft err

end Sys2Proof.Machine
end

