-- ==== Sys2Proof/Machine/Faults.lean ====
section
/-! DEFINITION. Faults.lean: fault reaction of 18: escalation and its FC3 fences, clearing the fault summary word, Lantern and
its watchdog, and fault injection. -/
namespace Sys2Proof.Machine

/-! ### FC3 fences (18 R462, R464) -/

/-- Unit and detail of the fault that latched a group. -/
def Mach.latchedBy (m : Mach) (g : Nat) : Nat × Nat :=
  ((m.flt.latched.find? fun x => x.1 == g).map (·.2)).getD (0, 0)

/-- The status of the fault that latched a cluster's group (05 R148): RESIDUE for a residue fault, whose detail names a
residue counter, else UNCORRECTABLE. -/
def Mach.clusterStatus (m : Mach) (g : Nat) : Status :=
  let d := (m.latchedBy g).2
  if d = 0x24 || d = 0x10 then .residue else .uncorrectable

/-- Mark logical cores absent that are present (05 R148). -/
def Mach.absentAll (m : Mach) (st : Store) (ks : List Nat) (status : Status) : Mach :=
  ks.foldl (fun a k => if a.flag Reg.ENG_PRESENT k then a.coreAbsent st k status else a) m

/-- The galleries that an escalation of group 28 fences: those whose pins are asserted, else the one that latched it. -/
def Mach.fenceGalleries (m : Mach) : List Nat :=
  let l := ((m.flt.pins.filter fun p => p.group == 28).map (·.unit)).eraseDups
  if l.isEmpty then [(m.latchedBy 28).1] else l

/-- What an FC3 fence does at the moment it is applied (18 R462); what it does while it stands is in `flt.fences`. -/
def Mach.fc3Effects (m : Mach) (st : Store) (g : Nat) : Mach × Store :=
  if g < 4 then
    ((m.ports.filter fun (p : Port) => p.first / 128 == g).foldl (fun a p => a.portGone st p.first p.downCause .down) m, st)
  else if g < 12 then (m.absentAll st ((List.range 4).map fun i => 4 * (g - 4) + i) (m.clusterStatus g), st)
  else if g = 18 || g = 19 then (m.absentAll st ((List.range 16).map fun i => 16 * (g - 18) + i) .uncorrectable, st)
  else if g = 28 then
    m.fenceGalleries.foldl (fun r x =>
      let a := r.1.galReset r.2 x
      ({ a.1 with flt := { a.1.flt with galFences := x :: a.1.flt.galFences.filter (· != x) } }, a.2)) (m, st)
  else if g = 30 then (m.setFlag Reg.RTE_CTL 0 false, st)
  else if g = 35 then ({ m with flt := { m.flt with lanternReset := true } }.pushStops, st)
  else (m, st)

/-- A group's Snuffer timer expires (18 R466): FC2 escalates to FC3 with a fresh T, FC3 to FC4. -/
def Mach.snufferExpiry (m : Mach) (st : Store) (g : Nat) : Mach × Store :=
  let u := m.latchedBy g
  let m1 := m.stopTimer g
  if m.gclass g = 2 then
    let m2 := ((m1.setGclass g 3).startTimer g).count Reg.FLT_ESC_CNT
    let m3 := { m2 with flt := { m2.flt with fences := g :: m2.flt.fences.filter (· != g) } }
    (m3.faultEvent g 2 3 1 u.1 u.2).fc3Effects st g
  else (((m1.count Reg.FLT_ESC_CNT).setGclass g 4).enterSafe g 3 1 u.1 u.2, st)

/-- SNUFFER_EXPIRY, 18 R466: of a timer that runs and is due. -/
def execSnufferExpiry (group : BitVec 6) (s : State) : Host.Outcome State Fault Refusal :=
  s.runMS fun st m =>
    if m.awake && m.flt.timers.any fun t => t.1 == group.toNat && decide (t.2 ≤ m.aon) then m.snufferExpiry st group.toNat else (m, st)

/-! ### Clearing the fault summary word (18 R465) -/

/-- Clear a group: refused while its pin is asserted; else its timer stops and its fences lift. -/
def Mach.fswClear (m : Mach) (g : Nat) : Mach :=
  let u := m.latchedBy g
  let old := m.gclass g
  if g = 63 || !m.fsw g then m
  else if m.flt.pins.any fun p => p.group == g then
    (m.count Reg.FLT_CLR_REFUSE_CNT).faultEvent g old old 3 u.1 u.2
  else
    let m1 := ((m.stopTimer g).setFsw g false).setGclass g 0
    let m2 := { m1 with flt := { m1.flt with
      fences := m1.flt.fences.filter (· != g), latched := m1.flt.latched.filter fun x => x.1 != g
      galFences := if g = 28 then [] else m1.flt.galFences } }
    let m3 := m2.faultEvent g old 7 2 u.1 u.2
    if g < 4 then (m3.ports.filter fun (p : Port) => p.first / 128 == g).foldl (fun a p =>
      (p.lanes.foldl (fun b n => b.laneTrain n false) a).portWake p.first) m3 else m3

/-- A write of FLT_FSW_LO or, with `hi`, FLT_FSW_HI. -/
def Mach.fswWrite (m : Mach) (hi : Bool) (value : Nat) : Mach :=
  (setBitsOf 32 value).foldl (fun a j => a.fswClear (j + if hi then 32 else 0)) m

/-- FSW_CLEAR, 18 R465: a write of the register. -/
def execFswClear (hi : Bool) (value : Word) (s : State) : Host.Outcome State Fault Refusal :=
  s.runM fun _ m => m.regCmd (if hi then Reg.FLT_FSW_HI else Reg.FLT_FSW_LO) fun m => m.fswWrite hi value.toNat

/-! ### Lantern (18 R474, R475) -/

/-- A Lantern fault: FC3 in group 35, which holds Lantern in reset; a second one enters safe state (18 R475). -/
def Mach.lanternFault (m : Mach) (detail : Nat) : Mach :=
  if m.fsw 35 && !m.bypassed 35 then
    let m1 := ((m.setGclass 35 4).stopTimer 35).count Reg.FLT_ESC_CNT
    m1.enterSafe 35 (m.gclass 35) 1 0 detail
  else
    let m1 := m.raisePin 35 3 0 detail
    { m1 with flt := { m1.flt with lanternReset := true, lanternVerify := false } }.pushStops

/-- WDOG_EXPIRY, 18 R474: Lantern firmware has not kicked within the period. -/
def execWdogExpiry (s : State) : Host.Outcome State Fault Refusal :=
  s.runM fun _ m =>
    if m.awake && !m.flt.lanternReset && decide (m.flt.wdogKick + 1000000 * m.flt.wdogMs ≤ m.aon) then m.lanternFault 0x48 else m

/-- A write of FLT_WDOG: a KICK restarts the watchdog with the PERIOD the register then holds (18 R480). -/
def Mach.wdogWrite (m : Mach) (value : Nat) : Mach :=
  let m1 := m.writeRw Reg.FLT_WDOG 0x3FFF value
  if bitOf value 31 then
    { m1 with flt := { m1.flt with wdogMs := max 1 (m1.fld Reg.FLT_WDOG 13 0), wdogKick := m1.aon } }
  else m1

/-- WDOG_KICK, 18 R474: a write of FLT_WDOG. -/
def execWdogKick (value : Word) (s : State) : Host.Outcome State Fault Refusal :=
  s.runM fun _ m => m.regCmd Reg.FLT_WDOG fun m => m.wdogWrite value.toNat

/-- Write the RW bits that a lock leaves open; one that writes 1 into a locked bit counts (22 R554). -/
def Mach.writeLocked (m : Mach) (off mask locked value : Nat) : Mach :=
  let lock := m.flag Reg.GLB_LOCK 1
  let m1 := m.writeRw off mask (if lock then value &&& (locked ^^^ 0xFFFFFFFF) else value)
  if lock && (value &&& locked) != 0 then m1.cfgMiss else m1

/-- A write of FLT_CTL (18 R475, R479, 22 R554). -/
def Mach.fltCtl (m : Mach) (value : Nat) : Mach :=
  let m1 := m.writeLocked Reg.FLT_CTL 0x70000000 0x30000000 value
  if bitOf value 27 && m1.flt.lanternReset && 3 ≤ m1.stage then { m1 with flt := { m1.flt with lanternVerify := true } } else m1

/-- LANTERN_RESTART, 18 R475: a write of FLT_CTL. -/
def execLanternRestart (value : Word) (s : State) : Host.Outcome State Fault Refusal :=
  s.runM fun _ m => m.regCmd Reg.FLT_CTL fun m => m.fltCtl value.toNat

/-- LANTERN_VERIFY_DONE, 18 R475, 20 R517: Lantern and its pin are released when the flash reads (`readable`) and its image
verifies and is the one that runs. -/
def execLanternVerifyDone (readable : Bool) (s : State) : Host.Outcome State Fault Refusal :=
  s.runM fun _ m =>
    if !m.awake || !m.flt.lanternVerify then m
    else
      let ok := readable && m.imageRuns
      let m1 := { m with flt := { m.flt with lanternVerify := false, lanternReset := !ok, wdogKick := m.aon } }
      if ok then m1.dropPins fun p => p.group == 35 else m1

/-! ### Fault injection (18 R476) -/

/-- A write of FLT_INJ: GO arms an injection while INJ_EN permits it; one into the collector's parity enters safe state at
once and needs FATAL_OK. -/
def Mach.injWriteReg (m : Mach) (value : Nat) : Mach :=
  let m1 := m.writeRw Reg.FLT_INJ 0x7FC001FF value
  let kind := bits value 30 29
  if !bitOf value 31 || !m.flag Reg.FLT_CTL 29 then m1
  else if kind = 3 then
    if m.flag Reg.FLT_CTL 28 then
      let old := m1.gclass 38
      ((m1.setFsw 38 true).setGclass 38 4).enterSafe 38 old 0 0 0x44
    else m1
  else
    let j := (kind, bits value 26 22, bits value 8 0, (m.rd Reg.FLT_INJ_ADDR).toNat, max 1 (bits value 28 27))
    { m1 with flt := { m1.flt with injections := m1.flt.injections ++ [j] } }

/-- FLT_INJ_GO, 18 R476: a write of FLT_INJ. -/
def execFltInjGo (value : Word) (s : State) : Host.Outcome State Fault Refusal :=
  s.runM fun _ m => m.regCmd Reg.FLT_INJ fun m => m.injWriteReg value.toNat

/-! ### End of the start-up bypass (18 R469, R480) -/

/-- Lantern firmware clears BYPASS on entering stage B9: every pin still asserted latches. -/
def Mach.bypassEnds (m : Mach) : Mach :=
  let m1 := m.setFlag Reg.FLT_CTL 31 false
  let m2 := (List.range 39).foldl (fun a g => if alwaysFatal g || a.bypassed g then a else a.latchPending g) m1
  if m2.flt.fences.contains 35 then { m2 with flt := { m2.flt with lanternReset := true } } else m2

end Sys2Proof.Machine
end

