-- ==== Sys2Proof/Machine/Levels.lean ====
section
/-! DEFINITION. Levels.lean: performance levels and throttling of 21: the effective level of each die, its caps, the steps of a
change, and POWER events. Dies are numbered 0 to 3 for P0 to P3, 4 for H0, 5 for H1 (R539). -/
namespace Sys2Proof.Machine

/-! ### POWER events (21 R539) -/

/-- Reading of sensor `i`: P0 to P3, H0, H1, hottest stack, cold plate (21 R540). -/
def Mach.temp (m : Mach) (i : Nat) : Int := sext 8 (m.fld (Reg.PWR_TEMP_W (i / 4)) (8 * (i % 4) + 7) (8 * (i % 4)))

/-- The hottest of the sensors below `n`. -/
def Mach.hottest (m : Mach) (n : Nat) : Int := (List.range n).foldl (fun a i => max a (m.temp i)) (-128)

/-- The body of a POWER event. -/
def Mach.powerBody (m : Mach) (kind source die level cause domain : Nat) : List Nat :=
  [kind * 2 ^ 28 + source * 2 ^ 26 + die * 2 ^ 23 + level * 2 ^ 20 + m.mstate * 2 ^ 18 + cause * 2 ^ 14 + domain * 2 ^ 7,
    m.fld Reg.PWR_VIN 31 16 * 2 ^ 16 + tcBits 8 (m.hottest 8) * 2 ^ 8, 0, 0, 0]

/-- Raise a POWER event. -/
def Mach.powerEvent (m : Mach) (kind source die level cause domain : Nat) : Mach :=
  m.modEvent 0x1A noFault (m.powerBody kind source die level cause domain)

/-! ### Effective levels (21 R526, R527) -/

/-- The level that PWR_LEVEL_REQ asks of a die: 0 to 5 of a hub die, 0 F or 1 S of a port die. -/
def Mach.reqLevel (m : Mach) (d : Nat) : Nat :=
  if d < 4 then m.fld Reg.PWR_LEVEL_REQ d d else min 5 (m.fld Reg.PWR_LEVEL_REQ (3 * d - 4) (3 * d - 6))

/-- The thermal cap of a die. -/
def Mach.thermalCap (m : Mach) (d : Nat) : Nat := m.pwr.thermal.getD d 0

/-- The brake cap. -/
def Mach.brakeCap (m : Mach) : Nat := if m.pwr.brake then 3 else 0

/-- The effective level of a die: the lowest in performance of its limits; a power cap at P5 takes the port dies to S. -/
def Mach.effLevel (m : Mach) (d : Nat) : Nat :=
  if d < 4 then max (m.reqLevel d) (max (m.thermalCap d) (b2n (m.pwr.power == 5)))
  else max (m.reqLevel d) (max (m.thermalCap d) (max m.pwr.power m.brakeCap))

/-- The field of PWR_STATUS that shows a die's effective level. -/
def levelField (d : Nat) : Nat × Nat := if d < 4 then (d, d) else (3 * d - 4, 3 * d - 6)

/-- The effective level that PWR_STATUS shows. -/
def Mach.shownLevel (m : Mach) (d : Nat) : Nat := m.fld Reg.PWR_STATUS (levelField d).1 (levelField d).2

/-- A cap acts below PWR_LEVEL_REQ (21 R529): 0 to 5 thermal of a die, 6 power, 7 brake. -/
def Mach.capActs (m : Mach) (i : Nat) : Bool :=
  if i < 6 then decide (m.reqLevel i < m.thermalCap i)
  else if i = 6 then decide (m.reqLevel 4 < m.pwr.power) || decide (m.reqLevel 5 < m.pwr.power) ||
    (m.pwr.power == 5 && (List.range 4).any fun d => m.reqLevel d == 0)
  else decide (m.reqLevel 4 < m.brakeCap) || decide (m.reqLevel 5 < m.brakeCap)

/-- The dies of a cap run at their effective levels. -/
def Mach.capSettled (m : Mach) (i : Nat) : Bool :=
  (if i < 6 then [i] else [4, 5]).all fun d => m.pwr.run.getD d 0 == m.effLevel d

/-- CAP_ON and CAP_OFF of a cap (21 R529); for both hub dies at different levels the spec states no LEVEL (log 49). -/
def Mach.capEvent (m : Mach) (kind i : Nat) : Mach :=
  let m1 := { m with pwr := { m.pwr with capOn := modNth (fun _ => kind == 0) i m.pwr.capOn } }
  if i < 6 then m1.powerEvent kind 0 i (m1.effLevel i) 0 0
  else if m1.effLevel 4 = m1.effLevel 5 then m1.powerEvent kind (i - 5) 6 (m1.effLevel 4) 0 0
  else (m1.draw 3).2.powerEvent kind (i - 5) 6 (m1.draw 3).1 0 0

/-- Raise the events of caps that start to act, and of those that have stopped once their dies run at the new level. -/
def Mach.capEvents (m : Mach) : Mach :=
  (List.range 8).foldl (fun a i =>
    let on := a.pwr.capOn.getD i false
    if a.capActs i && !on then a.capEvent 0 i
    else if !a.capActs i && on && a.capSettled i then a.capEvent 1 i
    else a) m

/-- Bring PWR_STATUS up to date with the limits: each change of a die's effective level counts in DGT_TEV_THROTTLE (21 R529). -/
def Mach.settleLevels (m : Mach) : Mach :=
  let m1 := (List.range 6).foldl (fun a d =>
    if a.shownLevel d = a.effLevel d then a
    else (a.setFld Reg.PWR_STATUS (levelField d).1 (levelField d).2 (a.effLevel d)).countWrap Reg.DGT_TEV_THROTTLE) m
  let m2 := ((m1.setFlag Reg.PWR_STATUS 28 ((List.range 6).any m1.capActs)).setFlag Reg.PWR_STATUS 27 (m1.capActs 6)).setFlag
    Reg.PWR_STATUS 26 (m1.capActs 7)
  m2.capEvents

/-- PWR_LEVEL_REQ, 21 R527, R541: a write of the register. -/
def execPwrLevelReq (value : Word) (s : State) : Host.Outcome State Fault Refusal :=
  s.runM fun _ m => m.regCmd Reg.PWR_LEVEL_REQ fun m => (m.writeRw Reg.PWR_LEVEL_REQ 0xFCF value.toNat).settleLevels

/-! ### Steps of a change (21 R527) -/

/-- A step of a die's change completes: going down the clocks stop, the divider switches, the crossings re-release, then the
voltage falls; going up the voltage rises first. A ramp that a new limit overtakes is abandoned or reversed. -/
def Mach.levelStep (m : Mach) (d : Nat) : Mach :=
  let want := m.effLevel d
  let run := m.pwr.run.getD d 0
  let volt := m.pwr.volt.getD d 0
  let step := m.pwr.step.getD d 0
  let ramp := { m with pwr := { m.pwr with volt := modNth (fun _ => want) d m.pwr.volt } }
  let clock := if step < 2 then { m with pwr := { m.pwr with step := modNth (fun _ => step + 1) d m.pwr.step } }
    else { m with pwr := { m.pwr with
      step := modNth (fun _ => 0) d m.pwr.step
      run := modNth (fun _ => want) d m.pwr.run } }
  let m1 := if run = want && step = 0 then (if volt = want then m else ramp)
    else if step = 0 && want < run && want < volt then ramp
    else clock
  m1.capEvents

/-- LEVEL_STEP, 21 R527. -/
def execLevelStep (die : BitVec 3) (s : State) : Host.Outcome State Fault Refusal :=
  s.runM fun _ m => if m.awake && decide (die.toNat < 6) then m.levelStep die.toNat else m

/-! ### Caps (21 R528) -/

/-- Take a sensor reading (21 R540). -/
def Mach.setTemp (m : Mach) (i : Nat) (t : Byte) : Mach :=
  m.setFld (Reg.PWR_TEMP_W (i / 4)) (8 * (i % 4) + 7) (8 * (i % 4)) t.toNat

/-- The thermal cap of a die falls or rises by its reading; `was` is the reading before. -/
def Mach.thermalMove (m : Mach) (d : Nat) (was now : Int) : Mach :=
  let cap := m.thermalCap d
  let low := if d < 4 then 1 else 5
  let new := if 105 < now then min low ((if 105 < was then cap else m.effLevel d) + 1)
    else if now < 100 then cap - 1
    else cap
  { m with pwr := { m.pwr with thermal := modNth (fun _ => new) d m.pwr.thermal } }.settleLevels

/-- THERMAL_CAP, 21 R528: a reading of a sensor. A die above 105 °C falls a level, one below 100 °C rises one, each when its time
has come (log 9); a die above 115 °C raises group 33. -/
def execThermalCap (sensor : BitVec 3) (temp : Byte) (s : State) : Host.Outcome State Fault Refusal :=
  s.runM fun _ m =>
    let d := sensor.toNat
    if m.boot.resetN || m.boot.warmN then m
    else
      let m1 := m.setTemp d temp
      let m2 := if d < 6 && m1.awake then m1.thermalMove d (m.temp d) temp.toInt else m1
      if d < 6 && decide (115 < temp.toInt) then m2.raisePin 33 4 0 (0x50 + d / 4 * 4) else m2

/-- PWR_CAP within its limits (21 R540). -/
def Mach.capWatts (m : Mach) : Nat := min 1900 (max 600 (m.fld Reg.PWR_CAP 10 0))

/-- A sample of input power, each 10 µs: a tenth in a row above the cap follows the first by 100 µs, a hundredth below 95 % of it
the first by 1 ms. -/
def Mach.powerMove (m : Mach) (w : Nat) : Mach :=
  let excess := decide (m.capWatts < w)
  let under := decide (100 * w < 95 * m.capWatts)
  let m1 := { m with pwr := { m.pwr with
    above := if excess then m.pwr.above + 1 else 0
    below := if under then m.pwr.below + 1 else 0 } }
  let cap := m.pwr.power
  if excess && m.pwr.above % 10 = 0 then
    if cap = 5 then m1.count Reg.PWR_CAP_MISS_CNT
    else
      let new := min 5 (max cap (min (m.effLevel 4) (m.effLevel 5)) + 1)
      { m1 with pwr := { m1.pwr with power := new } }.settleLevels
  else if under && m1.pwr.below % 100 = 0 then { m1 with pwr := { m1.pwr with power := cap - 1 } }.settleLevels
  else m1

/-- POWER_CAP, 21 R528: the 100 µs average of input power and VIN_40V are sampled. -/
def execPowerCap (watts : BitVec 16) (vin : BitVec 16) (s : State) : Host.Outcome State Fault Refusal :=
  s.runM fun _ m =>
    if m.boot.resetN || m.boot.warmN then m
    else
      let m1 := (m.setFld Reg.PWR_VIN 31 16 watts.toNat).setFld Reg.PWR_VIN 15 0 vin.toNat
      let l := m.pwr.samples ++ [watts.toNat]
      let m2 := { m1 with pwr := { m1.pwr with samples := l.drop (l.length - 8) } }
      if m2.awake then m2.powerMove watts.toNat else m2

/-- BRAKE_ASSERT, 21 R528, R529: PWR_BRAKE_N low for 200 ns. -/
def execBrakeAssert (s : State) : Host.Outcome State Fault Refusal :=
  s.runM fun _ m =>
    if m.pwr.brake then m
    else
      let m1 := { m with pwr := { m.pwr with brake := true } }
      if m.awake && decide (1 ≤ m.stage) then (m1.countWrap Reg.DGT_TEV_THROTTLE).settleLevels else m1

/-- BRAKE_RELEASE, 21 R528. -/
def execBrakeRelease (s : State) : Host.Outcome State Fault Refusal :=
  s.runM fun _ m =>
    let m1 := { m with pwr := { m.pwr with brake := false } }
    if m.awake && decide (1 ≤ m.stage) then m1.settleLevels else m1

/-- THERM_TRIP, 21 R528: THERM_TRIP_N is driven low by a comparator, whatever the module's state. -/
def execThermTrip (s : State) : Host.Outcome State Fault Refusal :=
  s.runM fun _ m => { m with pwr := { m.pwr with thermTrip := true } }

end Sys2Proof.Machine
end

