-- ==== Sys2Proof/Machine/Lanes.lean ====
section
/-! DEFINITION. Lanes.lean: the lanes of 11: training, resting states, running on fewer lanes, layout, calibration and test
patterns. -/
namespace Sys2Proof.Machine

/-- Lanes are powered and sequenced from stage B6 (19 R481), and off in a halt (R485). -/
def Mach.whenLanes (m : Mach) (f : Mach → Mach) : Mach := if m.awake && !m.halted && decide (6 ≤ m.stage) then f m else m

/-! ### Changes of active mask (R315 to R319) -/

/-- Lane command codes (R297). -/
def cmdWidth : Nat := 1
/-- WIDTH_ACK. -/
def cmdWidthAck : Nat := 2
/-- NEWW. -/
def cmdNeww : Nat := 3

/-- Send a command with a mask on every active lane of a port. -/
def Mach.maskCmd (m : Mach) (p : Port) (cmd mask : Nat) : Mach :=
  (setBitsOf 8 p.mask).foldl (fun a i => a.emit (.laneCmd (p.first + i) cmd mask)) m

/-- Fill the group in progress of a port with IDLE flits (10 R263, R265, 11 R297: a group holds whole flits at every width). -/
def Mach.padGroup (m : Mach) (f : Nat) : Mach :=
  match m.port? f with
  | none => m
  | some p =>
    if p.txStream.isEmpty then m
    else (List.range (10 * maskWidth p.mask - p.txStream.length / 256)).foldl (fun a _ => a.sendIdle f) m

/-- Switch the transmitter to a mask: NEWW in its first group, the rotation from stream byte 0, one replay of everything
unacknowledged, LANE_STATE (10 R263, R315). -/
def Mach.switchMask (m : Mach) (f mask : Nat) : Mach :=
  match m.port? f with
  | none => m
  | some p =>
    let wider := decide (maskWidth p.mask < maskWidth mask)
    let m1 := ((m.padGroup f).modPort f fun q => { q with
      txStream := [], newwDue := true, widthX := q.widthX.map fun x => { x with switched := true }
      replay := q.replay.map fun x => { x with tries := x.tries + 1 } }).setMask f mask (if wider then 8 else 0)
    let m2 := (m1.maskCmd { p with mask } cmdNeww mask).count (Reg.TRL_RETRY_CNT f)
    p.replay.foldl (fun a x => a.sendData f x) (m2.countWrap Reg.DGT_TEV_RETRY)

/-- LOCK groups: CMD 4, and no stream bytes (R297). -/
def Mach.sendLock (m : Mach) (n : Nat) : Mach := m.emit (.laneCmd n 4 0)

/-- The levels of a LOCK group of a lane (R297). -/
def Mach.lockLevels (m : Mach) (n gseq : Nat) : List (BitVec 2) :=
  groupLevels gseq 4 0 [] (m.flag (Reg.LNE_LANE_STATUS n) 21) (m.lane n).txY

/-- Bring a lane out of LS1 or LS2 (R310): LS1 sends two training frames, then LOCK groups, and re-aligns; LS2 trains from the
stored taps. -/
def Mach.laneExit (m : Mach) (n : Nat) : Mach :=
  if m.lstate n = 1 then ((((m.modLane n fun x => { x with short := true, txY := 0, rxY := 0 }).setLstate n 3 6).sendFrame n).sendFrame n).sendLock n
  else if m.lstate n = 2 then m.laneTrain n true
  else m

/-- Start an exchange as the initiator (R315). -/
def Mach.startWidth (m : Mach) (f mask : Nat) : Mach :=
  match m.port? f with
  | none => m
  | some p =>
    let m1 := (m.modPort f fun q => { q with widthX := some { mask, initiator := true, old := p.mask } }).maskCmd p cmdWidth mask
    (setBitsOf 8 mask).foldl (fun a i => a.laneExit (p.first + i)) m1

/-- The mask that a port is left with when it keeps only some lanes: of the mask in force, or of what an exchange in progress would
give; lanes that one would have added stay outside (R316). -/
def Port.kept (p : Port) (keep : Nat) : Nat :=
  (match p.widthX with
    | some x => x.mask &&& x.old
    | none => p.mask) &&& keep

/-- The active mask after a port has lost lanes: none when it goes DOWN (R318, R326). -/
def Mach.maskAfter (m : Mach) (p : Port) (keep : Nat) : Nat :=
  if maskWidth (p.kept keep) < m.minLanes p then 0 else p.kept keep

/-- Remove lanes from a port (R316, R318): the port goes DOWN below MIN_WIDTH + 1, else the exchange starts or replaces
the one in progress with the AND of the masks; lanes that one would have added stay outside. -/
def Mach.narrow (m : Mach) (st : Store) (f keep : Nat) : Mach :=
  match m.port? f with
  | none => m
  | some p =>
    let mask := p.kept keep
    if maskWidth mask < m.minLanes p then m.portDown st f
    else
      match p.widthX with
      | none => m.startWidth f mask
      | some x =>
        let m1 := m.modPort f fun q => { q with widthX := some { mask, initiator := x.initiator, waiting := x.waiting &&& keep, old := x.old } }
        if x.initiator then m1.maskCmd p cmdWidth mask
        else (m1.maskCmd p cmdWidthAck mask).switchMask f mask

/-- Add a lane to a port: at once, or after the exchange in progress (R316, R319). -/
def Mach.widen (m : Mach) (n : Nat) : Mach :=
  match m.portOf? n with
  | none => m
  | some p =>
    let bit := 2 ^ (n - p.first)
    let m1 := m.modLane n fun x => { x with wantJoin := false }
    match p.widthX with
    | some x => m1.modPort p.first fun q => { q with widthX := some { x with waiting := x.waiting ||| bit } }
    | none => m1.startWidth p.first (p.mask ||| bit)

/-- The exchange is complete once both NEWW groups are sent and decoded; a widening that waited then starts (R316), with the calendar
enabled at the next entry start with CAL (R319). -/
def Mach.widthEnd (m : Mach) (f : Nat) : Mach :=
  match m.port? f with
  | none => m
  | some p =>
    match p.widthX with
    | none => m
    | some x =>
      if x.switched && x.gotNeww then
        let m1 := m.modPort f fun q => { q with widthX := none }
        let join := bitsMask ((setBitsOf 8 x.waiting).filter fun i => m.lstate (p.first + i) == 0 && !bitOf p.mask i)
        if join = 0 then m1
        else if m1.flag Reg.TIM_CAL_CTL 31 then
          (setBitsOf 8 join).foldl (fun a i => a.modLane (f + i) fun y => { y with wantJoin := true }) m1
        else m1.startWidth f (p.mask ||| join)
      else m

/-- A port on which an exchange may run. -/
def Port.laned (p : Port) : Bool := p.linked || p.exchanging

/-- WIDTH, R315, R316: answered with WIDTH_ACK and, unless this end's own WIDTH is outstanding, followed. -/
def execWidth (port : BitVec 9) (mask : Byte) (s : State) : Host.Outcome State Fault Refusal :=
  s.runM fun st m => m.whenLanes fun m =>
    let f := port.toNat
    match m.port? f with
    | none => m
    | some p =>
      if !p.laned then m
      else
        let asked := mask.toNat % 2 ^ p.width
        let own := match p.widthX with
          | some x => x.initiator && !x.acked
          | none => false
        let new := if own then (p.widthX.map (·.mask)).getD 0 &&& asked else asked
        if maskWidth new < m.minLanes p then m.portDown st f
        else
          let w := (p.widthX.map (·.waiting)).getD 0
          let m1 := (m.modPort f fun q => { q with
            widthX := some { mask := new, initiator := own, waiting := w, old := (p.widthX.map (·.old)).getD p.mask } }).maskCmd p cmdWidthAck new
          let m2 := (setBitsOf 8 new).foldl (fun a i => a.laneExit (p.first + i)) m1
          if own then m2 else m2.switchMask f new

/-- WIDTH_ACK, R315, R316: the initiator switches, to the mask it asked for or to what the partner has narrowed it to; when it has
switched already, again. -/
def execWidthAck (port : BitVec 9) (mask : Byte) (s : State) : Host.Outcome State Fault Refusal :=
  s.runM fun st m => m.whenLanes fun m =>
    let f := port.toNat
    match m.port? f with
    | none => m
    | some p =>
      match p.widthX with
      | none => m
      | some x =>
        let new := mask.toNat
        let less := x.mask &&& new == new && x.mask != new
        if !x.initiator || !(less || (!x.acked && x.mask == new)) then m
        else if maskWidth new < m.minLanes p then m.portDown st f
        else ((m.modPort f fun q => { q with widthX := some { x with acked := true, mask := new } }).switchMask f new).widthEnd f

/-- NEWW, R315: the partner's transmitter has switched, and groups are received under its mask from here on. -/
def execNeww (port : BitVec 9) (mask : Byte) (s : State) : Host.Outcome State Fault Refusal :=
  s.runM fun _ m => m.whenLanes fun m =>
    let f := port.toNat
    match m.port? f with
    | none => m
    | some p =>
      if !p.laned then m
      else
        let m1 := m.modPort f fun q => { q with rxMask := mask.toNat }
        match p.widthX with
        | none => m1
        | some x =>
          if x.mask == mask.toNat then (m1.modPort f fun q => { q with widthX := some { x with gotNeww := true } }).widthEnd f
          else m1

/-- WIDTH_TIMEOUT, R317. -/
def execWidthTimeout (port : BitVec 9) (s : State) : Host.Outcome State Fault Refusal :=
  s.runM fun st m => m.whenLanes fun m =>
    match (m.port? port.toNat).bind (·.widthX) with
    | some x => if x.initiator && !x.acked then m.portDown st port.toNat else m
    | none => m

/-! ### Lanes that fail (R300, R307, R308, R314, R320) -/

/-- A removal for causes 1 to 3; the fourth within 1 s of fabric time is a FLAP (R320). -/
def Mach.noteRemoval (m : Mach) (n mask : Nat) : Mach :=
  let recent := ((m.lane n).removals.filter fun t => decide (m.now - t < 1000000000)) ++ [m.now]
  let m1 := m.modLane n fun x => { x with removals := recent }
  if 4 ≤ recent.length then
    ((m1.modLane n fun x => { x with flapped := true, wantJoin := false, removals := [] }).setFld (Reg.LNE_LANE_STATUS n) 31 28 6).laneEventAs n 6 mask
  else m1

/-- A lane fails with cause 1, 2, 3 or 5: it retrains at once and leaves its port's mask, or the one a widening in
progress would give (R314, R316). -/
def Mach.laneFail (m : Mach) (st : Store) (n cause : Nat) : Mach :=
  let m0 := (m.setFld (Reg.LNE_LANE_STATUS n) 31 28 cause).laneTrain n false
  match m.portOf? n with
  | none => m0.laneEvent n cause
  | some p =>
    let keep := 255 - 2 ^ (n - p.first)
    if m.laneActive n then
      let mask := m.maskAfter p keep
      let m2 := (m0.laneEventAs n cause mask).count (Reg.LNE_DROP_CNT n)
      let m3 := if cause ≤ 3 then m2.noteRemoval n mask else m2
      m3.narrow st p.first keep
    else if p.widthX.any fun x => bitOf x.mask (n - p.first) then (m0.laneEvent n cause).narrow st p.first keep
    else m0.laneEvent n cause

/-- A TRAINING port none of whose lanes sees signal goes DOWN (16 R433). -/
def Mach.darkPort (m : Mach) (st : Store) (n : Nat) : Mach :=
  match m.portOf? n with
  | none => m
  | some p =>
    if p.state == .training && !p.lanes.any m.sigDet then m.portGone st p.first 0 .down else m

/-- A lane that expects silence: in LS1, LS2 or calibration (R300). -/
def Mach.expectsSilence (m : Mach) (n : Nat) : Bool := m.lstate n == 1 || m.lstate n == 2 || (m.lane n).calLeft != 0

/-- LOS, R300: a lane that had signal and does not expect silence fails. -/
def execLos (lane : BitVec 9) (s : State) : Host.Outcome State Fault Refusal :=
  s.runM fun st m => m.whenLanes fun m =>
    let n := lane.toNat
    let m1 := m.setFlag (Reg.LNE_LANE_STATUS n) 27 false
    if m.laneOn n && !m.expectsSilence n && !(m.lane n).failed && (m.lstate n == 0 || m.sigDet n) then
      (m1.laneFail st n 1).darkPort st n
    else m1

/-- LOSS_OF_ALIGNMENT, R300: a lane that decodes groups and does not expect silence. -/
def execLossOfAlignment (lane : BitVec 9) (s : State) : Host.Outcome State Fault Refusal :=
  s.runM fun st m => m.whenLanes fun m => 
    if m.lstate lane.toNat = 0 || m.trainStep lane.toNat = 6 then m.laneFail st lane.toNat 2 else m

/-- UNCORRECTABLE_CODEWORD, R299, R314: a write of LNE_TRAIN_CFG acts once no earlier codeword lies in the window (R328, log 71). -/
def execUncorrectableCodeword (lane : BitVec 9) (s : State) : Host.Outcome State Fault Refusal :=
  s.runM fun st m => m.whenLanes fun m =>
    let n := lane.toNat
    let x := m.lane n
    let within (cfg : Nat) : List Nat := x.uncorr.filter fun t => decide (m.now - t ≤ 10000 * bits cfg 7 0)
    let cfg := if (within x.ucfg).isEmpty then (m.rd Reg.LNE_TRAIN_CFG).toNat else x.ucfg
    let limit := bits cfg 11 8
    let recent := within x.ucfg ++ [m.now]
    let m1 := ((m.count (Reg.LNE_FEC_UNCORR_CNT n)).setFld (Reg.LNE_FEC_PEAK n) 15 0 16).modLane n fun y => { y with
      uncorr := recent, ucfg := cfg }
    if limit ≠ 0 && limit < recent.length && m.laneActive n then
      (m1.modLane n fun x => { x with uncorr := [] }).laneFail st n 3
    else m1

/-! ### Training (R302 to R309) -/

/-- Start the exchange of a TRAINING port at stage B9 when all its lanes are in LS0 or, 300 ms after its first signal, enough of them
(R309, 19 R482). A lane removed by DROP or for FLAP stays outside the mask (R314, R320). -/
def Mach.tryExchange (m : Mach) (f : Nat) : Mach :=
  match m.port? f with
  | none => m
  | some p =>
    let ready (n : Nat) : Bool := m.lstate n == 0 && !(m.lane n).flapped && !(m.lane n).dropped
    let mask := bitsMask (indicesOf ready p.lanes)
    let enough := (p.late || p.lanes.all fun n => m.lstate n == 0) && decide (m.minLanes p ≤ maskWidth mask)
    if p.state == .training && !p.exchanging && m.running && decide (9 ≤ m.stage) && enough then m.exchangeStart f mask else m

/-- SIGNAL_DETECT, R306, R308, R310: training starts, a resting lane follows, a DOWN port is TRAINING. -/
def execSignalDetect (lane : BitVec 9) (s : State) : Host.Outcome State Fault Refusal :=
  s.runM fun _ m => m.whenLanes fun m =>
    let n := lane.toNat
    if m.sigDet n || m.domainOff (n / 16) then m
    else
      let m1 := m.setFlag (Reg.LNE_LANE_STATUS n) 27 true
      let m2 :=
        if m.lstate n = 1 || m.lstate n = 2 then m1.laneExit n
        else if m.lstate n = 3 && (m.lane n).calLeft == 0 && !m.underTest n then
          (m1.modLane n fun x => { x with restarts := 0 }).laneTrain n (m.lane n).short
        else m1
      match m2.portOf? n with
      | some p => m2.portWake p.first
      | none => m2

/-- Ranges of the taps (R301). -/
def tapRange (t : Nat) : Int × Int :=
  match t with
  | 0 => (-8, 8) | 1 => (-16, 16) | 2 => (-48, 0) | 3 => (56, 128) | _ => (-24, 0)

/-- Change a tap by one unit, with its TAP_STATUS: 1 UPDATED, 2 AT_MIN, 3 AT_MAX (R304, R305). -/
def tapChange (taps : List Int) (t : Nat) (up : Bool) : List Int × Nat :=
  let r := tapRange t
  let v := taps.getD t 0 + (if up then 1 else -1)
  let new := modNth (fun _ => v) t taps
  if v < r.1 || r.2 < v || 128 < sumOf (fun x => x.natAbs) new then (taps, if up then 3 else 2) else (new, 1)

/-- Answer the partner's request in a frame (R304, R305): a request is answered once and the answer stands until HOLD. A lane that
trains from its stored taps skips step 3 and changes none (R310). -/
def Mach.answerRequest (m : Mach) (n ctl : Nat) : Mach :=
  let x := m.lane n
  let tap := bits ctl 31 29
  let req := bits ctl 28 27
  let taps := coefTaps (m.rd (Reg.LNE_TX_COEF n)).toNat
  let precode := b2n (bitOf ctl 23 && bitOf x.cfg 5)
  let base := setBits (setBits (setBits 0 24 24 1) 25 25 precode) 31 29 tap
  let m1 := m.setFld (Reg.LNE_LANE_STATUS n) 21 21 precode
  if bits x.answer 28 26 ≠ 0 then
    if req = 0 && !bitOf ctl 26 then m1.modLane n fun y => { y with answer := base } else m1
  else if x.short then m1.modLane n fun y => { y with answer := base }
  else if bitOf ctl 26 then
    (m1.wr (Reg.LNE_TX_COEF n) (BitVec.ofNat 32 (tapsWord (presetTaps (bits ctl 25 24))))).modLane n fun y => { y with
      answer := setBits base 26 26 1 }
  else if (req = 1 || req = 2) && tap ≤ 4 then
    let r := tapChange taps tap (req == 1)
    (m1.wr (Reg.LNE_TX_COEF n) (BitVec.ofNat 32 (tapsWord r.1))).modLane n fun y => { y with
      answer := setBits base 28 27 r.2 }
  else m1.modLane n fun y => { y with answer := base }

/-- The module's own request after a frame's status (R305): HOLD once answered, and the receiver's next choice `want` once
TAP_STATUS has returned to NOT_UPDATED; PRECODE_REQ by the PRECODE mode (R306). -/
def Mach.nextRequest (m : Mach) (n sta want : Nat) : Mach :=
  let x := m.lane n
  let mode := bits x.cfg 4 3
  let pre := if mode = 1 then 0 else if mode = 2 then 1 else bits want 23 23
  let flags := setBits (setBits 0 23 23 pre) 22 22 (bits want 22 22)
  let asks := bits x.request 28 26 != 0
  let done := bits sta 28 27 != 0 || bitOf sta 26
  if asks && !done then m
  else if asks then m.modLane n fun y => { y with request := flags, answered := true }
  else if x.answered && bits sta 28 27 != 0 then m.modLane n fun y => { y with request := flags }
  else m.modLane n fun y => { y with answered := false, request := setBits (setBits flags 31 26 (bits want 31 26)) 25 24 (bits want 25 24) }

/-- The partner's LPOS is not below the configured width, or another lane of the port has it (R307). -/
def Mach.lposBad (m : Mach) (n lpos : Nat) : Bool :=
  match m.portOf? n with
  | none => false
  | some p => decide (p.width ≤ lpos) || p.lanes.any fun k =>
      k != n && m.fld (Reg.LNE_LANE_STATUS k) 25 23 == lpos && (m.lstate k != 3 || decide (2 ≤ m.trainStep k))

/-- The step of R306 behind a frame: 2 with frame lock, 3 while taps are requested (never from stored taps, R310), 4 once both receivers
are ready, 5 while the frames that say so are counted. -/
def frameStep (step : Nat) (short ready : Bool) : Nat :=
  if ready then (if step ≤ 3 then 4 else 5) else if step = 1 || short then 2 else 3

/-- A well-formed training frame with its control and status fields (R303 to R307). -/
def Mach.frameIn (m : Mach) (st : Store) (n : Nat) (inverted : Bool) (control status : Word) (want : Nat) : Mach :=
    let ctl := control.toNat
    let sta := status.toNat
    let step := m.trainStep n
    if m.lstate n ≠ 3 || step = 0 || 6 ≤ step || !m.laneOn n then m
    else
      let m1 := (m.setFld (Reg.LNE_LANE_STATUS n) 25 23 (bits ctl 21 19)).setFlag (Reg.LNE_LANE_STATUS n) 22 inverted
      if m.lposBad n (bits ctl 21 19) then m1.laneFail st n 5
      else
        let m2 := (m1.setFld (Reg.LNE_LANE_STATUS n) 20 20 (bits sta 25 25)).answerRequest n ctl
        let short := (m.lane n).short
        let m3 := m2.nextRequest n sta (if short then setBits (want &&& 2 ^ 23) 22 22 1 else want)
        let seen := if bitOf ctl 22 && bitOf sta 24 then (m3.lane n).readySeen + 1 else 0
        let m4 := m3.modLane n fun x => { x with readySeen := seen }
        let mine := bitOf (m4.lane n).request 22
        if 64 ≤ seen && mine then (m4.setLstate n 3 6).sendLock n
        else (m4.setLstate n 3 (frameStep step short (decide (0 < seen) && mine))).sendFrame n

/-- TRAINING_FRAME, R302 to R307: symbols 0 to 287 of the frame as they arrive, ignored when the marker or a field bit is malformed;
`want` is what the module's receiver chooses to request next with its own precoding decision, laid out as R303, and `ready` its
RX_READY. -/
def execTrainingFrame (lane : BitVec 9) (head : List (BitVec 2)) (ready : Bool) (want : Word) (s : State) :
    Host.Outcome State Fault Refusal :=
  s.runM fun st m => m.whenLanes fun m =>
    match readFrame head with
    | some (inverted, control, status) => m.frameIn st lane.toNat inverted control status (setBits want.toNat 22 22 (b2n ready))
    | none => m

/-- GROUP_ALIGNMENT, R306: the lane enters LS0 and stores its taps, and sends LOCK groups until its port takes it (step 7); its port may
start its exchange. -/
def execGroupAlignment (lane : BitVec 9) (snr : BitVec 16) (s : State) : Host.Outcome State Fault Refusal :=
  s.runM fun _ m => m.whenLanes fun m =>
    let n := lane.toNat
    if m.lstate n ≠ 3 || m.trainStep n ≠ 6 then m
    else
      let m1 := (((m.setLstate n 0 7).sendLock n).wr (Reg.LNE_STORED_COEF n) (m.rd (Reg.LNE_TX_COEF n))).setFld (Reg.LNE_RX_SNR n) 15 0 snr.toNat
      let m2 := m1.modLane n fun x => { x with restarts := 0, short := false }
      match m2.portOf? n with
      | some p => (m2.portWake p.first).tryExchange p.first
      | none => m2

/-- TRAIN_TIMEOUT, R308. -/
def execTrainTimeout (lane : BitVec 9) (s : State) : Host.Outcome State Fault Refusal :=
  s.runM fun _ m => m.whenLanes fun m =>
    let n := lane.toNat
    let x := m.lane n
    if m.lstate n ≠ 3 || m.trainStep n = 0 then m
    else if x.restarts < bits x.tcfg 15 12 then
      (m.laneTrain n false).modLane n fun y => { y with restarts := x.restarts + 1 }
    else (((m.modLane n fun y => { y with failed := true }).setLstate n 3 0).setFld (Reg.LNE_LANE_STATUS n) 31 28 4).laneEvent n 4

/-- PORT_TRAIN_TIMEOUT, R309: from here on MIN_WIDTH + 1 lanes in LS0 are enough. -/
def execPortTrainTimeout (port : BitVec 9) (s : State) : Host.Outcome State Fault Refusal :=
  s.runM fun _ m => m.whenLanes fun m =>
    match m.port? port.toNat with
    | some p =>
      if p.state == .training && !p.exchanging then (m.modPort p.first fun q => { q with late := true }).tryExchange p.first else m
    | none => m

/-! ### Resting states (R310) -/

/-- CMD_LS1, R310: the lane follows its partner. -/
def execCmdLs1 (lane : BitVec 9) (s : State) : Host.Outcome State Fault Refusal :=
  s.runM fun _ m => m.whenLanes fun m =>
    if m.lstate lane.toNat = 0 && !m.laneActive lane.toNat then m.setLstate lane.toNat 1 0 else m

/-- CMD_LS2, R310. -/
def execCmdLs2 (lane : BitVec 9) (s : State) : Host.Outcome State Fault Refusal :=
  s.runM fun _ m => m.whenLanes fun m =>
    if m.lstate lane.toNat ≤ 1 && !m.laneActive lane.toNat then m.setLstate lane.toNat 2 0 else m

/-- LS_EXIT_TIMEOUT, R310: a lane that misses its exit bound trains in full. -/
def execLsExitTimeout (lane : BitVec 9) (s : State) : Host.Outcome State Fault Refusal :=
  s.runM fun _ m => m.whenLanes fun m =>
    if (m.lane lane.toNat).short && m.lstate lane.toNat == 3 then m.laneTrain lane.toNat false else m

/-! ### LNE_LANE_CTL (R311, R314, R319, R322, R323) -/

/-- Refuse a request on a lane (R323): cause 0 lane active, 1 MIN_WIDTH, 2 domain off. -/
def Mach.laneRefuse (m : Mach) (n cause : Nat) : Mach :=
  (m.count Reg.LNE_REFUSE_CNT).wr Reg.LNE_REFUSE_LAST (BitVec.ofNat 32 (cause * 2 ^ 16 + n / 16 * 2 ^ 9 + n))

/-- Remove an active lane with cause DROP: it stays in LS0, sending LOCK groups (R314). -/
def Mach.dropLane (m : Mach) (st : Store) (n : Nat) : Mach :=
  match m.portOf? n with
  | none => m
  | some p =>
    if !bitOf p.mask (n - p.first) then m
    else
      let keep := 255 - 2 ^ (n - p.first)
      let m1 := (m.modLane n fun x => { x with dropped := true }).setFld (Reg.LNE_LANE_STATUS n) 31 28 7
      (((m1.count (Reg.LNE_DROP_CNT n)).laneEventAs n 7 (m.maskAfter p keep)).narrow st p.first keep).sendLock n

/-- RETRAIN (R323): an active lane is first dropped, unless R318 forbids that. -/
def Mach.retrain (m : Mach) (st : Store) (n : Nat) : Mach :=
  if m.domainOff (n / 16) then m.laneRefuse n 2
  else
    let clean (a : Mach) : Mach :=
      (a.modLane n fun x => { x with flapped := false, dropped := false, failed := false, restarts := 0 }).laneTrain n false
    match m.portOf? n with
    | some p =>
      if bitOf p.mask (n - p.first) then
        if maskWidth (p.mask &&& (255 - 2 ^ (n - p.first))) < m.minLanes p then m.laneRefuse n 1
        else clean (m.dropLane st n)
      else (clean m).portWake p.first
    | none => clean m

/-- REJOIN (R319): a widening now, or at the next entry with CAL while the calendar is enabled. -/
def Mach.rejoin (m : Mach) (n : Nat) : Mach :=
  let m1 := m.modLane n fun x => { x with flapped := false, dropped := false }
  match m1.portOf? n with
  | some p =>
    if m1.lstate n = 0 && p.linked && !bitOf p.mask (n - p.first) then
      if m1.flag Reg.TIM_CAL_CTL 31 then m1.modLane n fun x => { x with wantJoin := true } else m1.widen n
    else m1
  | none => m1

/-- CAL (R322, R323): 4,000 slices are owed. -/
def Mach.calibrate (m : Mach) (n : Nat) : Mach :=
  if m.laneActive n then m.laneRefuse n 0
  else if m.domainOff (n / 16) then m.laneRefuse n 2
  else if m.laneOn n && !m.underTest n then (m.modLane n fun x => { x with calLeft := 4000 }).setLstate n 3 0
  else m

/-- STATE_REQ (R310, R311): the field changes unless the request is refused. -/
def Mach.stateReq (m : Mach) (n v : Nat) : Mach :=
  if v = 3 || (v ≠ 0 && m.laneActive n) then m
  else
    let m1 := m.setFld (Reg.LNE_LANE_CTL n) 1 0 v
    let s := m.lstate n
    if v = 0 then m1.laneExit n
    else if v = 1 then
      if s = 0 then ((m1.emit (.laneCmd n 5 0)).emit (.laneCmd n 5 0)).setLstate n 1 0 else m1
    else if s = 0 then ((m1.emit (.laneCmd n 6 0)).emit (.laneCmd n 6 0)).setLstate n 2 0
    else if s = 1 then m1.setLstate n 2 0
    else m1

/-- A write of LNE_LANE_CTL: RETRAIN, DROP, REJOIN and CAL, then STATE_REQ (R327, R328). -/
def Mach.laneCtl (m : Mach) (st : Store) (n value : Nat) : Mach :=
  let m1 := if bitOf value 7 then m.retrain st n else m
  let m2 := if bitOf value 5 then m1.dropLane st n else m1
  let m3 := if bitOf value 4 then m2.rejoin n else m2
  let m4 := if bitOf value 6 then m3.calibrate n else m3
  m4.stateReq n (value % 4)

/-- RETRAIN, R323: a write of LNE_LANE_CTL. -/
def execLaneRetrain (lane : BitVec 9) (value : Word) (s : State) : Host.Outcome State Fault Refusal :=
  s.runM fun st m => m.regCmd (Reg.LNE_LANE_CTL lane.toNat) fun m => m.laneCtl st lane.toNat value.toNat

/-- CAL, R322: a write of LNE_LANE_CTL. -/
def execLaneCal (lane : BitVec 9) (value : Word) (s : State) : Host.Outcome State Fault Refusal :=
  s.runM fun st m => m.regCmd (Reg.LNE_LANE_CTL lane.toNat) fun m => m.laneCtl st lane.toNat value.toNat

/-- DROP, R314: a write of LNE_LANE_CTL. -/
def execLaneDrop (lane : BitVec 9) (value : Word) (s : State) : Host.Outcome State Fault Refusal :=
  s.runM fun st m => m.regCmd (Reg.LNE_LANE_CTL lane.toNat) fun m => m.laneCtl st lane.toNat value.toNat

/-- REJOIN, R319: a write of LNE_LANE_CTL. -/
def execLaneRejoin (lane : BitVec 9) (value : Word) (s : State) : Host.Outcome State Fault Refusal :=
  s.runM fun st m => m.regCmd (Reg.LNE_LANE_CTL lane.toNat) fun m => m.laneCtl st lane.toNat value.toNat

/-- LS0_REQ, R310: a write of LNE_LANE_CTL. -/
def execLs0Req (lane : BitVec 9) (value : Word) (s : State) : Host.Outcome State Fault Refusal :=
  s.runM fun st m => m.regCmd (Reg.LNE_LANE_CTL lane.toNat) fun m => m.laneCtl st lane.toNat value.toNat

/-- LS1_REQ, R310, R311: a write of LNE_LANE_CTL. -/
def execLs1Req (lane : BitVec 9) (value : Word) (s : State) : Host.Outcome State Fault Refusal :=
  s.runM fun st m => m.regCmd (Reg.LNE_LANE_CTL lane.toNat) fun m => m.laneCtl st lane.toNat value.toNat

/-- LS2_REQ, R310, R311: a write of LNE_LANE_CTL. -/
def execLs2Req (lane : BitVec 9) (value : Word) (s : State) : Host.Outcome State Fault Refusal :=
  s.runM fun st m => m.regCmd (Reg.LNE_LANE_CTL lane.toNat) fun m => m.laneCtl st lane.toNat value.toNat

/-- CAL_SLICE, R322: inside an entry with CAL with at least 500 ns left; the last slice ends calibration as an exit from
LS2, with LANE_STATE cause CAL_DONE. -/
def execCalSlice (lane : BitVec 9) (s : State) : Host.Outcome State Fault Refusal :=
  s.runM fun _ m => m.whenLanes fun m =>
    let n := lane.toNat
    let room := match m.runningEntry with
      | some (_, left) => decide (500 ≤ left)
      | none => true
    if (m.lane n).calLeft = 0 || !m.calPermits 30 || !room then m
    else
      let m1 := m.modLane n fun x => { x with calLeft := x.calLeft - 1 }
      if (m1.lane n).calLeft = 0 then (m1.laneTrain n true).laneEvent n 9 else m1

/-- AUTO_REJOIN, R319: a lane in LS0 outside its port's mask joins, at the start of an entry with CAL while the calendar is
enabled. -/
def execAutoRejoin (lane : BitVec 9) (s : State) : Host.Outcome State Fault Refusal :=
  s.runM fun _ m => m.whenLanes fun m =>
    let n := lane.toNat
    let x := m.lane n
    match m.portOf? n with
    | some p =>
      let may := x.wantJoin || (bitOf x.cfg 6 && !x.dropped && !x.flapped)
      let open_ := !m.flag Reg.TIM_CAL_CTL 31 || (m.entryStarts && m.calPermits 30)
      if m.lstate n = 0 && p.linked && !bitOf p.mask (n - p.first) && may && open_ then m.widen n else m
    | none => m

/-! ### Layout (R313) -/

/-- Read the layout in force from a lane on: the ports it gives and the lanes that break it. A port that is UP or DEGRADED
stands. -/
def Mach.parseLayout (m : Mach) : Nat → Nat → Nat → List (Nat × Nat) × List Nat
  | 0, _, _ => ([], [])
  | n + 1, i, skip =>
    if 512 ≤ i then ([], [])
    else
      match m.ports.find? fun p => p.first == i && p.usable with
      | some p =>
        let r := Mach.parseLayout m n (i + p.width) skip
        ((i, p.width) :: r.1, r.2)
      | none =>
        let c := (m.lane i).code
        if c = 0 || i < skip then Mach.parseLayout m n (i + 1) skip
        else
          let w := if c ≤ 4 then 2 ^ (c - 1) else 1
          let clear (k : Nat) : Bool := (m.lane k).code == 0 && !m.ports.any fun (p : Port) => p.usable && decide (p.first ≤ k) &&
            decide (k < p.first + p.width)
          if c ≤ 4 && i % w = 0 && (List.range (w - 1)).all fun j => clear (i + 1 + j) then
            let r := Mach.parseLayout m n (i + w) skip
            ((i, w) :: r.1, r.2)
          else
            let r := Mach.parseLayout m n (i + 1) (i + w)
            (r.1, i :: r.2)

/-- A new port with the LIMIT reset values of its width (12 R333). -/
def Mach.addPort (m : Mach) (f w : Nat) : Mach :=
  (List.range 8).foldl (fun a v => a.setFld (Reg.SWC_QCFG f v) 12 0 (if v < 2 then 32 else 96 * w))
    { m with ports := m.ports ++ [{ first := f, width := w }] }

/-- Take the written EN and PORT_CODE of lanes (R313): their ports go DOWN, which is no link loss, the ports of the new
layout are formed, and their lanes train, with `short` from their stored taps. -/
def Mach.relayoutAs (m : Mach) (st : Store) (touched : List Nat) (short : Bool) : Mach :=
  let m1 := (m.ports.filter fun (p : Port) => !p.usable && p.lanes.any touched.contains).foldl
    (fun a p => a.portGone st p.first 0 .down) m
  let m2 := touched.foldl (fun a n => a.modLane n fun x => { x with
    en := m.flag (Reg.LNE_LANE_CFG n) 13, code := m.fld (Reg.LNE_LANE_CFG n) 12 10 }) m1
  let r := m2.parseLayout 513 0 0
  let m3 := match r.2 with
    | [] => m2
    | e :: _ => m2.wr Reg.LNE_CFG_ERR (BitVec.ofNat 32 (2 ^ 31 + e))
  let gone := m3.ports.filter fun (p : Port) => !r.1.contains (p.first, p.width)
  let m4 := gone.foldl (fun a p => a.portGone st p.first 0 .down) m3
  let m5 := { m4 with ports := m4.ports.filter fun (p : Port) => r.1.contains (p.first, p.width) }
  let fresh := r.1.filter fun x => !m5.ports.any fun (p : Port) => p.first == x.1
  let m6 := fresh.foldl (fun a x => a.addPort x.1 x.2) m5
  let mine := m6.ports.filter fun (p : Port) => p.lanes.any touched.contains || fresh.any fun x => x.1 == p.first
  let lanes := touched ++ (mine.flatMap (·.lanes)).filter fun n => !touched.contains n
  let m7 := lanes.foldl (fun a n => a.laneTrain n short) m6
  (m7.ports.foldl (fun a p => if p.lanes.any lanes.contains then a.portWake p.first else a) m7).updatePlan

/-- Take the written layout of lanes; they train in full (R313). -/
def Mach.relayout (m : Mach) (st : Store) (touched : List Nat) : Mach := m.relayoutAs st touched false

/-- A port takes a layout change only in DOWN, TRAINING or QUARANTINE (R313). -/
def Port.takesLayout (p : Port) : Bool := p.state == .down || p.state == .training || p.state == .quarantine

/-- A write of LNE_LANE_CFG (R313, R328): EN and PORT_CODE are the layout, taken at once or held. -/
def Mach.laneCfg (m : Mach) (st : Store) (n value : Nat) : Mach :=
  let m1 := m.writeRw (Reg.LNE_LANE_CFG n) 0x3FFB value
  let x := m.lane n
  if m1.flag (Reg.LNE_LANE_CFG n) 13 = x.en && m1.fld (Reg.LNE_LANE_CFG n) 12 10 = x.code then m1
  else
    match m1.portOf? n with
    | some p => if p.takesLayout then m1.relayout st [n] else m1.modPort p.first fun q => { q with layoutHeld := true }
    | none => m1.relayout st [n]

/-- LAYOUT_WRITE, R313: a write of LNE_LANE_CFG. -/
def execLayoutWrite (lane : BitVec 9) (value : Word) (s : State) : Host.Outcome State Fault Refusal :=
  s.runM fun st m => m.regCmd (Reg.LNE_LANE_CFG lane.toNat) fun m => m.laneCfg st lane.toNat value.toNat

/-- LAYOUT_APPLY, R313: the port has left UP and DEGRADED, and its held change is taken. -/
def execLayoutApply (port : BitVec 9) (s : State) : Host.Outcome State Fault Refusal :=
  s.runM fun st m => m.whenLanes fun m =>
    match m.port? port.toNat with
    | some p =>
      if p.layoutHeld && p.takesLayout then
        let changed (n : Nat) : Bool := m.flag (Reg.LNE_LANE_CFG n) 13 != (m.lane n).en ||
          m.fld (Reg.LNE_LANE_CFG n) 12 10 != (m.lane n).code
        (m.modPort p.first fun q => { q with layoutHeld := false }).relayout st (p.lanes.filter changed)
      else m
    | none => m

/-! ### Test patterns (R324, R325) -/

/-- A write of LNE_PRBS_CTL: GEN and CHK are refused on an active lane or with its domain off; clearing both returns the
lane to training; GO arms injection on a generating lane. -/
def Mach.prbsCtl (m : Mach) (n value : Nat) : Mach :=
  let reg := Reg.LNE_PRBS_CTL n
  let was := m.underTest n
  let test := bits value 27 24
  let bar := if test = 0 then none else if m.laneActive n then some 0 else if m.domainOff (n / 16) then some 2 else none
  match bar with
  | some c => (m.writeRw reg 0x7F0000 value).laneRefuse n c
  | none =>
    let gen := bits value 27 26
    let m0 := m.writeRw reg 0xF7F0000 value
    let m1 := if m.fld reg 27 26 = gen then m0
      else
        let a := m0.modLane n fun x => { x with inject := none }
        if gen = 0 then a else a.emit (.pattern n gen)
    let m2 := if m.fld reg 25 24 = bits value 25 24 then m1
      else (m1.modLane n fun x => { x with chk := none }).setFlag reg 23 false
    let m3 := if test ≠ 0 then (m2.modLane n fun x => { x with calLeft := 0 }).setLstate n 3 0
      else if was then m2.laneTrain n false else m2
    let inj := bits value 22 21
    let every := if inj = 1 then 0 else 2 ^ max 8 (bits value 20 16)
    if bitOf value 31 && gen != 0 && (inj == 1 || inj == 2) then
      let d := m3.draw 31
      (d.2.modLane n fun x => { x with inject := some (every, d.1) }).emit (.prbsError n every)
    else if m.fld reg 22 21 = inj then m3
    else m3.modLane n fun x => { x with inject := none }

/-- The first `k` levels that a lane sends from the start of its generator, with the injection in force, of which the spec does not say at
which symbol it begins (R324, R325). -/
def Mach.generated (m : Mach) (n k : Nat) : List (BitVec 2) :=
  let kind := m.fld (Reg.LNE_PRBS_CTL n) 27 26
  match (m.lane n).inject with
  | none => patternFrom kind k (Config.prbsSeed n kind)
  | some i => patternInjected kind k (Config.prbsSeed n kind) i.1 i.2

/-- PRBS_GEN_CHK, R324: a write of LNE_PRBS_CTL. -/
def execPrbsGenChk (lane : BitVec 9) (value : Word) (s : State) : Host.Outcome State Fault Refusal :=
  s.runM fun _ m => m.regCmd (Reg.LNE_PRBS_CTL lane.toNat) fun m => m.prbsCtl lane.toNat value.toNat

/-- PRBS_INJ_GO, R325: a write of LNE_PRBS_CTL. -/
def execPrbsInjGo (lane : BitVec 9) (value : Word) (s : State) : Host.Outcome State Fault Refusal :=
  s.runM fun _ m => m.regCmd (Reg.LNE_PRBS_CTL lane.toNat) fun m => m.prbsCtl lane.toNat value.toNat

/-- PRBS_CHECKER_LOCK, R324: levels arrive at a lane's checker, which while it is not locked takes the place in the pattern that its
receiver finds them at; it locks after 256 in a row and counts the errors from then on. -/
def execPrbsCheckerLock (lane : BitVec 9) (phase : BitVec 31) (levels : List (BitVec 2)) (s : State) : Host.Outcome State Fault Refusal :=
  s.runM fun _ m => m.whenLanes fun m =>
    let n := lane.toNat
    let kind := m.fld (Reg.LNE_PRBS_CTL n) 25 24
    if kind = 0 then m
    else
      let c := (match (m.lane n).chk with
        | some k => if k.locked then k else { at_ := phase.toNat }
        | none => { at_ := phase.toNat }).meetAll kind levels
      let m1 := m.modLane n fun x => { x with chk := some { c with syms := 0, bits := 0 } }
      if c.locked then
        ((m1.setFlag (Reg.LNE_PRBS_CTL n) 23 true).countN (Reg.LNE_PRBS_SYM_ERR n) c.syms).countN (Reg.LNE_PRBS_BIT_ERR n) c.bits
      else m1

end Sys2Proof.Machine
end

