-- ==== Sys2Proof/Machine/Service.lean ====
section
/-! DEFINITION. Service.lean: the service functions of 16: rechecking, accepting and quarantining ports, the plan's grace
period, Beacon, and the isolation of lane groups. -/
namespace Sys2Proof.Machine

/-! ### SVC_PORT_CTL (16 R432) -/

/-- Quarantine an UP or DEGRADED port: a link loss (16 R427), with the DOWN notice first on revision 0x03 (R435); its link
layer runs on (R430). -/
def Mach.portQuarantine (m : Mach) (st : Store) (f cause : Nat) : Mach :=
  match m.port? f with
  | none => m
  | some p =>
    if !p.usable then m
    else
      let m1 := (if 3 ≤ p.negRev then m.sendLink f false 3 else m).setPortState f .quarantine cause
      let m2 := (List.range 8).foldl (fun a v => a.flushQueue (.port f v)) m1
      ((m2.countN Reg.SWC_FLUSH_CNT p.fiHeld.length).modPort f fun q => { q with
        ptr := [0, 0], turnOpen := [false, false], fiHeld := [], deficit := [List.replicate 8 0, List.replicate 8 0] }).groupsLinkLost st f .lost 0

/-- Repeat the plan comparison against the identity received (16 R432); a port that passes takes `cause`. -/
def Mach.recheck (m : Mach) (st : Store) (f cause : Nat) : Mach :=
  match m.port? f with
  | none => m
  | some p =>
    match p.partner with
    | none => m
    | some i =>
      let c := m.planCheck f i
      if p.state == .quarantine then
        if (p.cause = 1 || p.cause = 2 || p.cause = 6) && c = 0 && !m.flag (Reg.SVC_PORT_CTL f) 29 then
          (m.setPortState f p.runState cause).groupsRecheck st f
        else m
      else if p.usable && c ≠ 0 then m.portQuarantine st f c
      else m

/-- ACCEPT copies the received identity into the plan entry (16 R432). -/
def Mach.acceptPeer (m : Mach) (f : Nat) : Mach :=
  match (m.port? f).bind Port.partner with
  | none => m
  | some i =>
    let w0 := (m.rd (Reg.SVC_PLAN_W0 f)).toNat
    let m0 := if m.planned f then m else m.modPort f fun q => { q with plannedAt := m.aon }
    let m1 := m0.wr (Reg.SVC_PLAN_W0 f) (BitVec.ofNat 32 (2 ^ 31 + i.kind.toNat * 2 ^ 29 + w0 % 2 ^ 29))
    let m2 := (m1.setFld (Reg.SVC_PLAN_W1 f) 31 16 i.feid.toNat).setFld (Reg.SVC_PLAN_W1 f) 8 0 i.port.toNat
    let m3 := m2.setFld (Reg.SVC_PLAN_W2 f) 17 0 i.straps.toNat
    (List.range 4).foldl (fun a w => a.wr (Reg.SVC_PLAN_UID_W0 f + 4 * w) (BitVec.ofNat 32 (i.uid.toNat / 2 ^ (32 * w)))) m3

/-- A write of SVC_PORT_CTL: manual quarantine, then ACCEPT, then RECHECK (16 R432, R443). -/
def Mach.svcPortCtl (m : Mach) (st : Store) (f value : Nat) : Mach :=
  let m1 := m.writeRw (Reg.SVC_PORT_CTL f) 0x20000000 value
  let m2 := if bitOf value 29 then m1.portQuarantine st f 6 else m1
  let m3 := if bitOf value 30 then ((m2.acceptPeer f).recheck st f 10).updatePlan else m2
  if bitOf value 31 then m3.recheck st f 0 else m3

/-- RECHECK, 16 R432: a write of SVC_PORT_CTL. -/
def execRecheck (port : BitVec 9) (value : Word) (s : State) : Host.Outcome State Fault Refusal :=
  s.runM fun st m => m.regCmd (Reg.SVC_PORT_CTL port.toNat) fun m => m.svcPortCtl st port.toNat value.toNat

/-- ACCEPT, 16 R432: a write of SVC_PORT_CTL. -/
def execAccept (port : BitVec 9) (value : Word) (s : State) : Host.Outcome State Fault Refusal :=
  s.runM fun st m => m.regCmd (Reg.SVC_PORT_CTL port.toNat) fun m => m.svcPortCtl st port.toNat value.toNat

/-- QUARANTINE, 16 R432: a write of SVC_PORT_CTL. -/
def execQuarantine (port : BitVec 9) (value : Word) (s : State) : Host.Outcome State Fault Refusal :=
  s.runM fun st m => m.regCmd (Reg.SVC_PORT_CTL port.toNat) fun m => m.svcPortCtl st port.toNat value.toNat

/-- A planned port has been missing for GRACE_MS without interruption: from its last departure from UP and DEGRADED, or the reset release,
and from the write that set VALID (16 R431). -/
def Mach.graceOver (m : Mach) (p : Port) : Bool :=
  decide (max (max p.leftAt p.plannedAt) m.boot.releaseAt + 1000000 * m.fld Reg.SVC_PLAN_CTL 15 0 ≤ m.aon)

/-- PLAN_GRACE, 16 R431: a planned port has been missing for GRACE_MS. -/
def execPlanGrace (port : BitVec 9) (s : State) : Host.Outcome State Fault Refusal :=
  s.runM fun _ m => m.whenRunning fun m =>
    match m.port? port.toNat with
    | none => m
    | some p =>
      if m.planned port.toNat && !p.usable && m.graceOver p then (m.modPort port.toNat fun q => { q with missing := true }).updatePlan else m

/-! ### Buttons and Beacon (16 R436 to R438) -/

/-- The buttons of the board. -/
inductive Button where
  | locate | isolate | wake
  deriving DecidableEq, Repr

/-- The band that WAKE_SENSE lies in, in mV: a button; none for no button or for a voltage outside every band (16 R436). -/
def buttonOf (mv : Nat) : Option Button :=
  if 1050 ≤ mv && mv ≤ 1350 then some .locate
  else if 680 ≤ mv && mv ≤ 820 then some .isolate
  else if 150 ≤ mv && mv ≤ 450 then some .wake
  else none

/-- A voltage that has held in a button's band for `ms` is a press of it (16 R437). -/
def Button.pressed (b : Button) (ms : Nat) : Bool :=
  match b with
  | .isolate => decide (2000 ≤ ms)
  | _ => decide (50 ≤ ms)

/-- Count a press in the 8-bit field of SVC_BUTTON that starts at bit `lo`. -/
def Mach.countPress (m : Mach) (lo : Nat) : Mach :=
  m.setFld Reg.SVC_BUTTON (lo + 7) lo (satAdd 0xFF (m.fld Reg.SVC_BUTTON (lo + 7) lo) 1)

/-- Lane groups that hold the first lane of a configured port. -/
def Mach.portGroups (m : Mach) : List Nat := (List.range 32).filter fun n => m.ports.any fun (p : Port) => p.first / 16 == n

/-- Beacon is on from a button or by SVC_BEACON.MODULE; its cursor clears when it ends (16 R438). -/
def Mach.beaconSet (m : Mach) (button : Bool) : Mach :=
  let on := button || m.flag Reg.SVC_BEACON 31
  let m1 := { m with boot := { m.boot with beacon := button } }.setFlag Reg.SVC_BEACON 30 on
  if on then m1 else (m1.setFlag Reg.SVC_BEACON 28 false).setFld Reg.SVC_BEACON 9 5 0

/-- Show the cursor on a lane group. -/
def Mach.setCursor (m : Mach) (n : Nat) : Mach := (m.setFlag Reg.SVC_BEACON 28 true).setFld Reg.SVC_BEACON 9 5 n

/-- A LOCATE press: Beacon starts, or its cursor moves to the next lane group that holds a port. -/
def Mach.locate (m : Mach) : Mach :=
  let m0 := m.countPress 24
  let m1 := { m0 with boot := { m0.boot with beaconAt := m0.aon } }
  if !m.flag Reg.SVC_BEACON 30 then
    let m2 := m1.beaconSet true
    if m.flag Reg.SVC_BEACON 29 then m2.setCursor (m.fld Reg.SVC_BEACON 4 0) else m2
  else
    let m2 := m1.beaconSet true
    let gs := m.portGroups
    let cur := m.fld Reg.SVC_BEACON 9 5
    let next := if m.flag Reg.SVC_BEACON 28 then (gs.find? fun n => decide (cur < n)).or gs.head? else gs.head?
    match next with
    | some n => m2.setCursor n
    | none => m2

/-- LOCATE, 16 R438. -/
def execLocate (s : State) : Host.Outcome State Fault Refusal :=
  s.runM fun _ m => if m.awake then m.locate else m

/-- BEACON_TIMEOUT, 16 R438: a Beacon that a button started ends 600 s after the last press. -/
def execBeaconTimeout (s : State) : Host.Outcome State Fault Refusal :=
  s.runM fun _ m => if m.awake && m.boot.beacon && decide (m.boot.beaconAt + 600000000000 ≤ m.aon) then m.beaconSet false else m

/-! ### Isolation (16 R439, R440) -/

/-- Ports of a lane group. -/
def Mach.groupPorts (m : Mach) (n : Nat) : List Port := m.ports.filter fun (p : Port) => p.first / 16 == n

/-- SVC_ISO_DONE of a lane group follows its ports. -/
def Mach.isoDone (m : Mach) (n : Nat) : Mach :=
  m.setFlag Reg.SVC_ISO_DONE n (m.flag Reg.SVC_ISOLATE n && (m.groupPorts n).all fun p => p.state == .isolated)

/-- Step 4: the lanes of a port are disabled with their transmitters off, and the port is ISOLATED. -/
def Mach.isolated (m : Mach) (f : Nat) : Mach :=
  match m.port? f with
  | none => m
  | some p =>
    let m1 := p.lanes.foldl (fun a n =>
      ((a.modLane n fun x => { x with off := true, calLeft := 0 }).setLstate n 3 0).emit (.transmitterOff n)) m
    let m0 := if p.mask = 0 then m1 else (m1.modPort f fun q => { q with mask := 0, rxMask := 0 }).laneEvent f 0
    let m2 := m0.modPort f fun q => { q with
      isoStep := 0, exchanging := false, partnerSeen := false, bothSeen := false, doneSent := false, doneRcvd := false,
      authState := 0, negRev := 0 }
    ((m2.setPortState f .isolated 8).stopPort f).isoDone (f / 16)

/-- Steps 1 and 2 for a port with a partner; one without is ISOLATED at once, by steps 1 and 4 (16 R440). -/
def Mach.isolatePort (m : Mach) (st : Store) (f : Nat) : Mach :=
  match m.port? f with
  | none => m
  | some p =>
    if p.state == .isolated || p.isoStep != 0 then m
    else
      let m1 := (m.modPort f fun q => { q with isoStep := 1, isoDue := m.aon + m.fld Reg.SVC_DRAIN_NS 23 0, cause := 8 }).portEvent f p.state.code 8
      if !p.linked then m1.isolated f
      else (if p.usable then m1.groupsLinkLost st f .removed 1 else m1).sendLink f false 1

/-- Isolate a lane group (16 R439). -/
def Mach.isolateGroup (m : Mach) (st : Store) (n : Nat) : Mach :=
  let m1 := m.setFlag Reg.SVC_ISOLATE n true
  ((m1.groupPorts n).foldl (fun a p => a.isolatePort st p.first) m1).isoDone n

/-- Release a lane group (16 R439): RESUME when step 3 has not come, then DOWN, and its lanes train. -/
def Mach.releaseGroup (m : Mach) (st : Store) (n : Nat) : Mach :=
  let m1 := (m.setFlag Reg.SVC_ISOLATE n false).setFlag Reg.SVC_ISO_DONE n false
  (m1.groupPorts n).foldl (fun a p =>
    if p.state == .isolated || p.isoStep != 0 then
      let b := if p.isoStep = 1 && p.linked then a.sendLink p.first false 2 else a
      let c := (b.modPort p.first fun q => { q with isoStep := 0 }).portGone st p.first 9 .down
      let d := p.lanes.foldl (fun e k => (e.modLane k fun x => { x with off := false }).laneTrain k false) c
      d.portWake p.first
    else a) m1

/-- A write of SVC_ISOLATE. -/
def Mach.svcIsolate (m : Mach) (st : Store) (value : Nat) : Mach :=
  (List.range 32).foldl (fun a n =>
    if bitOf value n then a.isolateGroup st n
    else if m.flag Reg.SVC_ISOLATE n then a.releaseGroup st n else a) m

/-- SVC_ISOLATE, 16 R439: a write of the register. -/
def execSvcIsolate (value : Word) (s : State) : Host.Outcome State Fault Refusal :=
  s.runM fun st m => m.regCmd Reg.SVC_ISOLATE fun m => m.svcIsolate st value.toNat

/-- ISOLATE, 16 R439: a press held for 2 s. -/
def execIsolate (s : State) : Host.Outcome State Fault Refusal :=
  s.runM fun st m =>
    if !m.awake then m
    else
      let m1 := m.countPress 16
      let n := m.fld Reg.SVC_BEACON 9 5
      if !m.flag Reg.SVC_BEACON 28 || m.flag Reg.SVC_PROTECT n then
        let m2 := m1.count Reg.SVC_BTN_REFUSE_CNT
        { m2 with boot := { m2.boot with refusedAt := some m2.aon } }
      else if m.flag Reg.SVC_ISO_DONE n then m1.releaseGroup st n
      else m1.isolateGroup st n

/-- ISOLATION_DRAIN, 16 R439 step 3, once the port's queues are empty or SVC_DRAIN_NS, as it stood at step 1 (R444), has passed: what
remains is flushed and counted, and the DOWN notice sent. -/
def execIsolationDrain (port : BitVec 9) (s : State) : Host.Outcome State Fault Refusal :=
  s.runM fun _ m => m.whenRunning fun m =>
    let f := port.toNat
    match m.port? f with
    | none => m
    | some p =>
      if p.isoStep ≠ 1 || (m.aon < p.isoDue && (List.range 8).any fun v => !(m.queue (.port f v)).pkts.isEmpty) then m
      else
        let m1 := (List.range 8).foldl (fun a v => a.flushQueue (.port f v)) m
        (if p.linked && 3 ≤ p.negRev then m1.sendLink f false 3 else m1).modPort f fun q => { q with isoStep := 2, isoDue := m.aon + 1000 }

/-- ISOLATION_LANES_OFF, 16 R439 step 4: 1 µs after step 3. -/
def execIsolationLanesOff (port : BitVec 9) (s : State) : Host.Outcome State Fault Refusal :=
  s.runM fun _ m => m.whenRunning fun m =>
    match m.port? port.toNat with
    | none => m
    | some p => if p.isoStep = 2 && decide (p.isoDue ≤ m.aon) then m.isolated port.toNat else m

end Sys2Proof.Machine
end

