-- ==== Sys2Proof/Machine/Boot.lean ====
section
/-! DEFINITION. Boot.lean: resets, the bring-up stages of 19 with their reports, and what each kind of reset keeps (18 R478, 22
R550). -/
namespace Sys2Proof.Machine

/-! ### What a reset keeps (18 R478, 22 R550) -/

/-- The registers in the ranges, `lo` up to but not including `hi`; every other register is at its reset value. -/
def Mach.regsIn (m : Mach) (ranges : List (Nat × Nat)) : Cells 32 :=
  m.regs.filter fun c => ranges.any fun r => decide (r.1 ≤ c.1) && decide (c.1 < r.2)

/-- Registers that show fuses: the positions fused off (05 R146). -/
def fuseRanges : List (Nat × Nat) := [(0xA0010, 0xA0018)]

/-- Registers that RESET_N keeps: FLT_FIRST (18 R478, log 74), the bring-up counts (19 R501) and fuses. -/
def coldRanges : List (Nat × Nat) := fuseRanges ++ [(0x20050, 0x20060), (0x10050, 0x10058)]

/-- Registers that a warm reset keeps as well: GLB (22 R551, R554), the RW registers of PWR with the domains off that they
request, the DGT_TEV counters, the core map, TIM_ADJ, the straps and the stored coefficients (18 R478, 22 R550). -/
def warmRanges : List (Nat × Nat) :=
  coldRanges ++ [(0x10, 0x50), (0x30004, 0x3000C), (0x30010, 0x30018), (0x30020, 0x3003C), (0xE0000, 0xE0014), (0xA0004, 0xA000C),
    (0xA0040, 0xA0060), (0x120018, 0x12001C), (0x200000, 0x200004)] ++
    (List.range 512).map fun n => (Reg.LNE_STORED_COEF n, Reg.LNE_STORED_COEF n + 4)

/-- What every kind of reset keeps: flash and fuses, the always-on clock, the output log, pins and board conditions, and the
count of free values. The retire map in use is the copy in flash (17 R458). -/
def Mach.bare (m : Mach) : Mach :=
  { aon := m.aon, out := m.out, free := m.free
    flt := { records := m.flt.records, safeEntries := m.flt.safeEntries }
    boot := { resetN := m.boot.resetN, warmN := m.boot.warmN }
    sec := { arb := m.sec.arb, image := m.sec.image }
    pwr := { brake := m.pwr.brake, lost := m.pwr.lost, thermTrip := m.pwr.thermTrip, lastGasp := m.pwr.lastGasp,
             lastGaspSeq := m.pwr.lastGaspSeq }
    ecc := { retire := m.ecc.flash, flash := m.ecc.flash } }

/-- The column RESET_N of 18 R478. -/
def Mach.coldState (m : Mach) : Mach := { m.bare with regs := m.regsIn coldRanges }

/-- The column of a power cycle: the fault log and the bring-up counts are lost too. -/
def Mach.powerState (m : Mach) : Mach := { m.bare with regs := m.regsIn fuseRanges, pwr := { m.bare.pwr with lost := false, thermTrip := false } }

/-- The lane layout in force, as the words LNE_LANE_CFG would hold (19 R483). -/
def Mach.layoutNow (m : Mach) : List (Nat × Word) :=
  m.lanes.map fun x => (x.lane, BitVec.ofNat 32 (setBits (setBits (m.rd (Reg.LNE_LANE_CFG x.lane)).toNat 13 13 (b2n x.en)) 12 10 x.code))

/-- The column of a warm reset with a valid token: fabric time counts on in ACQUIRE, and the layout in force is kept; one
that a warm bring-up had not yet restored still is. -/
def Mach.warmState (m : Mach) : Mach :=
  let b := m.bare
  let layout := if m.stage < 6 && m.flag Reg.BOOT_STATUS 24 then m.boot.layout else m.layoutNow
  let m1 : Mach := { b with
    regs := m.regsIn warmRanges
    time := { acc := m.time.acc, adv := m.time.adv, heard := m.time.heard, refills := m.time.refills }
    ecc := { b.ecc with logs := m.ecc.logs, retire := m.ecc.retire, otherCode := m.codesReset (fun _ => true) false }
    boot := { b.boot with layout := layout, excluded := m.boot.excluded, badClusters := m.boot.badClusters } }
  ((m1.setFlag Reg.GLB_WIN_CTL 30 false).setFlag Reg.BOOT_STATUS 23 true).setFld Reg.TIM_STATUS 1 0 1

/-- The memories after a warm reset: HBM keeps its lines. -/
def Store.warm (st : Store) : Store := { hbm := st.hbm }

/-- Every transmitter of an enabled lane goes off (16 R435). -/
def Mach.transmittersOff (m : Mach) : Mach :=
  (m.lanes.filter fun x => x.en).foldl (fun a x => a.emit (.transmitterOff x.lane)) m

/-- A reset or power loss inside a flash write: the image area being programmed no longer verifies (19 R500). -/
def Mach.tearFlash (m : Mach) : Mach :=
  if m.fld Reg.SEC_FW_CTL 26 24 = 2 then { m with sec := { m.sec with image := [] } } else m

/-! ### Assertion (16 R435, 19 R499) -/

/-- RESET_N or, with `warm`, WARM_RESET_N is asserted: transmitters off, Jionuk down, and the module loses what 18 R478
gives; a warm reset without a valid token acts as RESET_N. Safe state heeds neither (18 R472). -/
def Mach.resetAssert (m : Mach) (st : Store) (warm : Bool) : Mach × Store :=
  if m.flt.safe then (m, st)
  else
    let m1 := m.transmittersOff.tearFlash
    if warm then
      let m2 := if m1.flag Reg.BOOT_STATUS 23 then m1.warmState else m1.coldState
      ({ m2 with boot := { m2.boot with warmN := true } }, if m1.flag Reg.BOOT_STATUS 23 then st.warm else {})
    else
      let m2 := m1.coldState
      ({ m2 with boot := { m2.boot with resetN := true } }, {})

/-- RESET_ASSERT, 16 R435, 19 R499. -/
def execResetAssert (warm : Bool) (s : State) : Host.Outcome State Fault Refusal :=
  s.runMS fun st m => m.resetAssert st warm

/-! ### Stage reports (19 R487) -/

/-- Whole always-on µs since a time. -/
def Mach.usSince (m : Mach) (t : Nat) : Nat := min (2 ^ 32 - 1) ((m.aon - t) / 1000)

/-- Write a stage report: held, and on the report ring at once when the module ring set is enabled. -/
def Mach.stageReport (m : Mach) (stage result cause : Nat) (detail : List Nat) (failMap : Nat) : Mach :=
  let w (x : Nat) : Word := BitVec.ofNat 32 x
  let body := [w (stage * 2 ^ 28 + result * 2 ^ 25 + b2n (m.flag Reg.BOOT_STATUS 24) * 2 ^ 24 + cause * 2 ^ 16),
      w (m.usSince m.boot.releaseAt), w (m.usSince m.boot.stageAt)] ++ ((detail ++ List.replicate 8 0).take 8).map w ++
    [w failMap, w (failMap / 2 ^ 32), w (failMap / 2 ^ 64 % 2 ^ 24), 0]
  let m1 := ((m.setFld Reg.BOOT_STATUS 31 28 stage).setFld Reg.BOOT_STATUS 27 25 result).setFld Reg.BOOT_STATUS 15 8 cause
  let m2 := { m1 with boot := { m1.boot with held := (stage, body) :: m1.boot.held.filter fun r => r.1 != stage } }
  if m2.ringEn 64 then m2.report 0 (0 :: body)
  else
    let other (r : Nat × List Word) : Bool := bits (r.2.getD 1 0).toNat 31 28 != stage
    { m2 with boot := { m2.boot with reports := m2.boot.reports.filter other ++ [(0, 0 :: body)] } }

/-- The report of a stage ends it with FAIL: a halt (19 R485). -/
def Mach.stageFails (m : Mach) (stage cause : Nat) (detail : List Nat) (failMap : Nat) : Mach :=
  let m1 := (m.stageReport stage 3 cause detail failMap).transmittersOff
  (m1.setFlag Reg.BOOT_STATUS 22 true).setFlag Reg.BOOT_STATUS 23 false

/-! ### The work of the stages (19 R481 to R483, R490) -/

/-- Positions of a cluster that the map may use: not fused off, not excluded, not retired (05 R146). -/
def Mach.usable (m : Mach) (c : Nat) : List Nat :=
  (List.range 5).filter fun p => !m.flag (Reg.ENG_FUSE_H (c / 4)) (5 * (c % 4) + p) && !m.boot.excluded.contains (5 * c + p) &&
    !m.ecc.retire.contains (1, 8 * c + p)

/-- The logical core map (05 R146); the cores of a cluster whose crossbar or tree failed are absent (19 R493). -/
def Mach.mapCores (m : Mach) : Mach :=
  (List.range 8).foldl (fun a c =>
    let l := if m.boot.badClusters.contains c then [] else m.usable c
    let b := (List.range 4).foldl (fun b i =>
      (b.setFld (Reg.ENG_MAP_C c) (3 * i + 2) (3 * i) (l.getD i 7)).setFlag Reg.ENG_PRESENT (4 * c + i) (decide (i < l.length))) a
    (b.setFld (Reg.ENG_MAP_C c) 14 12 (l.getD 4 7)).setFlag Reg.ENG_SPARE c (decide (4 < l.length))) m

/-- The pools of a stack as built (07 R185); one kept in M2 keeps its fabric memory (21 R532). -/
def Mach.builtPool (m : Mach) (s : Nat) : Pool :=
  let gib := m.fld Reg.BPM_SUMP_GIB 5 0
  let base := m.fld (Reg.BPM_FMEM_BASE_M s) 19 0
  let limit := m.fld (Reg.BPM_FMEM_LIMIT_M s) 19 0
  let fresh : Pool := { stack := s, fmBase := base, fmLimit := limit, fmTop := limit }
  { ((m.pools.find? fun p => p.stack == s).getD fresh) with sumpPages := 262144 * gib, spFree := [], spTop := 262144 * gib }

/-- Build the pools. -/
def Mach.buildPools (m : Mach) : Mach :=
  { m.setFlag Reg.BPM_CTL 2 true with pools := (List.range 8).map m.builtPool }

/-- Stage B6 begins (19 R483): the layout of the BOARD section, or on the warm path the one in force before the reset. -/
def Mach.layLanes (m : Mach) (st : Store) : Mach :=
  let warm := m.flag Reg.BOOT_STATUS 24
  let words := (if warm then m.boot.layout else m.boot.board).filter fun w => decide (w.1 < 512)
  (words.foldl (fun a w => a.writeRw (Reg.LNE_LANE_CFG w.1) 0x3FFB w.2.toNat) m).relayoutAs st (words.map (·.1)) warm

/-- Stage B9 (19 R481, R482): the start-up bypass ends, the warm token is set, and ports whose lanes are ready start their
exchange; the bring-up is counted (R501). Its report follows at once. -/
def Mach.operational (m : Mach) : Mach :=
  let m0 := if m.boot.fromM2 then m
    else m.count (if m.flag Reg.BOOT_STATUS 24 then Reg.BOOT_WARM_CNT else Reg.BOOT_COLD_CNT)
  let m1 := (m0.bypassEnds.setFlag Reg.BOOT_STATUS 23 true).setFlag Reg.PWR_STATUS 29 false
  let m2 := { m1 with boot := { m1.boot with fromM2 := false } }
  let m3 := m2.stageReport 9 0 0 [popCount 32 (m2.rd Reg.ENG_PRESENT).toNat, m2.fld Reg.ENG_SPARE 7 0] 0
  m3.ports.foldl (fun a p => a.tryExchange p.first) m3

/-- A stage the warm path or the exit from M2 skips (19 R488, 21 R532). -/
def Mach.skips (m : Mach) (n : Nat) : Bool :=
  (m.flag Reg.BOOT_STATUS 24 && decide (3 ≤ n) && decide (n ≤ 5)) || (m.boot.fromM2 && (n == 3 || n == 4))

/-- Enter stage `n`, reporting those skipped; `k` bounds how many. -/
def Mach.enterStage (m : Mach) (st : Store) (n : Nat) : Nat → Mach
  | 0 => m
  | k + 1 =>
    let m1 := { m.setFld Reg.BOOT_STATUS 31 28 n with boot := { m.boot with stageAt := m.aon } }
    if m1.skips n then Mach.enterStage (m1.stageReport n 2 0 [] 0) st (n + 1) k
    else if n = 6 then m1.layLanes st
    else if n = 9 then m1.operational
    else m1

/-- B7 loads an agent: the positions fused off, or excluded at B3 or B4, are left out (19 R489). -/
def Mach.agentLoaded (m : Mach) (a : Nat) : Bool :=
  a < 512 || (552 ≤ a && a < 564) || (a < 552 && !m.flag (Reg.ENG_FUSE_H ((a - 512) / 20)) ((a - 512) % 20) &&
    (!m.boot.excluded.contains (a - 512) || m.boot.agentsFailed.contains a))

/-- A position leaves a core map that a warm bring-up has kept: its logical core is absent, or its cluster's spare unavailable (19
R488, R490, log 73). -/
def Mach.leaveMap (m : Mach) (pos : Nat) : Mach :=
  let c := pos / 5
  (List.range 5).foldl (fun a i =>
    if a.fld (Reg.ENG_MAP_C c) (3 * i + 2) (3 * i) = pos % 5 then
      let b := a.setFld (Reg.ENG_MAP_C c) (3 * i + 2) (3 * i) 7
      if i < 4 then b.setFlag Reg.ENG_PRESENT (4 * c + i) false else b.setFlag Reg.ENG_SPARE c false
    else a) m

/-- An agent of stage B7 that fails after its resends (19 R490): a lane fails with cause TRAIN, a core position is excluded. -/
def Mach.agentGone (m : Mach) (a : Nat) : Mach :=
  if a < 512 then
    (((m.modLane a fun x => { x with failed := true }).setLstate a 3 0).setFld (Reg.LNE_LANE_STATUS a) 31 28 4).laneEvent a 4
  else if a < 552 then { m.leaveMap (a - 512) with boot := { m.boot with excluded := m.boot.excluded ++ [a - 512] } }
  else m

/-- The last-gasp sector is compacted when fewer than 16 slots remain erased (21 R537). -/
def Mach.compactGasp (m : Mach) : Mach :=
  if 256 < m.pwr.lastGasp.length + 16 then
    { m with pwr := { m.pwr with lastGasp := m.pwr.lastGasp.getLast?.toList } }
  else m

/-- What a stage leaves when it passes. -/
def Mach.stageWork (m : Mach) (n : Nat) : Mach :=
  match n with
  | 0 => (m.setMeas 0 (leBytes 32 Config.romDigest)).settleLevels
  | 2 => let m1 := m.loadImage
         { m1 with flt := { m1.flt with lanternReset := false, wdogKick := m1.aon } }
  | 7 =>
    let m1 := m.boot.agentsFailed.foldl Mach.agentGone m.measureAgents
    let m2 := if m.flag Reg.BOOT_STATUS 24 || m1.rd Reg.ENG_PRESENT != 0 then m1 else m1.mapCores
    m2.buildPools
  | 8 => m.measureUnit.compactGasp
  | _ => m

/-- DETAIL words of a stage: what the hardware reports, with the words that the state gives. -/
def Mach.stageDetail (m : Mach) (n : Nat) (d : List Nat) : List Nat :=
  let d0 := d.getD 0 0
  let d1 := d.getD 1 0
  match n with
  | 0 => [d0, steppingCode, (m.rd Reg.SVC_STRAPS).toNat]
  | 1 => [d0, d1, m.fld Reg.JNK_STATUS 20 16]
  | 2 => [imgWord m.sec.image 8, m.sec.arb, leNat ((sm3 (imgBytes m.sec.image)).take 4), m.boot.attempts,
      (imgFails m.sec.arb m.sec.image).getD 0]
  | 4 => [d0, d1, m.fld Reg.BST_BUDGET 9 0, d.getD 3 0]
  | 6 => [(m.lanes.filter fun x => x.en).length, (m.lanes.filter fun x => x.en && m.lstate x.lane == 0).length,
      (m.lanes.filter fun x => x.failed).length]
  | 7 =>
    let sent := ((List.range 564).filter m.agentLoaded).length
    [sent, sent - m.boot.agentsFailed.length,
      m.boot.agentsFailed.foldl min 0xFFFF, sumOf (fun r => r.2) m.boot.resends]
  | 8 => [b2n (!Config.certChain.isEmpty), d1]
  | _ => d

/-- A stage that has passed: its work, its report, and the next stage. -/
def Mach.stagePass (m : Mach) (st : Store) (n result : Nat) (d : List Nat) (failMap : Nat) : Mach :=
  let m1 := m.stageWork n
  (m1.stageReport n result 0 (m1.stageDetail n d) failMap).enterStage st (n + 1) 5

/-- CAUSE of a stage that fails whatever the hardware reports: STRAP at B1 (16 R423), AGENT at B7 (19 R490). -/
def Mach.stageBar (m : Mach) (n : Nat) : Option Nat :=
  if n = 1 && m.fld Reg.SVC_STRAPS 13 12 = 3 then some 1
  else if n = 7 && m.boot.agentsFailed.any fun a => decide (552 ≤ a) then some 0x0B
  else none

/-- B2 waits for a recovery image (19 R485). -/
def Mach.stageWaits (m : Mach) : Mach :=
  let m1 := m.stageReport 2 4 4 (m.stageDetail 2 []) 0
  { m1 with boot := { m1.boot with waitingImage := true } }

/-- A stage runs: the module is awake, not halted, below B9 and not WAITING. -/
def Mach.staging (m : Mach) : Bool := m.awake && !m.halted && decide (m.stage < 9) && !m.boot.waitingImage

/-- A bring-up stage ends (19 R481 to R493). -/
def Mach.stageEnd (m : Mach) (st : Store) (rep : StageRep) (fail : StageFail) : Mach :=
  let n := m.stage
  let d := rep.detail.map BitVec.toNat
  let map := rep.failMap.toNat
  let m1 := if n = 3 || n = 4 then { m with boot := { m.boot with
      excluded := m.boot.excluded ++ fail.positions.map BitVec.toNat
      badClusters := m.boot.badClusters ++ if n = 4 then fail.clusters.map BitVec.toNat else [] } }
    else m
  match m1.stageBar n with
  | some c => m1.stageFails n c (m1.stageDetail n d) map
  | none =>
    if n = 2 then
      if rep.result = 3 || (imgFails m1.sec.arb m1.sec.image).isSome then m1.stageWaits else m1.stagePass st 2 0 d map
    else if rep.result = 3 && n ≠ 6 then m1.stageFails n rep.cause.toNat (m1.stageDetail n d) map
    else
      let reduced := ((n = 3 || n = 4) && !(fail.positions.isEmpty && fail.clusters.isEmpty)) ||
        (n = 7 && !m1.boot.agentsFailed.isEmpty)
      m1.stagePass st n (b2n reduced) d map

/-- STAGE_END, 19 R487. -/
def execStageEnd (rep : StageRep) (fail : StageFail) (s : State) : Host.Outcome State Fault Refusal :=
  s.runM fun st m => if m.staging then m.stageEnd st rep fail else m

/-- The bound of a stage in ms (19 R481). -/
def stageBound (n : Nat) : Nat := [5, 50, 200, 60, 150, 400, 400, 100, 50].getD n 0

/-- STAGE_TIMEOUT, 19 R484: the stage's bound has passed: FAIL with cause TIMEOUT, and Lantern is held in reset. -/
def execStageTimeout (s : State) : Host.Outcome State Fault Refusal :=
  s.runM fun _ m =>
    if m.staging && decide (m.boot.stageAt + 1000000 * stageBound m.stage ≤ m.aon) then
      let m1 := m.stageFails m.stage 0x0D (m.stageDetail m.stage []) 0
      { m1 with flt := { m1.flt with lanternReset := true } }
    else m

/-- AGENT_TIMEOUT, 19 R489: the section is sent again, at most twice more; then the agent has failed. -/
def execAgentTimeout (agent : BitVec 10) (s : State) : Host.Outcome State Fault Refusal :=
  s.runM fun _ m =>
    let a := agent.toNat
    if !m.staging || m.stage ≠ 7 || !m.agentLoaded a || m.boot.agentsFailed.contains a then m
    else
      let n := ((m.boot.resends.find? fun r => r.1 == a).map (·.2)).getD 0
      if n < 2 then
        { m with boot := { m.boot with resends := (a, n + 1) :: m.boot.resends.filter fun r => r.1 != a } }
      else { m with boot := { m.boot with agentsFailed := m.boot.agentsFailed ++ [a] } }

/-! ### Release (19 R481, R488) -/

/-- Stage B0 starts: the collector is bypassed (18 R469, R480), measurements are clear (20 R510). -/
def Mach.startStages (m : Mach) : Mach :=
  let m1 := (m.setFlag Reg.FLT_CTL 31 true).setFld Reg.BOOT_STATUS 31 25 0
  { m1 with
    flt := { m1.flt with timers := [], lanternReset := true, lanternVerify := false }
    boot := { m1.boot with releaseAt := m1.aon, stageAt := m1.aon } }

/-- A cold bring-up, with the straps as they now stand (16 R422). -/
def Mach.startCold (m : Mach) (straps : BitVec 18) : Mach :=
  (m.startStages.setFlag Reg.BOOT_STATUS 24 false).wr Reg.SVC_STRAPS (BitVec.ofNat 32 straps.toNat)

/-- RESET_RELEASE, 19 R481: while power is present and WARM_RESET_N is released, stage B0 starts. -/
def execResetRelease (straps : BitVec 18) (s : State) : Host.Outcome State Fault Refusal :=
  s.runM fun _ m =>
    if !m.boot.resetN then m
    else
      let m1 := { m with boot := { m.boot with resetN := false } }
      if m1.boot.warmN || m1.pwr.lost then m1 else m1.startCold straps

/-- WARM_RESET_RELEASE, 19 R488: the warm path with a valid token, else a cold bring-up; RESET_N governs while asserted. -/
def execWarmResetRelease (straps : BitVec 18) (s : State) : Host.Outcome State Fault Refusal :=
  s.runM fun _ m =>
    if !m.boot.warmN then m
    else
      let m1 := { m with boot := { m.boot with warmN := false } }
      if m1.boot.resetN || m1.pwr.lost then m1
      else if m1.flag Reg.BOOT_STATUS 23 then m1.startStages.setFlag Reg.BOOT_STATUS 24 true
      else m1.startCold straps

end Sys2Proof.Machine
end

