-- ==== Sys2Proof/Machine/Bist.lean ====
section
/-! DEFINITION. Bist.lean: in-service BIST of 19 R494 to R498. -/
namespace Sys2Proof.Machine

/-- BIST power of a testable domain in W (19 R491). -/
def bistWatts (d : Nat) : Nat := if d < 44 then 62 else 38

/-- The gallery whose program runs or is queued on a core. -/
def Mach.programOn (m : Mach) (k : Nat) : Option Nat :=
  (((m.core k).running.toList ++ (m.core k).queue).head?).map fun s => match s.session.bind m.session? with
    | some x => x.gallery
    | none => s.gallery

/-- What refuses BIST of a domain: CAUSE and HOLDER (19 R495). -/
def Mach.bistBar (m : Mach) (d : Nat) : Option (Nat × Nat) :=
  let core := decide (44 ≤ d) && decide (d < 76)
  let cluster := decide (36 ≤ d) && decide (d < 44)
  let k := d - 44
  let cl := d - 36
  let budget := if m.fld Reg.BST_BUDGET 19 10 < bistWatts d then some (10, 0) else none
  if !core && !cluster || (cluster && !m.flag Reg.ENG_SPARE cl && !m.flag Reg.ENG_SPARE (8 + cl)) then some (0, 0)
  else if m.stage < 9 then some (1, 0)
  else if m.flt.lanternReset then some (2, 0)
  else
    match m.boot.bist with
    | some x => some (3, x)
    | none =>
      if cluster then (if m.flag Reg.ENG_SPARE (8 + cl) then some (5, 0) else budget)
      else if !m.flag Reg.ENG_PRESENT k || m.domainOff d then some (4, 0)
      else
        match m.programOn k, lowestOf ((m.groups.filter fun g => bitOf g.redCores k).map (·.id)),
          lowestOf ((m.sessions.filter fun s => s.home == k).map (·.n)),
          lowestOf ((m.dgt.records.filter fun r => r.core == k).map (·.layer)) with
        | some g, _, _, _ => some (6, g)
        | _, some g, _, _ => some (7, g)
        | _, _, some n, _ => some (8, n)
        | _, _, _, some l => some (9, l)
        | _, _, _, _ => budget

/-- FSW group of a testable domain. -/
def bistGroup (d : Nat) : Nat := if d < 44 then 4 + (d - 36) else 4 + (d - 44) / 4

/-- A write of BST_REQ (19 R494, R495, R502). -/
def Mach.bstReq (m : Mach) (value : Nat) : Mach :=
  let m1 := m.writeRw Reg.BST_REQ 0x7F value
  let d := value % 128
  if !bitOf value 31 then m1
  else
    match m1.bistBar d with
    | some (cause, holder) =>
      (m1.count Reg.BST_REFUSE_CNT).wr Reg.BST_REFUSE_LAST (BitVec.ofNat 32 (cause * 2 ^ 28 + holder * 2 ^ 16 + d))
    | none =>
      { (m1.wr Reg.BST_STATUS (BitVec.ofNat 32 (2 ^ 31 + 12000 * 2 ^ 7 + d))).bypassOn (bistGroup d) with
        boot := { m1.boot with bist := some d } }

/-- BST_REQ, 19 R495: a write of the register. -/
def execBstReq (value : Word) (s : State) : Host.Outcome State Fault Refusal :=
  s.runM fun _ m => m.regCmd Reg.BST_REQ fun m => m.bstReq value.toNat

/-- BIST_SLICE, 19 R496: inside an entry with BIST that has 1 µs left, or with the calendar disabled; slices pause while the brake
or the power cap throttles. -/
def execBistSlice (s : State) : Host.Outcome State Fault Refusal :=
  s.runM fun _ m => m.whenRunning fun m =>
    let room := match m.runningEntry with
      | some (_, left) => decide (1000 ≤ left)
      | none => true
    let n := m.fld Reg.BST_STATUS 20 7
    if m.boot.bist.isNone || n = 0 || !m.calPermits 29 || !room || m.pwr.brake || m.flag Reg.PWR_STATUS 27 then m
    else m.setFld Reg.BST_STATUS 20 7 (n - 1)

/-- The test of a domain ends with RESULT, and its group's bypass with it. -/
def Mach.bistOver (m : Mach) (d result : Nat) : Mach :=
  let m1 := (m.setFlag Reg.BST_STATUS 31 false).setFld Reg.BST_STATUS 30 28 result
  { m1 with boot := { m1.boot with bist := none } }.bypassOff (bistGroup d)

/-- The spare of a cluster fails: it is unavailable, an FC0 note (19 R497). -/
def Mach.spareFails (m : Mach) (cl : Nat) : Mach :=
  ((m.setFlag Reg.ENG_SPARE cl false).setFld (Reg.ENG_MAP_C cl) 14 12 7).note (4 + cl) 0 (36 + cl) 0x08

/-- BIST_END, 19 R497: after the last slice. -/
def execBistEnd (pass : Bool) (signature : Quad) (s : State) : Host.Outcome State Fault Refusal :=
  s.runMS fun st m =>
    match m.boot.bist with
    | none => (m, st)
    | some d =>
      if !m.running || m.fld Reg.BST_STATUS 20 7 ≠ 0 then (m, st)
      else
        let m1 := (m.wr Reg.BST_SIG_LO (BitVec.ofNat 32 signature.toNat)).wr Reg.BST_SIG_HI (BitVec.ofNat 32 (signature.toNat / 2 ^ 32))
        let m2 := m1.bistOver d (if pass then 1 else 2)
        if d < 44 then (if pass then m2 else m2.spareFails (d - 36), st)
        else if pass then
          let k := d - 44
          ((m2.codeWritten 3 k 0 (2 ^ 20)).modCore k fun c => { c with poisoned := [], badFetch := [] },
            { st with scratch := sclear st.scratch (k * 2 ^ 23) ((k + 1) * 2 ^ 23)
                      prog := sclear st.prog (k * 32768) ((k + 1) * 32768) })
        else (m2.coreFence st (d - 44) .uncorrectable 0x08, st)

end Sys2Proof.Machine
end

