-- ==== Sys2Proof/Machine/Security.lean ====
section
/-! DEFINITION. Security.lean: measurements, quotes, anti-rollback and the push of a firmware image, 20 R511 to R522. -/
namespace Sys2Proof.Machine

/-! ### Measurements and quotes (20 R511, R512) -/

/-- MEASn becomes SM3(MEASn ‖ SEC_EXT). -/
def Mach.extend_ (m : Mach) (n : Nat) : Mach :=
  m.setMeas n (sm3 (m.meas n ++ wordBytes ((List.range 16).map fun w => m.rd (Reg.SEC_EXT_W w))))

/-- The first 336 bytes of a quote. -/
def Mach.quoteBody (m : Mach) : List Byte :=
  leBytes 4 (1 * 2 ^ 24 + steppingCode * 2 ^ 16 + m.fld Reg.ENG_ARITH_REV 7 0 * 2 ^ 8 + m.sec.arb) ++
    leBytes 4 (m.sec.svn * 2 ^ 24) ++ leBytes 4 (m.rd Reg.SEC_IMAGE).toNat ++
    leBytes 4 ((m.rd Reg.BOOT_COLD_CNT).toNat + (m.rd Reg.BOOT_WARM_CNT).toNat) ++ unitId ++
    wordBytes ((List.range 8).map fun w => m.rd (Reg.SEC_NONCE_W w)) ++
    leBytes 8 (if m.fld Reg.TIM_STATUS 1 0 = 0 then 0 else m.now) ++ List.replicate 8 0 ++ ((List.range 8).flatMap m.meas)

/-- The quote is signed and shown; its SM2 nonce is a free value (log 7). -/
def Mach.quoteDone (m : Mach) : Mach :=
  let d := m.draw 256
  let body := d.2.quoteBody
  let words := bytesWords (body ++ sm2Sign (d.1 % (sm2N - 1) + 1) body)
  let m1 := ((List.range 100).foldl (fun a k => a.wr (Reg.SEC_QUOTE_W k) (words.getD k 0)) d.2).setFlag Reg.SEC_CTL 28 true
  m1.sec.extends_.foldl Mach.extend_ { m1 with sec := { m1.sec with quoting := false, extends_ := [] } }

/-- FSW group 37 is at FC3. -/
def Mach.secFenced (m : Mach) : Bool := m.flt.fences.contains 37

/-- A write of EXTEND with IDX; one after a quote in progress waits for it. -/
def Mach.extendWrite (m : Mach) (n : Nat) : Mach :=
  if n < 6 then m.count Reg.SEC_ERR_CNT
  else if m.sec.quoting then { m with sec := { m.sec with extends_ := m.sec.extends_ ++ [n] } }
  else m.extend_ n

/-- A write of QUOTE. -/
def Mach.quoteWrite (m : Mach) : Mach :=
  if m.stage < 9 || m.sec.quoting || m.secFenced then m.setFlag Reg.SEC_CTL 27 true
  else { m.setFld Reg.SEC_CTL 28 27 0 with sec := { m.sec with quoting := true } }

/-- A write of ARB_ADVANCE (20 R519): refused, or the count becomes the SVN of the running image. -/
def Mach.arbWrite (m : Mach) : Mach :=
  if m.sec.svn ≤ m.sec.arb || (imgFails m.sec.arb m.sec.image).isSome || imgSvn m.sec.image < m.sec.svn ||
    m.flag Reg.SEC_FW_CTL 30 || m.secFenced then m.setFlag Reg.SEC_CTL 26 true
  else { m.setFlag Reg.SEC_CTL 26 false with sec := { m.sec with arb := m.sec.svn } }

/-- A write of SEC_CTL: EXTEND, then QUOTE, then ARB_ADVANCE (20 R521). -/
def Mach.secCtl (m : Mach) (value : Nat) : Mach :=
  let m1 := if bitOf value 31 then m.extendWrite (value % 8) else m
  let m2 := if bitOf value 30 then m1.quoteWrite else m1
  if bitOf value 29 then m2.arbWrite else m2

/-- EXTEND, 20 R511: a write of SEC_CTL. -/
def execExtend (value : Word) (s : State) : Host.Outcome State Fault Refusal :=
  s.runM fun _ m => m.regCmd Reg.SEC_CTL fun m => m.secCtl value.toNat

/-- QUOTE, 20 R512: a write of SEC_CTL. -/
def execQuote (value : Word) (s : State) : Host.Outcome State Fault Refusal :=
  s.runM fun _ m => m.regCmd Reg.SEC_CTL fun m => m.secCtl value.toNat

/-- QUOTE_DONE, 20 R512. -/
def execQuoteDone (s : State) : Host.Outcome State Fault Refusal :=
  s.runM fun _ m => if m.awake && m.sec.quoting then m.quoteDone else m

/-- ARB_ADVANCE, 20 R519: a write of SEC_CTL. -/
def execArbAdvance (value : Word) (s : State) : Host.Outcome State Fault Refusal :=
  s.runM fun _ m => m.regCmd Reg.SEC_CTL fun m => m.secCtl value.toNat

/-! ### Pushing an image (20 R518, R520) -/

/-- A push is refused with a CAUSE. -/
def Mach.pushRefuse (m : Mach) (cause : Nat) : Mach :=
  (m.setFld Reg.SEC_FW_CTL 29 27 3).setFld Reg.SEC_FW_CTL 23 16 cause

/-- GO of SEC_FW_CTL. An address off 4 KiB or inside an own window is refused (15 R394); the spec states no CAUSE for it
(log 50). -/
def Mach.pushGo (m : Mach) : Mach :=
  let addr := m.rd64 Reg.SEC_FW_ADDR_LO Reg.SEC_FW_ADDR_HI
  if m.flag Reg.SEC_FW_CTL 30 then m.pushRefuse 11
  else if m.flt.fences.contains 36 then m.pushRefuse 9
  else if m.flt.lanternReset && !m.boot.waitingImage then m.pushRefuse 10
  else if addr % 4096 ≠ 0 || m.ownWindow addr (m.rd Reg.SEC_FW_LEN).toNat then (m.draw 8).2.pushRefuse (m.draw 8).1
  else
    { m.wr Reg.SEC_FW_CTL (BitVec.ofNat 32 (2 ^ 30 + 2 ^ 24)) with
      boot := { m.boot with attempts := m.boot.attempts + b2n m.boot.waitingImage } }

/-- FW_PUSH, 20 R518: a write of SEC_FW_CTL. -/
def execFwPush (value : Word) (s : State) : Host.Outcome State Fault Refusal :=
  s.runM fun _ m => m.regCmd Reg.SEC_FW_CTL fun m => if bitOf value.toNat 31 then m.pushGo else m

/-- A push fails; a recovery then reports WAITING again (19 R485). -/
def Mach.pushFails (m : Mach) (cause : Nat) (torn : Bool) : Mach :=
  let m1 := m.pushEnds 2 cause torn
  if m1.boot.waitingImage then m1.stageWaits else m1

/-- The flash copy verifies: PASS; a recovery completes B2 from it. -/
def Mach.pushPasses (m : Mach) (st : Store) : Mach :=
  let m1 := (m.pushEnds 1 0 false).dropPins fun p => p.group == 36
  if m1.boot.waitingImage then { m1 with boot := { m1.boot with waitingImage := false } }.stagePass st 2 0 [] 0 else m1

/-- A phase of a push ends: `image` holds what the module read of the companion's memory in passes 1 and 2. In a recovery the
program phase always runs. -/
def Mach.pushPhase (m : Mach) (st : Store) (outcome : PushEnd) (image : List Byte) : Mach :=
  let img := image.take (m.rd Reg.SEC_FW_LEN).toNat
  match m.fld Reg.SEC_FW_CTL 26 24, outcome with
  | 1, .done =>
    match imgFails m.sec.arb img with
    | some v => if m.boot.waitingImage then m.setFld Reg.SEC_FW_CTL 26 24 2 else m.pushFails v false
    | none => m.setFld Reg.SEC_FW_CTL 26 24 2
  | 1, .fetch => m.pushFails 8 false
  | 2, .done =>
    let m1 := (m.setFld Reg.SEC_FW_CTL 26 24 3).setFld Reg.SEC_FW_CTL 15 0 ((img.length + 4095) / 4096)
    { m1 with sec := { m1.sec with image := img } }
  | 2, .fetch => m.pushFails 8 true
  | 2, .flash n => ((m.setFld Reg.SEC_FW_CTL 15 0 n.toNat).pushFails 9 true).raisePin 36 2 0 0x30C
  | 3, .done =>
    match imgFails m.sec.arb m.sec.image with
    | some v => m.pushFails v false
    | none => m.pushPasses st
  | _, _ => m

/-- PUSH_PHASE_DONE, 20 R518. -/
def execPushPhaseDone (outcome : PushEnd) (image : List Byte) (s : State) : Host.Outcome State Fault Refusal :=
  s.runM fun st m => if m.awake && m.flag Reg.SEC_FW_CTL 30 then m.pushPhase st outcome image else m

end Sys2Proof.Machine
end

