-- ==== Sys2Proof/Machine/Board.lean ====
section
/-! DEFINITION. Board.lean: the GLB block's actions (22 R552, R554), faults that reach the collector from clocks, rails and
die-to-die links (18 R462), and the management buses (23 R565, R566). -/
namespace Sys2Proof.Machine

/-! ### The window bases and the locks (22 R552, R554) -/

/-- The window bases pass the checks of R552: both aligned, no overlap. -/
def Mach.windowsOk (m : Mach) : Bool :=
  let c := m.rd64 Reg.GLB_CFG_BASE_LO Reg.GLB_CFG_BASE_HI
  let f := m.rd64 Reg.GLB_FMW_BASE_LO Reg.GLB_FMW_BASE_HI
  c % 2 ^ 26 == 0 && f % 2 ^ 39 == 0 && (decide (c + 2 ^ 26 ≤ f) || decide (f + 2 ^ 39 ≤ c))

/-- A write of GLB_WIN_CTL: VALID 1 sets VALID or ERR; VALID 0 is discarded while a ring set is enabled. -/
def Mach.winCtl (m : Mach) (value : Nat) : Mach :=
  if bitOf value 31 then
    if m.windowsOk then (m.setFlag Reg.GLB_WIN_CTL 31 true).setFlag Reg.GLB_WIN_CTL 30 false
    else (m.setFlag Reg.GLB_WIN_CTL 31 false).setFlag Reg.GLB_WIN_CTL 30 true
  else if m.flag Reg.GLB_WIN_CTL 31 && (List.range 65).any m.ringEn then m.cfgMiss
  else m.setFlag Reg.GLB_WIN_CTL 31 false

/-- GLB_WIN_VALID, 22 R552: a write of GLB_WIN_CTL. -/
def execGlbWinValid (value : Word) (s : State) : Host.Outcome State Fault Refusal :=
  s.runM fun _ m => m.regCmd Reg.GLB_WIN_CTL fun m => m.winCtl value.toNat

/-- A write of GLB_LOCK: bits set and stay; INJ clears the locked fields, and no armed injection acts any more (R554). -/
def Mach.lockWrite (m : Mach) (value : Nat) : Mach :=
  let m1 := m.wr Reg.GLB_LOCK (BitVec.ofNat 32 ((m.rd Reg.GLB_LOCK).toNat ||| (value &&& 7)))
  if m1.flag Reg.GLB_LOCK 1 then
    let m2 := ((m1.setFlag Reg.FLT_CTL 29 false).setFlag Reg.FLT_CTL 28 false).setFlag Reg.TRL_FI_EN 31 false
    { m2 with flt := { m2.flt with injections := [] } }
  else m1

/-- LOCK_FEAT, 22 R554: a write of GLB_LOCK. -/
def execLockFeat (value : Word) (s : State) : Host.Outcome State Fault Refusal :=
  s.runM fun _ m => m.regCmd Reg.GLB_LOCK fun m => m.lockWrite value.toNat

/-- LOCK_INJ, 22 R554: a write of GLB_LOCK. -/
def execLockInj (value : Word) (s : State) : Host.Outcome State Fault Refusal :=
  s.runM fun _ m => m.regCmd Reg.GLB_LOCK fun m => m.lockWrite value.toNat

/-- LOCK_JTAG, 22 R554: a write of GLB_LOCK. -/
def execLockJtag (value : Word) (s : State) : Host.Outcome State Fault Refusal :=
  s.runM fun _ m => m.regCmd Reg.GLB_LOCK fun m => m.lockWrite value.toNat

/-! ### Clock, rail and die-to-die faults (18 R462, 21 R523, 23 R568) -/

/-- A fault at FC4 of a group for whose cause no status register is named: DETAIL is free (log 51). It enters safe state at any
time but in reset (18 R469). -/
def Mach.hardFault (m : Mach) (g : Nat) : Mach :=
  if m.boot.resetN || m.boot.warmN || m.pwr.lost then m else (m.draw 16).2.raisePin g 4 0 (m.draw 16).1

/-- PLL_LOCK_LOSS, 18 R462, 23 R568: group 34; before stage B1 is complete it is B1's to report. -/
def execPllLockLoss (s : State) : Host.Outcome State Fault Refusal :=
  s.runM fun _ m => if 2 ≤ m.stage then m.hardFault 34 else m

/-- RAIL_OUT_OF_REGULATION, 18 R462, 21 R523: group 32. -/
def execRailOutOfRegulation (_rail : Byte) (s : State) : Host.Outcome State Fault Refusal :=
  s.runM fun _ m => m.hardFault 32

/-- D2D_LINK_FAULT, 18 R462: group 31. -/
def execD2dLinkFault (_link : Byte) (s : State) : Host.Outcome State Fault Refusal :=
  s.runM fun _ m => m.hardFault 31

/-! ### Management buses (23 R565, R566) -/

/-- What a PMBus command returns; none is a NACK. -/
def Mach.pmbus (m : Mach) (code : Nat) : Option Word :=
  let vin := m.fld Reg.PWR_VIN 15 0
  let pin := m.fld Reg.PWR_VIN 31 16
  let reading (n : Int) (d : Nat) : Option Word := some ((Config.linear11 n d).setWidth 32)
  if code = 0x79 then some (BitVec.ofNat 32 (4 * b2n (m.flag Reg.PWR_STATUS 28) + 8 * b2n m.pwr.lost))
  else if code = 0x88 then reading vin 1000
  else if code = 0x89 then reading (1000 * pin : Nat) vin
  else if code = 0x8D then reading (m.hottest 6) 1
  else if code = 0x8E then reading (m.temp 7) 1
  else if code = 0x97 then reading pin 1
  else if code = 0x98 then some 0x33
  else none

/-- PMBUS_COMMAND, 23 R565: while the module is held in reset I3C_SDA floats (21 R535), which reads as a NACK. -/
def execPmbusCommand (code : Byte) (s : State) : Host.Outcome State Fault Refusal :=
  s.runM fun _ m => m.emit (.pmbus (if m.boot.resetN then none else m.pmbus code.toNat))

/-- IDCODE (23 R566). -/
def idcode : Nat := 0x05120DAB + Config.stepping.val * 2 ^ 28

/-- An instruction of the test access port with the bits it shifts in (23 R566). TDO floats while RESET_N holds the module
(21 R535). BYPASS returns the data one bit later; SAMPLE returns free bits: the spec numbers no boundary cell (log 52). -/
def Mach.tapGo (m : Mach) (instr : TapInstr) (data : Nat) : Mach :=
  let tdo (a : Mach) (v : Nat) : Mach := if m.boot.resetN then a else a.emit (.tap instr v)
  match instr with
  | .bypass => tdo m (data * 2 % 2 ^ 66)
  | .idcode => tdo m idcode
  | .sample => tdo (m.draw 66).2 (m.draw 66).1
  | .preload => { m with tap := BitVec.ofNat 66 data }
  | .extest =>
    if m.boot.resetN then { m.emit (.tap instr m.tap.toNat) with tap := BitVec.ofNat 66 data } else m
  | .test _ => m

/-- TAP_INSTRUCTION, 23 R566: a test instruction is executed only while GLB_LOCK.JTAG is 0, and the spec gives it no effect. -/
def execTapInstruction (instr : TapInstr) (data : BitVec 66) (s : State) : Host.Outcome State Fault Refusal :=
  match instr with
  | .test _ => if s.mach.flag Reg.GLB_LOCK 2 then .next s else .refused .tapPrivate
  | _ => s.runM fun _ m => m.tapGo instr data.toNat

end Sys2Proof.Machine
end

