-- ==== Sys2Proof/Machine/EccCmds.lean ====
section
/-! DEFINITION. EccCmds.lean: the commands of 17: long-lived scratch masks, restarts of halted channels, the error log and the
retire map. -/
namespace Sys2Proof.Machine

/-! ### Long-lived scratch (17 R448) -/

/-- A write of ECC_SCR_LONG: at once when the core has no running or queued program, else held. -/
def Mach.scrLong (m : Mach) (off value : Nat) : Mach :=
  let k := (off - Reg.ECC_SCR_LONG_C 0 0) / 16
  (m.modCore k fun c => { c with
    longHeld := c.longHeld.filter (fun p => p.1 != off) ++ [(off, BitVec.ofNat 32 value)] }).applyLong k

/-- A write of an ECC_REGION register: at once, and the private lines whose code it changes are under the other code now
(17 R446, R449). -/
def Mach.eccRegion (m : Mach) (off value : Nat) : Mach :=
  let s := (off - Reg.ECC_REGION_M 0 0) / 64
  let m1 := m.writeRw off 0xC03FFFFF value
  let touched (a : Mach) (u : Nat) : Bool := decide (a.fld off 10 0 ≤ u) && decide (u < a.fld off 21 11)
  let units := (List.range 1024).filter fun u => (touched m u || touched m1 u) && m.unitLight s u != m1.unitLight s u
  { m1 with ecc := { m1.ecc with otherCode := (m1.pool s).flipPrivate (units.map (unitLines s)) m1.ecc.otherCode } }

/-- SCR_LONG_APPLY, 17 R448: a held mask takes effect when the core is idle. -/
def execScrLongApply (core : BitVec 5) (s : State) : Host.Outcome State Fault Refusal :=
  s.runM fun _ m => m.whenRunning fun m => m.applyLong core.toNat

/-! ### Halted channels (17 R455) -/

/-- Clear the bits of a halt register that a restart names, and the pins they hold. -/
def Mach.unhalt (m : Mach) (halt value : Nat) (mine : Pin → Bool) : Mach :=
  (m.wr halt (BitVec.ofNat 32 ((m.rd halt).toNat &&& (value ^^^ 0xFFFFFFFF)))).dropPins mine

/-- A write of ECC_SUMP_RESTART: the failing packets of the stacks named go on poisoned. -/
def Mach.sumpRestart (m : Mach) (value : Nat) : Mach :=
  let named (q : Queue) : Bool := match q.pages with
    | p :: _ => bitOf value (pageStack p)
    | [] => false
  let fix (x : QPkt) : QPkt := if x.failed then { x with failed := false, pkt := { x.pkt with poison := true } } else x
  let mend (q : Queue) : Queue := if named q then { q with pkts := q.pkts.map fix } else q
  let m1 := { m with sw := { m.sw with queues := m.sw.queues.map mend } }
  m1.unhalt Reg.ECC_SUMP_HALT (value % 256) fun p =>
    decide (20 ≤ p.group) && decide (p.group < 28) && p.detail == 0x30 && bitOf value (p.group - 20)

/-- ECC_SUMP_RESTART, 17 R455: a write of the register. -/
def execEccSumpRestart (value : Word) (s : State) : Host.Outcome State Fault Refusal :=
  s.runM fun _ m => m.regCmd Reg.ECC_SUMP_RESTART fun m => m.sumpRestart value.toNat

/-- A write of ECC_DMA_RESTART. -/
def Mach.dmaRestart (m : Mach) (value : Nat) : Mach :=
  m.unhalt Reg.ECC_DMA_HALT value fun p =>
    decide (4 ≤ p.group) && decide (p.group < 12) && p.detail == 0x38 && bitOf value p.unit

/-- ECC_DMA_RESTART, 17 R455: a write of the register. -/
def execEccDmaRestart (value : Word) (s : State) : Host.Outcome State Fault Refusal :=
  s.runM fun _ m => m.regCmd Reg.ECC_DMA_RESTART fun m => m.dmaRestart value.toNat

/-! ### The error log (17 R457, R460) -/

/-- A write of ECC_LOG_CTL: DIE, and POP of the log it selects. -/
def Mach.eccLogCtl (m : Mach) (value : Nat) : Mach :=
  let m1 := m.writeRw Reg.ECC_LOG_CTL 0x40000000 value
  if bitOf value 31 then
    { m1 with ecc := { m1.ecc with logs := modNth (fun l => l.drop 1) (b2n (bitOf value 30)) m1.ecc.logs } }
  else m1

/-- ECC_LOG_POP, 17 R460: a write of ECC_LOG_CTL. -/
def execEccLogPop (value : Word) (s : State) : Host.Outcome State Fault Refusal :=
  s.runM fun _ m => m.regCmd Reg.ECC_LOG_CTL fun m => m.eccLogCtl value.toNat

/-! ### The retire map (17 R458, R460) -/

/-- LOC names a 4 KiB HBM page, or one of the five positions of a cluster. -/
def retireOk (kind loc : Nat) : Bool := kind == 0 || (kind == 1 && decide (loc < 64) && decide (loc % 8 < 5))

/-- ADD: the entry joins the map in use; the pops of its pool skip it from now on (07 R190). -/
def Mach.retireAdd (m : Mach) : Mach :=
  let e := (m.rd Reg.ECC_RETIRE_ENTRY).toNat
  let kind := bits e 31 30
  let loc := bits e 26 0
  if 1024 ≤ m.ecc.retire.length || !retireOk kind loc then m.setFlag Reg.ECC_RETIRE_CTL 28 true
  else
    let m1 := (m.setFlag Reg.ECC_RETIRE_CTL 28 false)
    { m1 with ecc := { m1.ecc with retire := m1.ecc.retire ++ [(kind, loc)] } }

/-- A write of ECC_RETIRE_CTL: ignored while a commit runs; a commit is refused while Lantern is held in reset or group 36
stands at FC3 (18 R462, R474). -/
def Mach.retireCtl (m : Mach) (value : Nat) : Mach :=
  if m.ecc.busy then m
  else
    let m1 := if bitOf value 31 then m.retireAdd else m
    if bitOf value 30 && !m.flt.lanternReset && !m.flt.fences.contains 36 then { m1 with ecc := { m1.ecc with busy := true } }
    else m1

/-- RETIRE_ADD, 17 R458: a write of ECC_RETIRE_CTL. -/
def execRetireAdd (value : Word) (s : State) : Host.Outcome State Fault Refusal :=
  s.runM fun _ m => m.regCmd Reg.ECC_RETIRE_CTL fun m => m.retireCtl value.toNat

/-- RETIRE_COMMIT, 17 R458: a write of ECC_RETIRE_CTL. -/
def execRetireCommit (value : Word) (s : State) : Host.Outcome State Fault Refusal :=
  s.runM fun _ m => m.regCmd Reg.ECC_RETIRE_CTL fun m => m.retireCtl value.toNat

/-- RETIRE_COMMIT_DONE, 17 R458: the map is in flash, or the flash failed, an FC2 fault of group 36 (log 40). -/
def execRetireCommitDone (ok : Bool) (s : State) : Host.Outcome State Fault Refusal :=
  s.runM fun _ m =>
    if !m.awake || !m.ecc.busy then m
    else
      let m1 := { m with ecc := { m.ecc with busy := false, flash := if ok then m.ecc.retire else m.ecc.flash } }
      if ok then m1.dropPins fun p => p.group == 36 else m1.raisePin 36 2 0 0x44

end Sys2Proof.Machine
end

