-- ==== Sys2Proof/Machine/Power.lean ====
section
/-! DEFINITION. Power.lean: power of 21: switching domains, module states M2 and M3 with their entry, wake and exit, and power
loss. -/
namespace Sys2Proof.Machine

/-! ### Refusals (21 R534) -/

/-- Refuse a domain request (`kind` 0) or a state entry (1 M2, 2 M3). -/
def Mach.pwrRefuse (m : Mach) (kind cause domain : Nat) : Mach :=
  ((m.count Reg.PWR_REFUSE_CNT).wr Reg.PWR_REFUSE_LAST (BitVec.ofNat 32 (cause * 2 ^ 28 + kind * 2 ^ 26 + domain))).powerEvent 4 0 7
    0 cause domain

/-! ### Switching domains (21 R524, R525) -/

/-- A program of a core runs or is queued, or a group, session or weight record names it (21 R524). -/
def Mach.coreUsed (m : Mach) (k : Nat) : Bool :=
  (m.core k).running.isSome || !(m.core k).queue.isEmpty || m.groups.any (fun g => bitOf g.redCores k) ||
    m.sessions.any (fun s => s.home == k) || m.dgt.records.any fun r => r.core == k

/-- A fabric-memory page is allocated on a stack. -/
def Mach.pageOn (m : Mach) (s : Nat) : Bool := m.pages.any fun p => p.alloc && p.page / 2 ^ 20 == s

/-- An HBM transfer of a core touches a stack. -/
def Mach.dmaOn (m : Mach) (s : Nat) : Bool :=
  m.cores.any fun c => c.dmas.any fun d => decide (d.hbm < (s + 1) * 2 ^ 36) && decide (s * 2 ^ 36 < d.hbm + d.len)

/-- The first domain of a list that is on. -/
def Mach.firstOn (m : Mach) (l : List Nat) : Option Nat := l.find? fun d => !m.domainOff d

/-- What keeps a domain from going off: CAUSE and refusing domain (21 R524, R534). -/
def Mach.domainBar (m : Mach) (d : Nat) : Option (Nat × Nat) :=
  if d < 32 then
    if (List.range 16).all fun i => !(m.lane (16 * d + i)).en || (m.lane (16 * d + i)).off || m.lstate (16 * d + i) == 2 then none
    else some (0, d)
  else if d < 36 then (m.firstOn ((List.range 8).map fun i => 8 * (d - 32) + i)).map fun x => (2, x)
  else if d < 44 then
    match m.firstOn ((List.range 4).map fun i => 44 + 4 * (d - 36) + i) with
    | some x => some (2, x)
    | none => if m.flag Reg.ENG_SPARE (8 + (d - 36)) then some (2, 44 + 4 * (d - 36)) else none
  else if d < 76 then (if m.coreUsed (d - 44) then some (1, d) else none)
  else if 78 ≤ d && d ≤ 85 then
    if m.sumpUsed (d - 78) ≠ 0 || m.pageOn (d - 78) || m.dmaOn (d - 78) then some (3, d) else none
  else some (9, d)

/-- Show a domain on or off; M1 is the state with a domain of D00 to D85 off (21 R525). -/
def Mach.domainSet (m : Mach) (d : Nat) (off : Bool) : Mach :=
  let m1 := m.setFlag (Reg.PWR_DOMAIN_STAT_W (d / 32)) (d % 32) off
  m1.setFld Reg.PWR_STATUS 31 30 (b2n ((List.range 86).any m1.domainOff))

/-- What a domain going off loses at once (11 R312). -/
def Mach.domainLoses (m : Mach) (d : Nat) : Mach :=
  if d < 32 then (List.range 16).foldl (fun a i =>
    ((a.modLane (16 * d + i) fun x => { x with calLeft := 0 }).setLstate (16 * d + i) 3 0).wr (Reg.LNE_STORED_COEF (16 * d + i)) 0) m
  else if 44 ≤ d && d < 76 then m.setCore { core := d - 44 }
  else m

/-- A domain goes off, or the request is refused. -/
def Mach.domainGo (m : Mach) (d : Nat) : Mach :=
  if m.domainOff d then { m with pwr := { m.pwr with starting := m.pwr.starting.filter (· != d) } }
  else
    match m.domainBar d with
    | some (cause, x) => m.pwrRefuse 0 cause x
    | none => ((m.domainLoses d).domainSet d true).powerEvent 3 0 7 0 0 d

/-- The domain that a domain depends on (21 R524). -/
def domainNeeds (d : Nat) : Option Nat :=
  if d < 32 then some (32 + d / 8) else if 44 ≤ d && d < 76 then some (36 + (d - 44) / 4) else none

/-- A domain that is off starts to switch on, after the one it depends on. -/
def Mach.domainCome (m : Mach) (d : Nat) : Mach :=
  let l := ((domainNeeds d).toList ++ [d]).filter fun x => m.domainOff x && !m.pwr.starting.contains x
  { m with pwr := { m.pwr with starting := m.pwr.starting ++ l } }

/-- The order in which one write's requests are taken: what depends on a domain before that domain. -/
def offOrder : List Nat :=
  (List.range 36) ++ (List.range 32).map (· + 44) ++ (List.range 8).map (· + 36) ++ (List.range 8).map (· + 78) ++ [76, 77, 86, 87]

/-- A write of PWR_DOMAIN_OFF_Ww. -/
def Mach.domainWrite (m : Mach) (w value : Nat) : Mach :=
  let m1 := m.writeRw (Reg.PWR_DOMAIN_OFF_W w) (if w = 2 then 0x3FCFFF else 0xFFFFFFFF) value
  let mine := offOrder.filter fun d => d / 32 == w
  let m2 := (mine.filter fun d => bitOf value (d % 32)).foldl Mach.domainGo m1
  (mine.filter fun d => !bitOf value (d % 32) && m2.domainOff d).foldl Mach.domainCome m2

/-- PWR_DOMAIN_OFF, 21 R524, R541: a write of the register. -/
def execPwrDomainOff (word : BitVec 2) (value : Word) (s : State) : Host.Outcome State Fault Refusal :=
  s.runM fun _ m =>
    if word = 3 then m else m.regCmd (Reg.PWR_DOMAIN_OFF_W word.toNat) fun m => m.domainWrite word.toNat value.toNat

/-- What a domain finds when it is on again (21 R524): lanes train in full, scratch and program store hold zeros, the stack's
pools are refilled. -/
def Mach.domainInit (m : Mach) (st : Store) (d : Nat) : Mach × Store :=
  if d < 32 then ((List.range 16).foldl (fun a i => a.laneTrain (16 * d + i) false) m, st)
  else if 44 ≤ d && d < 76 then
    let k := d - 44
    (m.codeWritten 3 k 0 (2 ^ 20), { st with scratch := sclear st.scratch (k * 2 ^ 23) ((k + 1) * 2 ^ 23), prog := sclear st.prog (k * 32768) ((k + 1) * 32768) })
  else if 78 ≤ d && d < 86 then
    let s := d - 78
    let m1 := { m with pages := m.pages.filter fun p => p.page / 2 ^ 20 != s, pools := m.pools.filter fun p => p.stack != s }
    ((m1.codeWritten 17 s 0 (2 ^ 30)).setPool { m.pool s with fmFree := [], fmTop := (m.pool s).fmLimit, spFree := [], spTop := (m.pool s).sumpPages }, { st with hbm := sclear st.hbm (s * 2 ^ 36) ((s + 1) * 2 ^ 36) })
  else (m, st)

/-- DOMAIN_ON_DONE, 21 R524: of a domain that is switching on, once the domain it depends on is on. -/
def execDomainOnDone (domain : BitVec 7) (s : State) : Host.Outcome State Fault Refusal :=
  s.runMS fun st m =>
    let d := domain.toNat
    if !m.awake || !m.pwr.starting.contains d || (domainNeeds d).any m.domainOff then (m, st)
    else
      let m1 := { m with pwr := { m.pwr with starting := m.pwr.starting.filter (· != d) } }
      let r := (m1.domainSet d false).domainInit st d
      (r.1.powerEvent 3 0 7 0 0 d, r.2)

/-! ### Entering M2 and M3 (21 R530, R531) -/

/-- What refuses an entry to module state `k`: CAUSE and domain. -/
def Mach.entryBar (m : Mach) (k : Nat) : Option (Nat × Nat) :=
  let session := (List.range 4).findSome? fun n => m.session? n
  let group := m.groups.find? fun g => g.outstanding != 0
  let core := (List.range 32).find? fun c => (m.core c).running.isSome || !(m.core c).queue.isEmpty
  let stack := (List.range 8).find? fun s => m.pageOn s && !m.flag Reg.PWR_RETAIN (8 + s)
  match session, group, core with
  | some s, _, _ => some (4, 44 + s.home)
  | _, some g, _ => some (5, if bitOf g.dies 0 then 76 else 77)
  | _, _, some c => some (1, 44 + c)
  | _, _, _ =>
    match m.boot.bist with
    | some d => some (6, d)
    | none =>
      if m.flag Reg.SEC_FW_CTL 30 || m.ecc.busy then some (7, 87)
      else if k = 2 then stack.map fun s => (3, 78 + s) else none

/-- A write of PWR_STATE_REQ: step 1 of the entry, or a refusal (21 R531, R541). -/
def Mach.stateEnter (m : Mach) (value : Nat) : Mach :=
  let k := value % 4
  if !bitOf value 31 || k < 2 then m
  else if m.flag Reg.PWR_STATUS 29 then m.pwrRefuse (k - 1) 9 87
  else
    match m.entryBar k with
    | some (cause, d) => m.pwrRefuse (k - 1) cause d
    | none =>
      let m1 := (m.setFlag Reg.PWR_STATUS 29 true).setFlag Reg.BOOT_STATUS 23 false
      let m2 := (m1.ports.filter Port.usable).foldl (fun a p =>
        let b := a.sendLink p.first false 1
        if 3 ≤ p.negRev then b.sendLink p.first false 3 else b) m1
      { m2 with pwr := { m2.pwr with
        entering := some ⟨k, m.aon, 1⟩, retain := (m.rd Reg.PWR_RETAIN).toNat, wakeCfg := (m.rd Reg.PWR_WAKE_CFG).toNat } }

/-- STATE_REQ_M2, 21 R531: a write of PWR_STATE_REQ. -/
def execStateReqM2 (value : Word) (s : State) : Host.Outcome State Fault Refusal :=
  s.runM fun _ m => m.regCmd Reg.PWR_STATE_REQ fun m => m.stateEnter value.toNat

/-- STATE_REQ_M3, 21 R531: a write of PWR_STATE_REQ. -/
def execStateReqM3 (value : Word) (s : State) : Host.Outcome State Fault Refusal :=
  s.runM fun _ m => m.regCmd Reg.PWR_STATE_REQ fun m => m.stateEnter value.toNat

/-- Bank `b` of PWR_RETAIN, as the entry took it (21 R541), is kept in module state `k`. -/
def Mach.keeps (m : Mach) (k b : Nat) : Bool := k == 2 && bitOf m.pwr.retain b

/-- Registers that module state `k` keeps: those of BOOT, FLT and PWR, the DGT_TEV counters, GLB_LOCK, the straps, and what the
banks of PWR_RETAIN hold in registers (21 R530, R531). -/
def Mach.sleepRanges (m : Mach) (k : Nat) : List (Nat × Nat) :=
  fuseRanges ++ [(0x34, 0x38), (0x10000, 0x40000), (0xE0000, 0xE0014), (0x200000, 0x200004)] ++
    (if m.keeps k 0 then [(0x100040, 0x100080)] else []) ++ (if m.keeps k 3 then [(0x128000, 0x138000)] else []) ++
    (if m.keeps k 5 then [(0xA0004, 0xA000C), (0xA0040, 0xA0060)] else [])

/-- What is left of the machine in module state `k` (21 R531). -/
def Mach.asleep (m : Mach) (k : Nat) : Mach :=
  let b := m.bare
  let pages := m.pages.filter fun p => m.keeps k (8 + p.page / 2 ^ 20)
  let m1 : Mach := { b with
    regs := m.regsIn (m.sleepRanges k)
    flt := { m.flt with pins := m.flt.pins.filter fun p => alwaysFatal p.group
                        lanternReset := true
                        lanternVerify := false
                        injections := [] }
    boot := { b.boot with held := m.boot.held, reports := m.boot.reports
                          excluded := if k = 2 then m.boot.excluded else []
                          badClusters := if k = 2 then m.boot.badClusters else [] }
    pwr := { b.pwr with samples := m.pwr.samples, lateEvents := m.pwr.lateEvents, retain := m.pwr.retain, wakeCfg := m.pwr.wakeCfg }
    ecc := { b.ecc with otherCode := m.codesReset (fun s => m.keeps k (8 + s)) true }
    sw := { stamp := m.keeps k 0 && m.sw.stamp }
    groups := if m.keeps k 1 then m.groups.map fun g => { g with ops := [], waiting := [], reforms := [] } else []
    layers := if m.keeps k 2 then m.layers else []
    dgt := { records := if m.keeps k 5 then m.dgt.records else [] }
    pools := m.pools.filter fun p => m.keeps k (8 + p.stack)
    pages := pages }
  (pages.filter fun p => p.alloc).foldl (fun a p => a.count (Reg.FMM_USED_G p.gallery)) m1

/-- What is left of the memories in module state `k`. -/
def Mach.asleepStore (m : Mach) (k : Nat) (st : Store) : Store :=
  { hbm := (List.range 8).foldl (fun c s => if m.keeps k (8 + s) then c else sclear c (s * 2 ^ 36) ((s + 1) * 2 ^ 36)) st.hbm
    prog := if m.keeps k 4 then st.prog else []
    expmap := if m.keeps k 2 then st.expmap else []
    route := if m.keeps k 0 then st.route else [] }

/-- Every domain but D87, and D86 with `jnk`, is off. -/
def Mach.allOff (m : Mach) : Mach :=
  ((m.wr (Reg.PWR_DOMAIN_STAT_W 0) 0xFFFFFFFF).wr (Reg.PWR_DOMAIN_STAT_W 1) 0xFFFFFFFF).wr (Reg.PWR_DOMAIN_STAT_W 2) 0x007FFFFF

/-- Steps 2 to 5 of an entry, each at its time after the first (21 R531). -/
def Mach.entryTick (m : Mach) (st : Store) : Mach × Store :=
  match m.pwr.entering with
  | none => (m, st)
  | some e =>
    let due (us : Nat) : Bool := decide (e.at_ + 1000 * us ≤ m.aon)
    let at_ (x : Mach) (n : Nat) : Mach := { x with pwr := { x.pwr with entering := some { e with step := n } } }
    if m.flt.safe then (m, st)
    else if e.step = 1 && due 1000 then
      (at_ ((m.ports.filter fun (p : Port) => p.state != .down).foldl (fun a p => a.portGone st p.first p.downCause .down) m) 2, st)
    else if e.step = 2 && due 2000 then (at_ m 3, st)
    else if e.step = 3 && due 5000 then (at_ ((m.transmittersOff.jnkDown.asleep e.state).allOff) 4, m.asleepStore e.state st)
    else if e.step = 4 && due 10000 then
      let m1 := (m.setFld Reg.PWR_STATUS 31 30 e.state).setFlag Reg.PWR_STATUS 29 false
      ({ m1 with pwr := { m1.pwr with entering := none, lateEvents := m1.pwr.lateEvents ++ [m1.powerBody 2 0 7 0 0 0] } }, st)
    else (m, st)

/-! ### Wake (21 R532, R533) -/

/-- Leave module state `k`: M2 by the stages of R532, M3 by a cold bring-up; domains requested off stay off. -/
def Mach.sleepExit (m : Mach) (k : Nat) : Mach :=
  let m1 := (m.setFlag Reg.PWR_STATUS 29 true).setFlag Reg.BOOT_STATUS 24 false
  let m2 := (List.range 3).foldl (fun a w => a.wr (Reg.PWR_DOMAIN_STAT_W w) (a.rd (Reg.PWR_DOMAIN_OFF_W w))) m1
  let m3 := (m2.setFld Reg.PWR_STATUS 31 30 (b2n ((List.range 86).any m2.domainOff))).startStages
  { m3 with boot := { m3.boot with fromM2 := k == 2 } }

/-- Record the first source of a wake; its event waits for the report ring. -/
def Mach.wakeNote (m : Mach) (source : Nat) : Mach :=
  let m1 := if m.fld Reg.PWR_WAKE_CAUSE 1 0 = 0 then m.setFld Reg.PWR_WAKE_CAUSE 1 0 source else m
  { m1 with pwr := { m1.pwr with lateEvents := m1.pwr.lateEvents ++ [m1.powerBody 5 source 7 0 0 0] } }

/-- A wake from `source`: of a sleeping module, or aborting an entry at the step reached. -/
def Mach.wakeUp (m : Mach) (st : Store) (source : Nat) : Mach × Store :=
  if m.boot.resetN || m.boot.warmN || m.flt.safe || m.pwr.lost then (m, st)
  else if 2 ≤ m.mstate then ((m.sleepExit m.mstate).wakeNote source, st)
  else
    match m.pwr.entering with
    | none => (m, st)
    | some e =>
      let m1 := m.pwrRefuse (e.state - 1) 8 87
      let m2 := { m1 with pwr := { m1.pwr with entering := none } }
      if e.step < 4 then (((m2.transmittersOff.jnkDown.asleep e.state).sleepExit e.state).wakeNote source, m2.asleepStore e.state st)
      else ((m2.sleepExit e.state).wakeNote source, st)

/-- WAKE, 21 R533, 16 R437: a press of WAKE counts, and wakes the module when PWR_WAKE_CFG, as the entry took it (R541), lets it. -/
def execWake (s : State) : Host.Outcome State Fault Refusal :=
  s.runMS fun st m =>
    let r := if bitOf m.pwr.wakeCfg 31 then m.wakeUp st 1 else (m, st)
    (if r.1.awake then r.1.countPress 8 else r.1, r.2)

/-- WAKE_VIN, 21 R533: VIN_40V read below VIN_LO. -/
def execWakeVin (vin : BitVec 16) (s : State) : Host.Outcome State Fault Refusal :=
  s.runMS fun st m =>
    let m1 := m.setFld Reg.PWR_VIN 15 0 vin.toNat
    if bitOf m.pwr.wakeCfg 30 && decide (vin.toNat < 250 * bits m.pwr.wakeCfg 15 8) then m1.wakeUp st 2 else (m1, st)

/-- WAKE_TEMP, 21 R533: a die or the cold plate read above TEMP_C. -/
def execWakeTemp (sensor : BitVec 3) (temp : Byte) (s : State) : Host.Outcome State Fault Refusal :=
  s.runMS fun st m =>
    let m1 := m.setTemp sensor.toNat temp
    if bitOf m.pwr.wakeCfg 29 && decide ((bits m.pwr.wakeCfg 23 16 : Int) < temp.toInt) then m1.wakeUp st 3 else (m1, st)

/-! ### Power loss (21 R536 to R538) -/

/-- The last-gasp record (21 R537); `seq` counts it. -/
def Mach.gaspRecord (m : Mach) (seq : Nat) : List Byte :=
  let s := m.pwr.samples
  let body := leBytes 4 seq ++
    leBytes 4 (m.mstate * 2 ^ 30 + b2n m.flt.safe * 2 ^ 29 + m.stage * 2 ^ 25) ++
    leBytes 8 (if m.fld Reg.TIM_STATUS 1 0 = 0 then 0 else m.now) ++
    leBytes 4 (m.rd Reg.FLT_FSW_LO).toNat ++ leBytes 4 (m.rd Reg.FLT_FSW_HI).toNat ++
    leBytes 4 (m.fld Reg.PWR_VIN 15 0) ++
    ((List.replicate (8 - s.length) 0 ++ s).flatMap fun x => leBytes 2 x) ++
    leBytes 4 (m.rd (Reg.PWR_TEMP_W 0)).toNat ++ leBytes 4 (m.rd (Reg.PWR_TEMP_W 1)).toNat ++
    ([Reg.DGT_TEV_RETRY, Reg.DGT_TEV_REFRESH, Reg.DGT_TEV_THROTTLE, Reg.DGT_TEV_CEWB, Reg.DGT_TEV_TIME].flatMap fun r =>
      leBytes 4 (m.rd r).toNat) ++
    leBytes 4 (m.rd Reg.PWR_STATUS).toNat ++ List.replicate 172 0
  body ++ leBytes 8 (crc64 body)

/-- Lantern firmware programs the record into the lowest erased slot, when one is left. -/
def Mach.writeGasp (m : Mach) : Mach :=
  let seq := m.pwr.lastGaspSeq + 1
  if m.pwr.lastGasp.length < 256 then
    { m with pwr := { m.pwr with lastGasp := m.pwr.lastGasp ++ [m.gaspRecord seq], lastGaspSeq := seq } }
  else m

/-- Power loss (21 R536): the record, and load shed: transmitters and rings off, every domain but D87 off. Before Lantern's
release at B2 no record is written (23 R568). -/
def Mach.powerLoss (m : Mach) (vin : Nat) : Mach :=
  let m1 := m.setFld Reg.PWR_VIN 15 0 vin
  let m2 := if !m.flt.lanternReset || m.flt.safe || 2 ≤ m.mstate then m1.writeGasp else m1
  let m3 := (((m2.transmittersOff.tearFlash).setFlag Reg.JNK_STATUS 31 false).setFlag Reg.BOOT_STATUS 23 false).allOff
  { m3 with
    pwr := { m3.pwr with lost := true, entering := none, starting := [] }
    ecc := { m3.ecc with busy := false } }

/-- POWER_LOSS, 21 R536: VIN_40V below 33 V for 1 µs. -/
def execPowerLoss (vin : BitVec 16) (s : State) : Host.Outcome State Fault Refusal :=
  s.runM fun _ m => if m.pwr.lost then m else m.powerLoss vin.toNat

/-- VIN_RETURN, 21 R536: a cold bring-up, with everything lost that a power loss loses (18 R478); safe state stands (18 R472). -/
def execVinReturn (straps : BitVec 18) (s : State) : Host.Outcome State Fault Refusal :=
  s.runMS fun st m =>
    if !m.pwr.lost then (m, st)
    else if m.flt.safe then ({ m with pwr := { m.pwr with lost := false } }, st)
    else
      let m1 := m.powerState
      (if m1.boot.resetN || m1.boot.warmN then m1 else m1.startCold straps, {})

/-- POWER_ON, 23 R567: a power cycle; D87 starts and holds the module in reset. -/
def execPowerOn (s : State) : Host.Outcome State Fault Refusal :=
  s.runMS fun _ m => ({ m.powerState with boot := { resetN := true } }, {})

end Sys2Proof.Machine
end

