-- ==== Sys2Proof/Machine/TuRing.lean ====
section
/-! DEFINITION. TuRing.lean: the table-update ring of 15 (R409 to R411): taking descriptors, parked commands, PROG_LOAD, the
route-table commands of 13 R355 and MGMT_SEND. -/
namespace Sys2Proof.Machine

/-- A command waits behind a parked one that touches its object, so the ring waits (15 R411). -/
def tuStuck : List TuWait → List TuWait → Bool
  | _, [] => false
  | before, w :: t => before.any (fun b => (tuObj b.opc b.desc).meets (tuObj w.opc w.desc)) || tuStuck (before ++ [w]) t

/-- TU_DESC_TAKE, 15 R411, R415: the next descriptor in ring order is fetched, when the one before has begun, no record
waits for room, fewer than eight commands are parked and none waits behind another. -/
def execTuDescTake (s : State) : Host.Outcome State Fault Refusal :=
  s.runM fun _ m => m.whenRunning fun m =>
    let i := (m.rd (ringReg 64 0x30)).toNat
    let fetching := m.jnk.reqs.any fun r => match r.why with
      | .desc set _ => set == 64
      | .tuData _ => true
      | _ => false
    if !m.ringOpen 64 || !m.jnkUp || i = (m.ring 64).prod || fetching || m.jnk.tu.isSome || !m.jnk.reports.isEmpty || 8 ≤ m.jnk.parked.length ||
      tuStuck [] m.jnk.parked then m
    else
      (m.wr (ringReg 64 0x30) (BitVec.ofNat 32 (i + 1))).jnkReq 1
        (m.rd64 (ringReg 64 0x10) (ringReg 64 0x14) + 64 * (i % m.ringSize 64 0)) [] (.desc 64 i)

/-! ### PROG_LOAD (15 R410) -/

/-- Program-store words of descriptor data, two 32-bit words each. -/
def progWords : List Word → List Quad
  | a :: b :: t => (b ++ a) :: progWords t
  | _ => []

/-- PROG_LOAD: parked until the programs of its cores end (15 R410). -/
def Mach.progLoad (m : Mach) (st : Store) (d : TuDesc) (data : List Word) : Mach × Store :=
  let n := d.count.toNat
  let e := d.arg0.toNat
  let cores := setBitsOf 32 d.arg1.toNat
  if tuBad d (8 * n) || d.gallery != 0 || n = 0 || 32768 < e + n || data.length ≠ 2 * n then (m.tuRefuse 0x28 d .badEntry, st)
  else if cores.any (fun k => (m.core k).running.isSome) || m.tuBehind 0x28 d then (m.park 0x28 d data, st)
  else
    let ws := progWords data
    let m1 := cores.foldl (fun a k => (a.modCore k fun c => { c with
      badFetch := c.badFetch.filter fun x => decide (x < e) || decide (e + n ≤ x) }).injWrite 5 k e (e + n)) m
    ((m1.tuDone 0x28 d .ok 0 n).markStale none,
      { st with prog := cores.foldl (fun p k => sputs zeroCell p (32768 * k + e) ws) st.prog })

/-- PROG_LOAD, 15 R410. -/
def execProgLoad (d : TuDesc) (data : List Word) (s : State) : Host.Outcome State Fault Refusal :=
  s.runMS fun st m => m.tuCmdS st 0x28 d fun m => m.progLoad st d data

/-! ### Route tables (13 R354, R355) -/

/-- Route entries of descriptor data, four words each. -/
def routeWords : List Word → List (BitVec 128)
  | a :: b :: c :: e :: t => (e ++ c ++ b ++ a) :: routeWords t
  | _ => []

/-- The bank that is not STAMP. -/
def Mach.loadBank (m : Mach) : Nat := b2n (!m.sw.stamp)

/-- A route entry that RTE_LOAD refuses at an FEID (13 R355). -/
def Mach.routeBad (m : Mach) (feid e : Nat) : Bool :=
  let lane (p : Nat) : Bool := (m.port? p).isSome
  let n := bits e 28 26
  let used := reCands e
  let rest := (reFields e).drop (n + 1)
  reMode e == 3 || bits e 24 18 != 0 || bits e 63 59 != 0 || bits e 95 91 != 0 || bits e 127 105 != 0 ||
    (reMode e == 0 && n != 0) || rest.any (fun c => c != 0) ||
    (reValid e && (used.any (fun c => !lane c) || used.eraseDups.length != used.length || decide (0xFFF0 ≤ feid))) ||
    (reEscValid e && !lane (reEscPort e))

/-- RTE_LOAD (13 R355): into the bank that is not STAMP. A load behind a running RTE_SYNC waits (15 R411). -/
def Mach.rteLoad (m : Mach) (st : Store) (d : TuDesc) (data : List Word) : Mach × Store :=
  let n := d.count.toNat
  let lo := d.arg1.toNat
  let bank := m.loadBank
  let es := routeWords data
  let bad := es.zipIdx.any fun p => m.routeBad (lo + p.2) p.1.toNat
  if tuBad d (16 * n) || d.gallery != 0 || n = 0 || 65536 < lo + n || data.length ≠ 4 * n || bad then
    (m.tuRefuse 0x20 d .badEntry, st)
  else if m.sw.syncBusy.isSome || m.tuBehind 0x20 d then (m.park 0x20 d data, st)
  else if m.oldCnt ≠ 0 || m.sw.flipBusy then (m.tuRefuse 0x20 d .busy, st)
  else
    let a := bank * 65536 + lo
    let m1 := { m with ecc := { m.ecc with badRoutes := m.ecc.badRoutes.filter fun b => decide (b.2 < a) || decide (a + n ≤ b.2) } }
    let m2 := (m1.injWrite 6 0 a (a + n)).injWrite 6 1 a (a + n)
    let m3 := if n = 65536 then m2.unfence fun f => f == .route bank else m2
    (m3.tuDone 0x20 d .ok 0 n, { st with route := sputs zeroCell st.route a es })

/-- RTE_LOAD, 13 R355. -/
def execRteLoad (d : TuDesc) (data : List Word) (s : State) : Host.Outcome State Fault Refusal :=
  s.runMS fun st m => m.tuCmdS st 0x20 d fun m => m.rteLoad st d data

/-- RTE_SYNC (13 R355): the copy of the STAMP bank starts. -/
def Mach.rteSync (m : Mach) (d : TuDesc) : Mach :=
  if tuBad d 0 || d.gallery != 0 then m.tuRefuse 0x21 d .badEntry
  else if m.sw.syncBusy.isSome || m.tuBehind 0x21 d then m.park 0x21 d []
  else if m.oldCnt ≠ 0 || m.sw.flipBusy then m.tuRefuse 0x21 d .busy
  else { m with sw := { m.sw with syncBusy := some (m.loadBank, d) } }

/-- RTE_SYNC, 13 R355. -/
def execRteSync (d : TuDesc) (s : State) : Host.Outcome State Fault Refusal :=
  s.runM fun _ m => m.tuCmd 0x21 d fun m => m.rteSync d

/-- Copy one route bank into the other. -/
def copyBank (c : Cells 128) (dst : Nat) : Cells 128 :=
  let lo := dst * 65536
  let from_ := (1 - dst) * 65536
  (c.filter fun e => decide (from_ ≤ e.1) && decide (e.1 < from_ + 65536)).foldl
    (fun a e => sput zeroCell a (e.1 - from_ + lo) e.2) (sclear c lo (lo + 65536))

/-- RTE_SYNC_DONE, 13 R355: the copy is complete. -/
def execRteSyncDone (s : State) : Host.Outcome State Fault Refusal :=
  s.runMS fun st m =>
    match m.sw.syncBusy with
    | none => (m, st)
    | some (bank, d) =>
      if !m.running then (m, st)
      else
        let a := bank * 65536
        let m1 := { m with
          sw := { m.sw with syncBusy := none }
          ecc := { m.ecc with badRoutes := m.ecc.badRoutes.filter fun b => decide (b.2 < a) || decide (a + 65536 ≤ b.2) } }
        let m2 := (m1.injWrite 6 0 a (a + 65536)).injWrite 6 1 a (a + 65536)
        ((m2.unfence fun f => f == .route bank).tuDone 0x21 d .ok 0 0, { st with route := copyBank st.route bank })

/-! ### MGMT_SEND (15 R410) -/

/-- MGMT_SEND on port ARG0, or by the packet's DEST. -/
def Mach.mgmtSend (m : Mach) (st : Store) (d : TuDesc) (pkt : Packet) (route : Bool) : Mach :=
  let p := { pkt with hops := 0, epoch := m.sw.stamp }
  if tuBad d (32 + pkt.length.toNat) || d.gallery != 0 || (!route && (m.port? d.arg0.toNat).isNone) then m.tuRefuse 0x30 d .badEntry
  else if pkt.type != 2 || pkt.vc != 1 || 4096 < pkt.length.toNat then m.tuDone 0x30 d .badFormat (reasonCode .badEntry) 0
  else if route then (m.routePacket st p none true).tuDone 0x30 d .ok 0 0
  else if !m.portUsable d.arg0.toNat then (m.count Reg.SWC_UNREACH_CNT).tuDone 0x30 d .ok 0 0
  else (m.toPort d.arg0.toNat p none false false true).tuDone 0x30 d .ok 0 0

/-- MGMT_SEND, 15 R410. -/
def execMgmtSend (d : TuDesc) (pkt : Packet) (s : State) : Host.Outcome State Fault Refusal :=
  s.runM fun st m => m.tuCmd 0x30 (tuPlain d) fun m => m.mgmtSend st (tuPlain d) pkt false

/-- MGMT_SEND with ROUTE, 15 R410. -/
def execMgmtSendRoute (d : TuDesc) (pkt : Packet) (s : State) : Host.Outcome State Fault Refusal :=
  s.runM fun st m => m.tuCmd 0x30 (tuMarked d) fun m => m.mgmtSend st (tuMarked d) pkt true

/-! ### Parked commands (15 R411) -/

/-- Run a parked command again. -/
def Mach.rerun (m : Mach) (st : Store) (w : TuWait) : Mach × Store :=
  if w.opc = 0x10 then (m.layLoad st w.desc w.data, st)
  else if w.opc = 0x11 then m.layExpmap st w.desc w.data
  else if w.opc = 0x18 then
    (if bitOf w.desc.flags.toNat 0 then m.dgtWeightClear w.desc else m.dgtWeight st w.desc, st)
  else if w.opc = 0x20 then m.rteLoad st w.desc w.data
  else if w.opc = 0x21 then (m.rteSync w.desc, st)
  else if w.opc = 0x28 then m.progLoad st w.desc w.data
  else if w.opc = 0x38 then m.galResetCmd st w.desc
  else (m, st)

/-- PARKED_RELEASE, 15 R411: a parked command whose wait is over runs; one that still waits keeps its place. -/
def execParkedRelease (index : BitVec 3) (s : State) : Host.Outcome State Fault Refusal :=
  s.runMS fun st m =>
    match m.jnk.parked[index.toNat]? with
    | none => (m, st)
    | some w =>
      let before := m.jnk.parked.take index.toNat
      let after := m.jnk.parked.drop (index.toNat + 1)
      let reset := w.opc == 0x38
      let seen := if reset then before ++ after else before
      let r := Mach.rerun { m with jnk := { m.jnk with parked := seen } } st w
      if !m.running || seen.length < r.1.jnk.parked.length then (m, st)
      else if reset then r
      else ({ r.1 with jnk := { r.1.jnk with parked := r.1.jnk.parked ++ after } }, r.2)

end Sys2Proof.Machine
end

