-- ==== Sys2Proof/Machine/Window.lean ====
section
/-! DEFINITION. Window.lean: CFG_RD and CFG_WR of the configuration window (15 R390 to R398, 22 R542 to R551): what a read of each
register returns, and the behaviour that a write of each register has. -/
namespace Sys2Proof.Machine

/-! ### Writes -/

/-- A write of a register without a behaviour of its own: RW bits take the value, W1C bits written 1 clear (00 R3). -/
def Mach.plainWrite (m : Mach) (off value : Nat) : Mach :=
  match regDesc? off with
  | none => m
  | some d => (m.writeRw off d.rw value).wr off
      (BitVec.ofNat 32 (((m.writeRw off d.rw value).rd off).toNat &&& ((value &&& d.w1c) ^^^ 0xFFFFFFFF)))

/-- GLB: base registers while VALID is 1 and GLB_FEAT_EN under LOCK.FEAT are discarded and counted (22 R552, R554). -/
def Mach.writeGlb (m : Mach) (off value : Nat) : Mach :=
  if off = Reg.GLB_WIN_CTL then m.winCtl value
  else if off = Reg.GLB_LOCK then m.lockWrite value
  else if (0x10 ≤ off && off < 0x20 && m.flag Reg.GLB_WIN_CTL 31) || (off = Reg.GLB_FEAT_EN && m.flag Reg.GLB_LOCK 0) then m.cfgMiss
  else m.plainWrite off value

/-- FLT (18 R479, R480). -/
def Mach.writeFlt (m : Mach) (off value : Nat) : Mach :=
  if off = Reg.FLT_FSW_LO then m.fswWrite false value
  else if off = Reg.FLT_FSW_HI then m.fswWrite true value
  else if off = Reg.FLT_CTL then m.fltCtl value
  else if off = Reg.FLT_WDOG then m.wdogWrite value
  else if off = Reg.FLT_INJ then m.injWriteReg value
  else m.plainWrite off value

/-- PWR (21 R540, R541). -/
def Mach.writePwr (m : Mach) (off value : Nat) : Mach :=
  if off = Reg.PWR_LEVEL_REQ then (m.writeRw Reg.PWR_LEVEL_REQ 0xFCF value).settleLevels
  else if off = Reg.PWR_STATE_REQ then m.stateEnter value
  else if 0x30020 ≤ off && off < 0x3002C then m.domainWrite ((off - 0x30020) / 4) value
  else m.plainWrite off value

/-- SEC (20 R521, R522). -/
def Mach.writeSec (m : Mach) (off value : Nat) : Mach :=
  if off = Reg.SEC_CTL then m.secCtl value
  else if off = Reg.SEC_FW_CTL then (if bitOf value 31 then m.pushGo else m)
  else if 0x40040 ≤ off && off < 0x400A0 && m.sec.quoting then m.count Reg.SEC_ERR_CNT
  else if 0x40300 ≤ off && off < 0x4030C && m.flag Reg.SEC_FW_CTL 30 then m
  else m.plainWrite off value

/-- RNG: a set's other registers are discarded while EN is 1 (15 R421). -/
def Mach.writeRng (m : Mach) (off value : Nat) : Mach :=
  if off < 0x70100 then m.plainWrite off value
  else
    let set := if off < 0x71000 then 64 else (off - 0x71000) / 64
    if off = ringReg set 0 then m.ringCtl set value
    else if m.ringEn set then m
    else m.plainWrite off value

/-- A gallery fence is cleared, and its pin with it (07 R203, 18 R461). -/
def Mach.gfenceClear (m : Mach) (off value : Nat) : Mach :=
  let hi := if off = Reg.FMM_GFENCE_HI then 32 else 0
  (m.plainWrite off value).dropPins fun p =>
    p.group == 28 && decide (hi ≤ p.unit) && decide (p.unit < hi + 32) && bitOf value (p.unit - hi)

/-- BPM_FAULT bits are cleared; a hub die's pin goes with its last bit (07 R188). -/
def Mach.bpmFaultClear (m : Mach) (value : Nat) : Mach :=
  let m1 := m.plainWrite Reg.BPM_FAULT value
  m1.dropPins fun p => (p.group == 14 || p.group == 15) && p.detail == 0x30 &&
    [0, 2, 4].all fun i => !m1.flag Reg.BPM_FAULT (i + (p.group - 14))

/-- FMM and BPM (07 R209, R210). -/
def Mach.writeFmm (m : Mach) (off value : Nat) : Mach :=
  if off = Reg.FMM_GFENCE_LO || off = Reg.FMM_GFENCE_HI then m.gfenceClear off value
  else if off = Reg.FMM_CHAN_RESTART then m.chanRestart value
  else if off = Reg.BPM_CTL then (if bitOf value 0 then m.rebuild else m)
  else if off = Reg.BPM_FAULT then m.bpmFaultClear value
  else m.plainWrite off value

/-- DGT: ENABLE 1 without the AUDIT feature, and an audit base inside the module's windows, are discarded and counted (22 R553,
15 R394). -/
def Mach.writeDgt (m : Mach) (off value : Nat) : Mach :=
  let a := off - 0xE0300
  if off = Reg.DGT_PROG_CTL then m.progCtl value
  else if 0xE0300 ≤ off && off < 0xE0340 then
    let n := a / 16
    let lo := if a % 16 = 4 then value else (m.rd (Reg.DGT_AUDIT_BASE_LO_S n)).toNat
    let hi := if a % 16 = 8 then value else (m.rd (Reg.DGT_AUDIT_BASE_HI_S n)).toNat
    if a % 16 = 0 && bitOf value 31 && !m.feature 3 then m.cfgMiss
    else if a % 16 ≠ 0 && m.ownWindow (lo + 2 ^ 32 * hi) 1 then m.cfgMiss
    else m.plainWrite off value
  else m.plainWrite off value

/-- ECC (17 R460). -/
def Mach.writeEcc (m : Mach) (off value : Nat) : Mach :=
  if off = Reg.ECC_LOG_CTL then m.eccLogCtl value
  else if off = Reg.ECC_SUMP_RESTART then m.sumpRestart value
  else if off = Reg.ECC_DMA_RESTART then m.dmaRestart value
  else if off = Reg.ECC_RETIRE_CTL then m.retireCtl value
  else if 0xF1000 ≤ off && off < 0xF1200 then m.scrLong off value
  else if 0xF2000 ≤ off && off < 0xF2200 then m.eccRegion off value
  else m.plainWrite off value

/-- RTE: RTE_UP_PORT is discarded while ESC_EN is 1 (13 R369). -/
def Mach.writeRte (m : Mach) (off value : Nat) : Mach :=
  if off = Reg.RTE_CTL then m.rteCtl value
  else if 0x100040 ≤ off && off < 0x100080 && m.flag Reg.RTE_CTL 0 then m
  else m.plainWrite off value

/-- TIM (09 R258). -/
def Mach.writeTim (m : Mach) (off value : Nat) : Mach :=
  if off = Reg.TIM_CTL then m.timCtl value
  else if off = Reg.TIM_PPS_SEC then m.ppsSec value
  else if off = Reg.TIM_CAL_CTL then m.calCtl value
  else if 0x128000 ≤ off then m.calWrite off value
  else m.plainWrite off value

/-- LNE (11 R327, R328). -/
def Mach.writeLne (m : Mach) (st : Store) (off value : Nat) : Mach :=
  let n := (off - 0x150000) / 64
  if off < 0x150000 then m.plainWrite off value
  else if off = Reg.LNE_LANE_CFG n then m.laneCfg st n value
  else if off = Reg.LNE_LANE_CTL n then m.laneCtl st n value
  else if off = Reg.LNE_PRBS_CTL n then m.prbsCtl n value
  else m.plainWrite off value

/-- TRL (10 R290, R291). -/
def Mach.writeTrl (m : Mach) (off value : Nat) : Mach :=
  let f := (off - 0x170000) / 64
  if off = Reg.TRL_FI_EN then m.writeLocked Reg.TRL_FI_EN 0x80000000 0x80000000 value
  else if 0x170000 ≤ off && off = Reg.TRL_FI_CTL f then m.fiCtl f value
  else if 0x170000 ≤ off && off = Reg.TRL_PORT_CFG f then
    (m.plainWrite off value).modPort f fun p => if p.usable then p else { p with shared := bitOf value 12, gallery := bits value 11 6 }
  else m.plainWrite off value

/-- SHP (14 R382, R384). -/
def Mach.writeShp (m : Mach) (off value : Nat) : Mach :=
  let a := off - 0x1D0000
  let r : Option ShpReg := match a % 32 with
    | 0 => some .cfg | 4 => some .rate | 8 => some .cbs | 12 => some .pbs | _ => none
  if off < 0x1D0000 then m.plainWrite off value
  else
    match r with
    | some r => m.shaperWrite (a / 256) (a / 32 % 8) r value
    | none => m.plainWrite off value

/-- SVC (16 R443, R444): a changed plan entry changes what the plan misses (R431). -/
def Mach.writeSvc (m : Mach) (st : Store) (off value : Nat) : Mach :=
  let f := (off - 0x210000) / 64
  if off = Reg.SVC_BEACON then (m.writeRw Reg.SVC_BEACON 0xA000001F value).beaconSet m.boot.beacon
  else if off = Reg.SVC_ISOLATE then m.svcIsolate st value
  else if 0x220000 ≤ off then
    let p := (off - 0x220000) / 32
    let new := off == Reg.SVC_PLAN_W0 p && bitOf value 31 && !m.planned p
    ((m.plainWrite off value).modPort p fun q => if new then { q with plannedAt := m.aon } else q).updatePlan
  else if 0x210000 ≤ off && off = Reg.SVC_PORT_CTL f then m.svcPortCtl st f value
  else m.plainWrite off value

/-- What a write of the register at `off` does. -/
def Mach.writeReg (m : Mach) (st : Store) (off value : Nat) : Mach :=
  if off < 0x10000 then m.writeGlb off value
  else if off < 0x20000 then m.plainWrite off value
  else if off < 0x30000 then m.writeFlt off value
  else if off < 0x40000 then m.writePwr off value
  else if off < 0x50000 then m.writeSec off value
  else if off < 0x60000 then (if off = Reg.BST_REQ then m.bstReq value else m.plainWrite off value)
  else if off < 0x70000 then m.plainWrite off value
  else if off < 0x80000 then m.writeRng off value
  else if off < 0xA0000 then m.plainWrite off value
  else if off < 0xB0000 then (if off = Reg.ENG_SPARE_REQ then m.spareReq value else m.plainWrite off value)
  else if off < 0xC0000 then m.plainWrite off value
  else if off < 0xE0000 then m.writeFmm off value
  else if off < 0xF0000 then m.writeDgt off value
  else if off < 0x100000 then m.writeEcc off value
  else if off < 0x120000 then m.writeRte off value
  else if off < 0x140000 then m.writeTim off value
  else if off < 0x160000 then m.writeLne st off value
  else if off < 0x180000 then m.writeTrl off value
  else if off < 0x1C0000 then m.plainWrite off value
  else if off < 0x200000 then m.writeShp off value
  else m.writeSvc st off value

/-! ### Reads of what is computed -/

/-- FLT_NEXT: the timer that expires first, of equal ones that of the lowest group (18 R479). -/
def Mach.fltNext (m : Mach) : Nat :=
  let first (a b : Nat × Nat) : Nat × Nat := if b.2 < a.2 || (b.2 = a.2 && b.1 < a.1) then b else a
  match m.flt.timers with
  | [] => 0
  | t :: ts => (ts.foldl first t).1 * 2 ^ 26 + min 0xFFFFF (m.remainUs (ts.foldl first t).1)

/-- GLB_SUMMARY (22 R551). -/
def Mach.glbSummary (m : Mach) : Nat :=
  let alert := (m.rd Reg.FLT_FSW_LO).toNat != 0 || (m.rd Reg.FLT_FSW_HI).toNat % 2 ^ 31 != 0
  m.stage * 2 ^ 28 + m.fld Reg.BOOT_STATUS 27 25 * 2 ^ 25 + b2n m.halted * 2 ^ 24 + b2n (m.fsw 63) * 2 ^ 23 + b2n alert * 2 ^ 22 +
    m.mstate * 2 ^ 20 + b2n (m.flag Reg.GLB_WIN_CTL 31) * 2 ^ 19

/-- Word `w` of the stage report that BOOT_REPORT_SEL names; zero before the stage has reported (19 R501). -/
def Mach.reportWord (m : Mach) (w : Nat) : Nat :=
  match m.boot.held.find? fun r => r.1 == m.fld Reg.BOOT_REPORT_SEL 3 0 with
  | some r => (r.2.getD w 0).toNat
  | none => 0

/-- Word `w` of a byte string, byte 4w in bits 7:0; zero beyond its end. -/
def byteWord (bs : List Byte) (w : Nat) : Nat := leNat ((bs.drop (4 * w)).take 4)

/-- LAY_SESSION_Sn (06 R181): STATE 0 FREE, 1 OPEN, 2 FAILED (R155). -/
def Mach.sessionReg (m : Mach) (n : Nat) : Nat :=
  match m.session? n with
  | none => 0
  | some s => (if s.failed then 2 else 1) * 2 ^ 30 + s.rseq % 16 * 2 ^ 26 + s.cur % 256 * 2 ^ 18 +
      statusCode s.failStatus * 2 ^ 14 + s.home % 32 * 2 ^ 9

/-- DGT_PROG_CTL (08 R235). -/
def Mach.progReg (m : Mach) : Nat :=
  let g := m.fld Reg.DGT_PROG_CTL 5 0
  b2n (m.dgt.stale.contains g) * 2 ^ 10 + b2n (m.dgt.valid.contains g) * 2 ^ 9 + b2n m.dgt.busy.isSome * 2 ^ 8 + g

/-- The weight record of the pair that DGT_WD_SEL names (08 R235). -/
def Mach.selRecord (m : Mach) : Option WeightRec :=
  m.dgt.records.find? fun r => r.layer == m.fld Reg.DGT_WD_SEL 7 0 && r.core == m.fld Reg.DGT_WD_SEL 12 8

/-- The error log that ECC_LOG_CTL.DIE selects. -/
def Mach.selLog (m : Mach) : List EccEntry := m.ecc.logs.getD (m.fld Reg.ECC_LOG_CTL 30 30) []

/-- Word `w` of an error log entry (17 R457). -/
def EccEntry.word (e : EccEntry) (w : Nat) : Nat :=
  if w = 0 then e.kind % 4 * 2 ^ 30 + e.store % 32 * 2 ^ 25 + e.unit % 512 * 2 ^ 16 + e.pos % 256 * 2 ^ 8 + e.repeats % 256
  else if w = 1 then e.addr % 2 ^ 32
  else if w = 2 then e.addr / 2 ^ 32
  else e.time

/-- RTE_STATUS (13 R369); ARRIVED is the bit the register holds. -/
def Mach.rteStatus (m : Mach) : Nat :=
  b2n m.sw.stamp * 2 ^ 31 + b2n m.sw.flipBusy * 2 ^ 30 + b2n m.sw.flipRefused * 2 ^ 29 + m.fld Reg.RTE_STATUS 28 28 * 2 ^ 28 + m.oldCnt

/-- LNE_LANE_STATUS of lane `n`: ACTIVE and CAL_PENDING beside the fields the register holds (11 R327). -/
def Mach.laneStatus (m : Mach) (n : Nat) : Nat :=
  let x := (m.rd (Reg.LNE_LANE_STATUS n)).toNat
  setBits (setBits x 26 26 (b2n (m.laneActive n))) 19 19 (b2n ((m.lane n).calLeft != 0))

/-- LL_STATE (10 R290): 1 while identities are exchanged; 3 while flits wait for a replay. -/
def Port.llState (p : Port) : Nat := if p.linked then (if p.naking then 3 else 2) else if p.exchanging then 1 else 0

/-- TRL_PORT_STATUS (10 R290). -/
def Port.statusWord (p : Port) : Nat :=
  let i := p.ident.getD {}
  i.arithRev.toNat * 2 ^ 24 + p.negRev * 2 ^ 16 + maskWidth p.mask * 2 ^ 12 + i.kind.toNat * 2 ^ 10 + p.authState * 2 ^ 8 + p.llState

/-- A per-port TRL register at port offset `r` that the port's partner fills. -/
def Port.trlWord (p : Port) (r : Nat) : Nat :=
  let i := p.ident.getD {}
  if r = 4 then p.statusWord
  else if r = 0x24 then i.feid.toNat * 2 ^ 16 + i.port.toNat * 2 ^ 7
  else if r = 0x28 then i.straps.toNat
  else i.uid.toNat / 2 ^ (8 * (r - 0x14)) % 2 ^ 32

/-- SWC_QSTAT of a port queue (12 R349). -/
def Mach.qstat (m : Mach) (p v : Nat) : Nat :=
  let q := m.queue (.port p v)
  b2n q.spilled * 2 ^ 31 + min 0x1FFFF q.pages.length * 2 ^ 14 + q.onDie % 2 ^ 13

/-- The lane whose LNE_RX_SNR lies at an offset, when it is in LS0: its receiver adapts at all times and updates the register, to a value
that is free (11 R321). -/
def Mach.snrLane (m : Mach) (off : Nat) : Option Nat :=
  let n := (off - 0x150000) / 64
  if 0x150000 ≤ off && off < 0x158000 && off % 64 = 0x28 && m.lstate n = 0 then some n else none

/-- The value of a per-lane or per-port register that is computed; none for one that the register file holds. -/
def Mach.viewPort (m : Mach) (off : Nat) : Option Nat :=
  if 0x150000 ≤ off && off < 0x158000 then
    if off % 64 = 8 then some (m.laneStatus ((off - 0x150000) / 64))
    else (m.snrLane off).map fun _ => (m.draw 16).1
  else if 0x170000 ≤ off && off < 0x178000 then
    let r := off % 64
    if r = 4 || (0x14 ≤ r && r ≤ 0x28) then (m.port? ((off - 0x170000) / 64)).map fun p => p.trlWord r else none
  else if off = Reg.SWC_FLOOR_H 0 then some (m.floorOf 0)
  else if off = Reg.SWC_FLOOR_H 1 then some (m.floorOf 1)
  else if 0x1A0000 ≤ off && off < 0x1A4000 then some (m.qstat ((off - 0x1A0000) / 32) (off / 4 % 8))
  else if 0x1D0000 ≤ off && off < 0x1F0000 then
    let p := (off - 0x1D0000) / 256
    let v := off / 32 % 8
    if off % 32 = 0x10 then some (min 0xFFFFFF (m.buckets p v).1)
    else if off % 32 = 0x14 then some (min 0xFFFFFF (m.buckets p v).2) else none
  else if 0x210000 ≤ off && off < 0x218000 then
    if off % 64 = 0 then (m.port? ((off - 0x210000) / 64)).map fun p =>
      (m.rd off).toNat &&& 0x20000000 ||| (p.cause * 2 ^ 7 + p.state.code)
    else none
  else none

/-- The value of a register of the module that is computed; none for one that the register file holds. -/
def Mach.viewReg (m : Mach) (st : Store) (off : Nat) : Option Nat :=
  let k := fun (base : Nat) => (off - base) / 4
  if 0x140000 ≤ off then m.viewPort off
  else if off = Reg.GLB_ID then some (0x51200010 + steppingCode * 256)
  else if off = Reg.GLB_SUMMARY then some m.glbSummary
  else if off = Reg.BOOT_ELAPSED then some (m.usSince m.boot.releaseAt)
  else if 0x10010 ≤ off && off < 0x1004C then some (m.reportWord (k 0x10010))
  else if off = Reg.FLT_NEXT then some m.fltNext
  else if off = Reg.SEC_ID then some (m.sec.arb % 256 * 256 + steppingCode)
  else if off = Reg.SEC_CERT_LEN then some Config.certChain.length
  else if 0x40020 ≤ off && off < 0x40030 then some (byteWord unitId (k 0x40020))
  else if 0x41000 ≤ off && off < 0x43000 then some (byteWord Config.certChain (k 0x41000))
  else if 0x80000 ≤ off && off < 0x80008 then
    some ((16384 - m.parkUsed (k 0x80000)) * 2 ^ 16 + (12288 - m.slotsUsed (k 0x80000)))
  else if off = Reg.GRP_MEMBERS_FREE then some (262144 - m.membersUsed)
  else if 0x90028 ≤ off && off < 0x90030 then some (m.openTiles (k 0x90028))
  else if 0xB0020 ≤ off && off < 0xB0030 then some (m.sessionReg (k 0xB0020))
  else if 0xD0010 ≤ off && off < 0xD0018 then some (m.freeCells (k 0xD0010))
  else if 0xD0080 ≤ off && off < 0xD00A0 then 
    some (if m.stackShut (k 0xD0080) || !m.flag Reg.BPM_CTL 2 then 0 else (m.pool (k 0xD0080)).sumpCount)
  else if 0xD00A0 ≤ off && off < 0xD00C0 then
    some (if m.stackShut (k 0xD00A0) || !m.flag Reg.BPM_CTL 2 then 0 else m.fmFreeCount (k 0xD00A0))
  else if off = Reg.DGT_PROG_CTL then some m.progReg
  else if off = Reg.DGT_WD_CNT then some m.dgt.records.length
  else if off = Reg.DGT_WD_SEL then some ((m.rd off).toNat + b2n m.selRecord.isSome * 2 ^ 31)
  else if 0xE0030 ≤ off && off < 0xE0050 then some (byteWord ((m.selRecord.map (·.wd)).getD []) (k 0xE0030))
  else if off = Reg.ECC_LOG_CTL then some (m.fld off 30 30 * 2 ^ 30 + m.selLog.length)
  else if 0xF0014 ≤ off && off < 0xF0024 then some ((m.selLog.head?.map fun e => e.word (k 0xF0014)).getD 0)
  else if off = Reg.ECC_RETIRE_CTL then
    some (b2n m.ecc.busy * 2 ^ 29 + m.fld off 28 28 * 2 ^ 28 + m.ecc.retire.length)
  else if 0x128000 ≤ off && off < 0x138000 then
    some (if off % 8 = 0 then (m.rd off).toNat ||| 3 else (m.rd off).toNat / 2 ^ 28 * 2 ^ 28)
  else if off = Reg.RTE_STATUS then some m.rteStatus
  else if off = Reg.RTE_VC0_CNT then some m.vc0Cnt
  else if 0x100084 ≤ off && off < 0x100094 then
    some (st.routeEntry (m.fld Reg.RTE_ENTRY_SEL 16 16) (m.fld Reg.RTE_ENTRY_SEL 15 0) / 2 ^ (32 * k 0x100084) % 2 ^ 32)
  else if off = Reg.TIM_NOW_NS_LO then some (m.now % 2 ^ 32)
  else if off = Reg.TIM_CAL_LEN then some m.calLen
  else none

/-- What a read of the register at `off` returns: WO and reserved bits read as zero (00 R3). -/
def Mach.readValue (m : Mach) (st : Store) (off : Nat) : Nat :=
  match m.viewReg st off with
  | some v => v % 2 ^ 32
  | none =>
    match regDesc? off with
    | some d => (m.rd off).toNat &&& (d.ro ||| d.rw ||| d.w1c ||| d.w1s ||| d.rc)
    | none => 0

/-- What a read of the register at `off` changes: RC bits clear; reading TIM_NOW_NS_LO latches the rest of TIM_NOW (09 R238). -/
def Mach.readEffect (m : Mach) (off : Nat) : Mach :=
  if off = Reg.TIM_NOW_NS_LO then m.latchNow
  else if (m.snrLane off).isSome then (m.draw 16).2
  else
    match regDesc? off with
    | some d => if d.rc = 0 then m else m.wr off (BitVec.ofNat 32 ((m.rd off).toNat &&& (d.rc ^^^ 0xFFFFFFFF)))
    | none => m

/-! ### The requests (15 R389 to R398, 22 R544, R546, R547) -/

/-- A configuration request: answered with ERR UNCORRECTABLE in safe state unless `served`, and with ERR BAD_FORMAT when its header
is malformed, names WIN 1, or its offset is not one of a 4-byte word of the window; else `f`. -/
def Mach.cfgReq (m : Mach) (h : JnkHdr) (served : Bool) (f : Mach → Mach) : Mach :=
  let a := h.addr.toNat
  if !m.jnkUp then m
  else if m.flt.safe && !served then m.jnkErrRsp h.tag.toNat a .uncorrectable
  else if h.bad || h.win != 0 || a % 4 ≠ 0 || 2 ^ 26 ≤ a then m.jnkBadFormat h.tag.toNat a
  else f m

/-- The reset value that a shut register shows (22 R546, R547): of the straps, the fuses and the B4 budget, what they come from; bits 1:0 of
word 0 of a calendar entry read as 1 (09 R250). -/
def Mach.shutValue (m : Mach) (off : Nat) : Nat :=
  if off = Reg.SVC_STRAPS || off = Reg.ENG_FUSE_H 0 || off = Reg.ENG_FUSE_H 1 then (m.rd off).toNat
  else if off = Reg.BST_BUDGET then setBits (regReset off).toNat 9 0 (m.fld off 9 0)
  else if 0x128000 ≤ off && off < 0x138000 && off % 8 = 0 then 3
  else (regReset off).toNat

/-- A configuration read: what it returns, and the machine after it (22 R546, R547). -/
def Mach.cfgRead (m : Mach) (st : Store) (off : Nat) : Nat × Mach :=
  match m.access off with
  | .miss => (0, m.cfgMiss)
  | .empty => (0, m)
  | .shut => (m.shutValue off, m)
  | .live => (m.readValue st off, m.readEffect off)

/-- CFG_RD, 22 R544: in safe state only the FLT and BOOT windows answer (15 R398). -/
def execCfgRd (h : JnkHdr) (s : State) : Host.Outcome State Fault Refusal :=
  s.runM fun st m => m.cfgReq h (decide (0x10000 ≤ h.addr.toNat) && decide (h.addr.toNat < 0x30000)) fun m =>
    let r := m.cfgRead st h.addr.toNat
    r.2.jnkRsp 0x21 h.tag.toNat h.addr.toNat r.1 []

/-- CFG_WR, 22 R544: the CMP goes once the register holds the value. -/
def execCfgWr (h : JnkHdr) (value : Word) (s : State) : Host.Outcome State Fault Refusal :=
  s.runM fun st m => m.cfgReq h false fun m =>
    (m.onWrite h.addr.toNat fun m => m.writeReg st h.addr.toNat value.toNat).jnkRsp 0x20 h.tag.toNat h.addr.toNat 0 []

end Sys2Proof.Machine
end

