-- ==== Sys2Proof/Machine/Dispatch.lean ====
section
/-! DEFINITION. Dispatch.lean: one arm per command of the table, each a direct call of the command's meaning. -/

namespace Sys2Proof.Machine

def exec (i : Instr) (s : State) : Host.Outcome State Fault Refusal :=
  match i with
  | .grpCreate d data => Sys2Proof.Machine.execGrpCreate d data s
  | .grpAdd d => Sys2Proof.Machine.execGrpAdd d s
  | .grpRemove d => Sys2Proof.Machine.execGrpRemove d s
  | .grpDestroy d => Sys2Proof.Machine.execGrpDestroy d s
  | .contrib port pkt err => Sys2Proof.Machine.execContrib port pkt err s
  | .partialIn port pkt => Sys2Proof.Machine.execPartialIn port pkt s
  | .resultFromSpine port pkt => Sys2Proof.Machine.execResultFromSpine port pkt s
  | .contribTakeUp group opSeq tile err => Sys2Proof.Machine.execContribTakeUp group opSeq tile err s
  | .tileClose group opSeq tile err => Sys2Proof.Machine.execTileClose group opSeq tile err s
  | .stragglerExpiry group opSeq segment => Sys2Proof.Machine.execStragglerExpiry group opSeq segment s
  | .reformDone group => Sys2Proof.Machine.execReformDone group s
  | .peerTakeUp group => Sys2Proof.Machine.execPeerTakeUp group s
  | .spareCopyDone core ok bad => Sys2Proof.Machine.execSpareCopyDone core ok bad s
  | .engSpareReq value => Sys2Proof.Machine.execEngSpareReq value s
  | .spareReqEngage core => Sys2Proof.Machine.execSpareReqEngage core s
  | .queuedStart core err => Sys2Proof.Machine.execQueuedStart core err s
  | .endProgram core op err => Sys2Proof.Machine.execEndProgram core op err s
  | .waitOp core op err => Sys2Proof.Machine.execWaitOp core op err s
  | .waitDma core op err => Sys2Proof.Machine.execWaitDma core op err s
  | .waitTime core op err => Sys2Proof.Machine.execWaitTime core op err s
  | .waitRelease core => Sys2Proof.Machine.execWaitRelease core s
  | .barCore core op err => Sys2Proof.Machine.execBarCore core op err s
  | .barDie core op err => Sys2Proof.Machine.execBarDie core op err s
  | .barRelease die index => Sys2Proof.Machine.execBarRelease die index s
  | .loopDec core op err => Sys2Proof.Machine.execLoopDec core op err s
  | .jmp core mode op err => Sys2Proof.Machine.execJmp core mode op err s
  | .tldScratch core op err => Sys2Proof.Machine.execTldScratch core op err s
  | .tldCrossbar core op err => Sys2Proof.Machine.execTldCrossbar core op err s
  | .tldSlot core op err => Sys2Proof.Machine.execTldSlot core op err s
  | .tldScratchX core op err => Sys2Proof.Machine.execTldScratchX core op err s
  | .tldSlotX core op err => Sys2Proof.Machine.execTldSlotX core op err s
  | .tldHbm core op err => Sys2Proof.Machine.execTldHbm core op err s
  | .tstScratch core op err => Sys2Proof.Machine.execTstScratch core op err s
  | .tstX core op err => Sys2Proof.Machine.execTstX core op err s
  | .tstHbm core op err => Sys2Proof.Machine.execTstHbm core op err s
  | .tstCrossbar core op err => Sys2Proof.Machine.execTstCrossbar core op err s
  | .dmaDone core tag err => Sys2Proof.Machine.execDmaDone core tag err s
  | .mma core op err => Sys2Proof.Machine.execMma core op err s
  | .vad core mode op err => Sys2Proof.Machine.execVad core mode op err s
  | .vmu core mode op err => Sys2Proof.Machine.execVmu core mode op err s
  | .vfm core mode op err => Sys2Proof.Machine.execVfm core mode op err s
  | .vrs core op err => Sys2Proof.Machine.execVrs core op err s
  | .vex core op err => Sys2Proof.Machine.execVex core op err s
  | .vmx core mode op err => Sys2Proof.Machine.execVmx core mode op err s
  | .vsm core op err => Sys2Proof.Machine.execVsm core op err s
  | .nrmSs core op err => Sys2Proof.Machine.execNrmSs core op err s
  | .nrmApply core op err => Sys2Proof.Machine.execNrmApply core op err s
  | .topk core op err => Sys2Proof.Machine.execTopk core op err s
  | .qnt core op err => Sys2Proof.Machine.execQnt core op err s
  | .dqtDecode core op err => Sys2Proof.Machine.execDqtDecode core op err s
  | .dqtInt core op err => Sys2Proof.Machine.execDqtInt core op err s
  | .snd core op err => Sys2Proof.Machine.execSnd core op err s
  | .sndLast core op err => Sys2Proof.Machine.execSndLast core op err s
  | .sndShort core op err => Sys2Proof.Machine.execSndShort core op err s
  | .cmb core op err => Sys2Proof.Machine.execCmb core op err s
  | .dgs core op err => Sys2Proof.Machine.execDgs core op err s
  | .layLoad d data => Sys2Proof.Machine.execLayLoad d data s
  | .layExpmap d data => Sys2Proof.Machine.execLayExpmap d data s
  | .laySessionOpen d => Sys2Proof.Machine.execLaySessionOpen d s
  | .laySessionClose d => Sys2Proof.Machine.execLaySessionClose d s
  | .laySessionCloseForce d => Sys2Proof.Machine.execLaySessionCloseForce d s
  | .prefetchDone core err => Sys2Proof.Machine.execPrefetchDone core err s
  | .alloc src err => Sys2Proof.Machine.execAlloc src err s
  | .allocZero src err => Sys2Proof.Machine.execAllocZero src err s
  | .incref src err => Sys2Proof.Machine.execIncref src err s
  | .decref src err => Sys2Proof.Machine.execDecref src err s
  | .fmRead src err => Sys2Proof.Machine.execFmRead src err s
  | .readMcast src err => Sys2Proof.Machine.execReadMcast src err s
  | .fmWrite src err => Sys2Proof.Machine.execFmWrite src err s
  | .fmCopy src err => Sys2Proof.Machine.execFmCopy src err s
  | .attachBind src err => Sys2Proof.Machine.execAttachBind src err s
  | .attachUnbind src err => Sys2Proof.Machine.execAttachUnbind src err s
  | .fmmChanRestart value => Sys2Proof.Machine.execFmmChanRestart value s
  | .bpmRebuild => Sys2Proof.Machine.execBpmRebuild s
  | .rebuildDone => Sys2Proof.Machine.execRebuildDone s
  | .rdOnce h err => Sys2Proof.Machine.execRdOnce h err s
  | .rdShared h err => Sys2Proof.Machine.execRdShared h err s
  | .rdOwn h err => Sys2Proof.Machine.execRdOwn h err s
  | .wrFull h data => Sys2Proof.Machine.execWrFull h data s
  | .wb h data => Sys2Proof.Machine.execWb h data s
  | .evict h => Sys2Proof.Machine.execEvict h s
  | .cfgRd h => Sys2Proof.Machine.execCfgRd h s
  | .cfgWr h value => Sys2Proof.Machine.execCfgWr h value s
  | .snpInv tag addr => Sys2Proof.Machine.execSnpInv tag addr s
  | .cmp tag => Sys2Proof.Machine.execCmp tag s
  | .cmpD tag poison data => Sys2Proof.Machine.execCmpD tag poison data s
  | .cmpS tag poison data => Sys2Proof.Machine.execCmpS tag poison data s
  | .snpAck tag => Sys2Proof.Machine.execSnpAck tag s
  | .snpRspd tag data => Sys2Proof.Machine.execSnpRspd tag data s
  | .jnkErr tag => Sys2Proof.Machine.execJnkErr tag s
  | .jnkTimeout tag => Sys2Proof.Machine.execJnkTimeout tag s
  | .jnkLinkDown => Sys2Proof.Machine.execJnkLinkDown s
  | .jnkLinkUp half => Sys2Proof.Machine.execJnkLinkUp half s
  | .rngEnable set => Sys2Proof.Machine.execRngEnable set s
  | .descTake set => Sys2Proof.Machine.execDescTake set s
  | .tuDescTake => Sys2Proof.Machine.execTuDescTake s
  | .parkedRelease index => Sys2Proof.Machine.execParkedRelease index s
  | .jnkInt set evt => Sys2Proof.Machine.execJnkInt set evt s
  | .progStart set index words => Sys2Proof.Machine.execProgStart set index words s
  | .galReset d => Sys2Proof.Machine.execGalReset d s
  | .galResetPort d => Sys2Proof.Machine.execGalResetPort d s
  | .mgmtSend d pkt => Sys2Proof.Machine.execMgmtSend d pkt s
  | .mgmtSendRoute d pkt => Sys2Proof.Machine.execMgmtSendRoute d pkt s
  | .progLoad d data => Sys2Proof.Machine.execProgLoad d data s
  | .rteLoad d data => Sys2Proof.Machine.execRteLoad d data s
  | .rteSync d => Sys2Proof.Machine.execRteSync d s
  | .rteSyncDone => Sys2Proof.Machine.execRteSyncDone s
  | .dgtWeight d => Sys2Proof.Machine.execDgtWeight d s
  | .dgtWeightClear d => Sys2Proof.Machine.execDgtWeightClear d s
  | .dgtProgGo value => Sys2Proof.Machine.execDgtProgGo value s
  | .progDigestDone => Sys2Proof.Machine.execProgDigestDone s
  | .flitRx port flit failed groups => Sys2Proof.Machine.execFlitRx port flit failed groups s
  | .nakRx port seq => Sys2Proof.Machine.execNakRx port seq s
  | .linkFlit port msg => Sys2Proof.Machine.execLinkFlit port msg s
  | .quiesce port => Sys2Proof.Machine.execQuiesce port s
  | .resume port => Sys2Proof.Machine.execResume port s
  | .downNotice port => Sys2Proof.Machine.execDownNotice port s
  | .ackTimeout port receiver => Sys2Proof.Machine.execAckTimeout port receiver s
  | .ident port msg => Sys2Proof.Machine.execIdent port msg s
  | .identResend port => Sys2Proof.Machine.execIdentResend port s
  | .identTimeout port => Sys2Proof.Machine.execIdentTimeout port s
  | .linkKey port key => Sys2Proof.Machine.execLinkKey port key s
  | .challenge port nonce => Sys2Proof.Machine.execChallenge port nonce s
  | .response port sig => Sys2Proof.Machine.execResponse port sig s
  | .authTimeout port => Sys2Proof.Machine.execAuthTimeout port s
  | .linkDone port => Sys2Proof.Machine.execLinkDone port s
  | .packetIngress port pkt flits poisoned headLeft err => Sys2Proof.Machine.execPacketIngress port pkt flits poisoned headLeft err s
  | .trlFiGo port value => Sys2Proof.Machine.execTrlFiGo port value s
  | .reorderTimeout port => Sys2Proof.Machine.execReorderTimeout port s
  | .signalDetect lane => Sys2Proof.Machine.execSignalDetect lane s
  | .los lane => Sys2Proof.Machine.execLos lane s
  | .trainingFrame lane head ready want => Sys2Proof.Machine.execTrainingFrame lane head ready want s
  | .trainTimeout lane => Sys2Proof.Machine.execTrainTimeout lane s
  | .width port mask => Sys2Proof.Machine.execWidth port mask s
  | .widthAck port mask => Sys2Proof.Machine.execWidthAck port mask s
  | .neww port mask => Sys2Proof.Machine.execNeww port mask s
  | .widthTimeout port => Sys2Proof.Machine.execWidthTimeout port s
  | .cmdLs1 lane => Sys2Proof.Machine.execCmdLs1 lane s
  | .cmdLs2 lane => Sys2Proof.Machine.execCmdLs2 lane s
  | .ls0Req lane value => Sys2Proof.Machine.execLs0Req lane value s
  | .ls1Req lane value => Sys2Proof.Machine.execLs1Req lane value s
  | .ls2Req lane value => Sys2Proof.Machine.execLs2Req lane value s
  | .lsExitTimeout lane => Sys2Proof.Machine.execLsExitTimeout lane s
  | .laneRetrain lane value => Sys2Proof.Machine.execLaneRetrain lane value s
  | .laneCal lane value => Sys2Proof.Machine.execLaneCal lane value s
  | .calSlice lane => Sys2Proof.Machine.execCalSlice lane s
  | .laneDrop lane value => Sys2Proof.Machine.execLaneDrop lane value s
  | .laneRejoin lane value => Sys2Proof.Machine.execLaneRejoin lane value s
  | .autoRejoin lane => Sys2Proof.Machine.execAutoRejoin lane s
  | .layoutApply port => Sys2Proof.Machine.execLayoutApply port s
  | .prbsInjGo lane value => Sys2Proof.Machine.execPrbsInjGo lane value s
  | .fillTake q err => Sys2Proof.Machine.execFillTake q err s
  | .fillHeadWritten q => Sys2Proof.Machine.execFillHeadWritten q s
  | .sumpWrite w => Sys2Proof.Machine.execSumpWrite w s
  | .pick port err => Sys2Proof.Machine.execPick port err s
  | .rehashHoldEnd port vc => Sys2Proof.Machine.execRehashHoldEnd port vc s
  | .flip value => Sys2Proof.Machine.execFlip value s
  | .flipCheckDone => Sys2Proof.Machine.execFlipCheckDone s
  | .escape port vc => Sys2Proof.Machine.execEscape port vc s
  | .orderHoldEnd port vc => Sys2Proof.Machine.execOrderHoldEnd port vc s
  | .shaperRefill => Sys2Proof.Machine.execShaperRefill s
  | .shaperWrite port vc reg value => Sys2Proof.Machine.execShaperWrite port vc reg value s
  | .timSet value => Sys2Proof.Machine.execTimSet value s
  | .timNowRead => Sys2Proof.Machine.execTimNowRead s
  | .timPpsSecWrite value => Sys2Proof.Machine.execTimPpsSecWrite value s
  | .ppsEdge => Sys2Proof.Machine.execPpsEdge s
  | .sync port domain sdo sec ns corr replayed => Sys2Proof.Machine.execSync port domain sdo sec ns corr replayed s
  | .pdelayReq port domain sdo seq identity replayed => Sys2Proof.Machine.execPdelayReq port domain sdo seq identity replayed s
  | .pdelayResp port domain sdo corr replayed => Sys2Proof.Machine.execPdelayResp port domain sdo corr replayed s
  | .syncSend port => Sys2Proof.Machine.execSyncSend port s
  | .pdelaySend port => Sys2Proof.Machine.execPdelaySend port s
  | .sourceLoss => Sys2Proof.Machine.execSourceLoss s
  | .calArm value => Sys2Proof.Machine.execCalArm value s
  | .bankSwitch => Sys2Proof.Machine.execBankSwitch s
  | .calEntryStart err => Sys2Proof.Machine.execCalEntryStart err s
  | .recheck port value => Sys2Proof.Machine.execRecheck port value s
  | .accept port value => Sys2Proof.Machine.execAccept port value s
  | .quarantine port value => Sys2Proof.Machine.execQuarantine port value s
  | .planGrace port => Sys2Proof.Machine.execPlanGrace port s
  | .locate => Sys2Proof.Machine.execLocate s
  | .isolate => Sys2Proof.Machine.execIsolate s
  | .wake => Sys2Proof.Machine.execWake s
  | .beaconTimeout => Sys2Proof.Machine.execBeaconTimeout s
  | .svcIsolate value => Sys2Proof.Machine.execSvcIsolate value s
  | .isolationDrain port => Sys2Proof.Machine.execIsolationDrain port s
  | .isolationLanesOff port => Sys2Proof.Machine.execIsolationLanesOff port s
  | .scrLongApply core => Sys2Proof.Machine.execScrLongApply core s
  | .eccSumpRestart value => Sys2Proof.Machine.execEccSumpRestart value s
  | .eccDmaRestart value => Sys2Proof.Machine.execEccDmaRestart value s
  | .eccLogPop value => Sys2Proof.Machine.execEccLogPop value s
  | .retireAdd value => Sys2Proof.Machine.execRetireAdd value s
  | .retireCommit value => Sys2Proof.Machine.execRetireCommit value s
  | .retireCommitDone ok => Sys2Proof.Machine.execRetireCommitDone ok s
  | .snufferExpiry group => Sys2Proof.Machine.execSnufferExpiry group s
  | .fswClear hi value => Sys2Proof.Machine.execFswClear hi value s
  | .lanternRestart value => Sys2Proof.Machine.execLanternRestart value s
  | .lanternVerifyDone readable => Sys2Proof.Machine.execLanternVerifyDone readable s
  | .wdogKick value => Sys2Proof.Machine.execWdogKick value s
  | .wdogExpiry => Sys2Proof.Machine.execWdogExpiry s
  | .fltInjGo value => Sys2Proof.Machine.execFltInjGo value s
  | .resetAssert warm => Sys2Proof.Machine.execResetAssert warm s
  | .resetRelease straps => Sys2Proof.Machine.execResetRelease straps s
  | .warmResetRelease straps => Sys2Proof.Machine.execWarmResetRelease straps s
  | .stageEnd rep fail => Sys2Proof.Machine.execStageEnd rep fail s
  | .stageTimeout => Sys2Proof.Machine.execStageTimeout s
  | .agentTimeout agent => Sys2Proof.Machine.execAgentTimeout agent s
  | .bstReq value => Sys2Proof.Machine.execBstReq value s
  | .bistSlice => Sys2Proof.Machine.execBistSlice s
  | .bistEnd pass signature => Sys2Proof.Machine.execBistEnd pass signature s
  | .extend value => Sys2Proof.Machine.execExtend value s
  | .quote value => Sys2Proof.Machine.execQuote value s
  | .quoteDone => Sys2Proof.Machine.execQuoteDone s
  | .arbAdvance value => Sys2Proof.Machine.execArbAdvance value s
  | .fwPush value => Sys2Proof.Machine.execFwPush value s
  | .pushPhaseDone outcome image => Sys2Proof.Machine.execPushPhaseDone outcome image s
  | .pwrDomainOff word value => Sys2Proof.Machine.execPwrDomainOff word value s
  | .domainOnDone domain => Sys2Proof.Machine.execDomainOnDone domain s
  | .pwrLevelReq value => Sys2Proof.Machine.execPwrLevelReq value s
  | .levelStep die => Sys2Proof.Machine.execLevelStep die s
  | .thermalCap sensor temp => Sys2Proof.Machine.execThermalCap sensor temp s
  | .powerCap watts vin => Sys2Proof.Machine.execPowerCap watts vin s
  | .brakeAssert => Sys2Proof.Machine.execBrakeAssert s
  | .brakeRelease => Sys2Proof.Machine.execBrakeRelease s
  | .thermTrip => Sys2Proof.Machine.execThermTrip s
  | .stateReqM2 value => Sys2Proof.Machine.execStateReqM2 value s
  | .stateReqM3 value => Sys2Proof.Machine.execStateReqM3 value s
  | .wakeVin vin => Sys2Proof.Machine.execWakeVin vin s
  | .wakeTemp sensor temp => Sys2Proof.Machine.execWakeTemp sensor temp s
  | .powerLoss vin => Sys2Proof.Machine.execPowerLoss vin s
  | .vinReturn straps => Sys2Proof.Machine.execVinReturn straps s
  | .glbWinValid value => Sys2Proof.Machine.execGlbWinValid value s
  | .lockFeat value => Sys2Proof.Machine.execLockFeat value s
  | .lockInj value => Sys2Proof.Machine.execLockInj value s
  | .lockJtag value => Sys2Proof.Machine.execLockJtag value s
  | .hbmRefresh forced => Sys2Proof.Machine.execHbmRefresh forced s
  | .lossOfAlignment lane => Sys2Proof.Machine.execLossOfAlignment lane s
  | .groupAlignment lane snr => Sys2Proof.Machine.execGroupAlignment lane snr s
  | .uncorrectableCodeword lane => Sys2Proof.Machine.execUncorrectableCodeword lane s
  | .portTrainTimeout port => Sys2Proof.Machine.execPortTrainTimeout port s
  | .layoutWrite lane value => Sys2Proof.Machine.execLayoutWrite lane value s
  | .calEnWrite value => Sys2Proof.Machine.execCalEnWrite value s
  | .prbsGenChk lane value => Sys2Proof.Machine.execPrbsGenChk lane value s
  | .prbsCheckerLock lane phase levels => Sys2Proof.Machine.execPrbsCheckerLock lane phase levels s
  | .powerOn => Sys2Proof.Machine.execPowerOn s
  | .pllLockLoss => Sys2Proof.Machine.execPllLockLoss s
  | .railOutOfRegulation rail => Sys2Proof.Machine.execRailOutOfRegulation rail s
  | .d2dLinkFault link => Sys2Proof.Machine.execD2dLinkFault link s
  | .pmbusCommand code => Sys2Proof.Machine.execPmbusCommand code s
  | .tapInstruction instr data => Sys2Proof.Machine.execTapInstruction instr data s

end Sys2Proof.Machine
end

