-- ==== Sys2Proof/Machine/Tick.lean ====
section
/-! DEFINITION. Tick.lean: what one edge of the 100 MHz reference clock does while no command waits (log 1). -/
namespace Sys2Proof.Machine

/-- REF_CLK moves fabric time: while the module is awake, and through a warm reset that keeps the count (09 R237, 18 R478). -/
def Mach.timeRuns (m : Mach) : Bool :=
  m.awake || (m.boot.warmN && !m.boot.resetN && !m.flt.safe && !m.pwr.lost && m.flag Reg.BOOT_STATUS 23)

/-- Fabric time and its advance move by 10 ns at the rate that TIM_ADJ sets, in units of 2^-16 × 10^-6 ns (09 R237, R240). -/
def Mach.fabricTick (m : Mach) : Mach :=
  let adj := (m.rd Reg.TIM_ADJ).toInt
  let d := (10 * (nsUnit + adj)).toNat
  if m.timeRuns then { m with time := { m.time with acc := m.time.acc + d, adv := m.time.adv + d } } else m

/-- The always-on oscillator moves by 10 ns (log 21). -/
def Mach.aonTick (m : Mach) : Mach := { m with aon := m.aon + 10 }

/-- Registers that safe state keeps: BOOT, FLT and PWR, the link status, the DGT_TEV counters and the straps (18 R471, R478). -/
def safeRanges : List (Nat × Nat) := fuseRanges ++ [(0x10000, 0x40000), (0x60000, 0x70000), (0xE0000, 0xE0014), (0x200000, 0x200004)]

/-- Step 4 of safe state: every domain but D86 and D87 is off, and HBM, SRAM and every table are lost (18 R471, R478). -/
def Mach.safeLost (m : Mach) : Mach :=
  let m1 : Mach := { m.bare with
    regs := m.regsIn safeRanges, flt := m.flt, boot := m.boot, sec := m.sec, pwr := m.pwr, tap := m.tap, jnk := { txSeq := m.jnk.txSeq } }
  ((m1.wr (Reg.PWR_DOMAIN_STAT_W 0) 0xFFFFFFFF).wr (Reg.PWR_DOMAIN_STAT_W 1) 0xFFFFFFFF).wr (Reg.PWR_DOMAIN_STAT_W 2) 0x003FFFFF

/-- Steps 4 and 5 of safe state, 50 µs and 10 ms after its entry: what is lost, and the safe-state record in the next of eight slots
of flash (18 R471, R473). -/
def Mach.safeTick (m : Mach) (st : Store) : Mach × Store :=
  let due (ns : Nat) : Bool := m.flt.safe && decide (m.flt.safeAt + ns ≤ m.aon)
  let at_ (x : Mach) (n : Nat) : Mach := { x with flt := { x.flt with safeStep := n } }
  if m.flt.safeStep = 3 && due 50000 then (at_ m.safeLost 4, {})
  else if m.flt.safeStep = 4 && due 10000000 && !m.pwr.lost then
    (at_ { m with flt := { m.flt with records := (m.safeRecord :: m.flt.records).take 8 } } 5, st)
  else (m, st)

/-- One edge: both clocks move, and an entry to M2 or M3 (21 R531), or to safe state, takes the step that is due. -/
def State.tick (s : State) : State :=
  let r := s.mach.fabricTick.aonTick.entryTick s.store
  let q := r.1.safeTick r.2
  { s with mach := q.1, store := q.2 }

end Sys2Proof.Machine
end

