-- ==== Sys2Proof/Safety.lean ====
section
/-! DEFINITION. Safety.lean: what the statements call a sound state, and the conditions on a state under which a command
acts: a register that takes a write, a running data path, a core whose next instruction nothing disturbs. -/
namespace Sys2Proof.Machine

/-- Every addressed memory is in canonical form: keys strictly rising, none that holds what it reads as unlisted. -/
def Memory.wf (st : Store) : Bool :=
  swf zeroCell st.hbm && swf zeroCell st.scratch && swf zeroCell st.vregs && swf zeroCell st.xregs && swf zeroCell st.prog &&
    swf zeroCell st.expmap && swf zeroCell st.route

/-- The invariant of every step: equal memories are equal data. -/
def State.Inv (s : State) : Prop := Memory.wf s.store = true

/-- A command that acts on a unit whose behaviour the spec does not give (23 R566). -/
def isTestTap (i : Sys2Proof.Instr) : Bool :=
  match i with
  | .tapInstruction (.test _) _ => true
  | _ => false

/-- A write to the register at `off` has its effect: the module is awake and the register answers (22 R546, R547). -/
def Writable (s : State) (off : Nat) : Prop := s.mach.awake = true ∧ s.mach.access off = .live

/-- The lanes run: the module is awake, not halted, and past stage B5 (11 R305, 19 R481, R485). -/
def LanesRun (s : State) : Prop := s.mach.awake = true ∧ s.mach.halted = false ∧ 6 ≤ s.mach.stage

/-- Nothing is armed to spoil a read, no word holds injected check bits (18 R476) or was written under the other code (17
R446). -/
def Unspoiled (m : Mach) : Prop := (m.ecc.bad = [] ∧ m.ecc.otherCode = []) ∧ m.flt.injections = []

/-- A fabric-memory command whose turn has come, of the form that its row names, whose fields are as its opcode asks, of a
gallery that no fence holds and that returns no data into the module's own windows (07 R193, R195, R196, R198 to R200, 12
R331); nothing it reads is spoiled. -/
structure FmReady (s : State) (src : FmSrc) (opc : Nat) (flag : Bool) : Prop where
  running : s.mach.running = true
  turn : s.mach.fmReady src = true
  names : (fmCmd src).names opc flag = true
  fields : (fmCmd src).fieldOk = true
  window : (opc = 3 ∨ opc = 4) → (fmCmd src).ring = true → s.mach.ownWindow (fmCmd src).caddr (64 * (fmCmd src).lines) = false
  fence : s.mach.galFenced (fmCmd src).gal = false
  clean : Unspoiled s.mach

/-- A packet passes every check of its group that does not depend on an operation: gallery, kind of packet, a PRESENT member
of its rank, format, kind and place of its tile, root and owner (03 R76, R82, 04 R91 to R99, R115; order of log 23). -/
structure Fitting (g : Group) (port : Nat) (p : Packet) : Prop where
  gallery : g.gallery = p.gallery.toNat
  tier : (p.type == 9) = (g.tier == 2)
  member : ∃ x, g.members.find? (fun x => x.rank == p.rank.toNat) = some x ∧ x.mstate = .present ∧
    (p.type = 9 → x.target = port)
  clean : p.poison = false ∧ (p.type = 9 → bits (leNat (p.trailer.take 4)) 31 28 < 12)
  tile : tileFits g (p.flow.toNat / 2 ^ 17) p = true
  kind : kindOk g (p.flow.toNat / 2 ^ 17) = true ∧ (p.flow.toNat / 2 ^ 17 = 6 → g.rfmt = 0 ∨ g.rfmt = 11)
  root : (p.flow.toNat / 2 ^ 17 = 3 ∨ p.flow.toNat / 2 ^ 17 = 5) → g.present.any (fun y => y.rank == bits p.flow.toNat 16 7) = true
  fits : (if p.type == 9 then partialFits (p.flow.toNat / 2 ^ 17) p else contribFits g (p.flow.toNat / 2 ^ 17) p) = true
  owner : (p.flow.toNat / 2 ^ 17 = 2 → g.owner (p.tile.toNat / g.planes) = p.rank.toNat) ∧
    (p.flow.toNat / 2 ^ 17 = 3 → bits p.flow.toNat 16 7 = p.rank.toNat)

/-- A packet agrees with operation `o` of its group: rank not excluded, kind, root, counts and lengths as opened. -/
def Agrees (g : Group) (o : Op) (p : Packet) : Prop :=
  o.excluded.contains p.rank.toNat = false ∧ outOfCount g (some o) (p.flow.toNat / 2 ^ 17) p = false ∧
    opDiffers o (p.flow.toNat / 2 ^ 17) (bits p.flow.toNat 16 7) p = false ∧ lastDiffers g (some o) p = false

/-- Index of a packet's tile within its segment (04 R102). -/
def tileIndex (g : Group) (p : Packet) : Nat :=
  (if p.flow.toNat / 2 ^ 17 = 4 ∨ p.flow.toNat / 2 ^ 17 = 7 then 0 else p.tile.toNat / g.planes) - p.segment.toNat * g.segTiles

/-- Core `k` runs program `p`, waits for nothing, nothing it fetches or reads is spoiled, and the word at its pc spells an
instruction (05 R128, R130, R147; 17 R454). -/
structure EngineReady (s : State) (k : Nat) (p : Start) : Prop where
  running : s.mach.running = true
  program : (s.mach.core k).running = some p
  noWait : (s.mach.core k).wait = none
  fetchOk : (s.mach.core k).badFetch = []
  linesOk : (s.mach.core k).poisoned = []
  clean : Unspoiled s.mach
  legal : wordLegal (s.store.fetch k (s.mach.core k).pc) = true

/-- The next state of an instruction of core `k` that leaves machine `m` and memories `st` and moves to `pc`. -/
def State.toPc (s : State) (k : Nat) (m : Mach) (st : Store) (pc : Nat) : State :=
  { s with mach := m.modCore k fun c => { c with pc := pc }, store := st }

/-- The next state of an instruction that advances: the pc of core `k` counts on modulo 32,768 (05 R127). -/
def State.advance (s : State) (k : Nat) (m : Mach) (st : Store) : State :=
  { s with mach := m.modCore k fun c => { c with pc := (c.pc + 1) % 32768 }, store := st }

/-- Scratch bytes `a` to `a + n − 1` lie in the scratch window of a program at an alignment (05 R128, R141). -/
def InScratch (p : Start) (a n align : Nat) : Prop :=
  a % align = 0 ∧ p.scrBase * 64 ≤ a ∧ a + n ≤ p.scrLimit * 64 ∧ a + n ≤ 2 ^ 23

/-- The memories after a post-increment that IMM[23] of an instruction asks for (05 R130). -/
def postInc (k : Nat) (i : EngOp) (bytes : Nat) (st : Store) : Store :=
  if bitOf i.imm.toNat 23 then st.setX k i.a.toNat (st.x k i.a.toNat + BitVec.ofNat 32 bytes) else st

/-- What an instruction of core `k` sees: the program it runs and its fields. -/
def engOf (s : State) (k : Nat) (p : Start) (i : EngOp) : Eng := ⟨k, p, s.mach.core k, i⟩

end Sys2Proof.Machine
end

