-- ==== Sys2Proof/Certificates/Slice0/Obligations.lean ====
section
/-! DEFINITION. Obligations.lean: the statements about this model that the provers are asked to prove. -/
open Sys2Proof Sys2Proof.Machine

/-- While the data path runs, of a command whose descriptor has been taken and whose data has come, as the ring goes on to
its next one: GRP_CREATE adds the group as parsed and reserved when no check fails, and else answers with the failing
check's status and reason and adds nothing; GRP_DESTROY of an idle group of the gallery removes it and counts the
contributions that wait for it in GRP_MISTILE_CNT, and of one with operations outstanding answers BUSY; GRP_REMOVE of
a present rank re-forms the group without it, of an absent one only answers OK, of an unknown rank NOT_FOUND; GRP_ADD,
with its feature on, to a group with operations outstanding answers BUSY, of a rank still present RANK_CONFLICT. A
command for a group that does not exist answers NOT_FOUND. Every one marks the valid program digest of its gallery
stale. (03 Collective groups, R58, R69 to R74, R84; 08 Determinism, R226; 15 Jionuk, R411, R414.) -/
def Obligations.GroupCommandsChangeOneGroup : Prop :=
  ∀ (s : State) (d : TuDesc), s.mach.running = true →
    let m := s.mach.tuBegin
    let taken (opc : Nat) : Prop := s.mach.tuTaken opc d = true
    let goes (m1 : Mach) : Host.Outcome State Fault Refusal := .next { s with mach := m1.markStale (some d.gallery.toNat) }
    (taken 0x01 → ∀ data : List Word,
      let g := (parseGroup (data.take 16) (data.drop 16)).reserved
      let fails := m.createFails s.store d (data.take 16) (data.drop 16) g
      (∀ st r, fails = some (st, r) → exec (.grpCreate d data) s = goes (m.tuDone 0x01 d st (reasonCode r) 0)) ∧
      (fails = none →
        let m1 : Mach := { m with groups := m.groups ++ [g], ended := m.ended.filter fun e => e.group != g.id }
        exec (.grpCreate d data) s = goes ((m1.unfence fun f => f == .group g.id).tuDone 0x01 d .ok 0 g.word28))) ∧
    (m.groupOf? d = none →
      (taken 0x02 → m.feature 0 = true → exec (.grpAdd d) s = goes (m.tuRefuse 0x02 d .notFound)) ∧
      (taken 0x03 → exec (.grpRemove d) s = goes (m.tuRefuse 0x03 d .notFound)) ∧
      (taken 0x04 → exec (.grpDestroy d) s = goes (m.tuRefuse 0x04 d .notFound))) ∧
    (∀ g, m.groupOf? d = some g →
      (g.outstanding ≠ 0 → (taken 0x04 → exec (.grpDestroy d) s = goes (m.tuRefuse 0x04 d .busy)) ∧
        (taken 0x02 → m.feature 0 = true → exec (.grpAdd d) s = goes (m.tuRefuse 0x02 d .busy))) ∧
      (taken 0x04 → g.outstanding = 0 → tuBad d 0 = false →
        let m1 : Mach := { m with
          groups := m.groups.filter fun h => h.id != g.id
          ended := m.ended.filter fun e => e.group != g.id }
        exec (.grpDestroy d) s = goes
          ((g.waiting.foldl (fun a w => (a.takeEngine w.2).count Reg.GRP_MISTILE_CNT) m1).tuDone 0x04 d .ok 0 0)) ∧
      (taken 0x03 → tuBad d 0 = false →
        (∀ y, g.members.find? (fun y => y.rank == d.arg1.toNat) = some y → exec (.grpRemove d) s =
          goes ((if y.mstate = .present then m.reform s.store g.id [y.rank] .removed 1 else m).tuDone 0x03 d .ok 0 0)) ∧
        ((∀ y ∈ g.members, y.rank ≠ d.arg1.toNat) → exec (.grpRemove d) s = goes (m.tuRefuse 0x03 d .notFound))) ∧
      (taken 0x02 → m.feature 0 = true → g.outstanding = 0 → tuBad d 0 = false → memberBad g (d.inline.getD 0 0) = false →
        ∀ y, g.members.find? (fun y => y.rank == bits (d.inline.getD 0 0).toNat 25 16) = some y →
          (y.mstate = .present → exec (.grpAdd d) s = goes (m.tuRefuse 0x02 d .rankConflict)) ∧
          (y.mstate ≠ .present →
            let new : Member := ⟨.present, bits (d.inline.getD 0 0).toNat 25 16, bits (d.inline.getD 0 0).toNat 15 0⟩
            let g1 := Group.reserved { g with members := g.members.map fun z => if z.rank == new.rank then new else z }
            let g2 : Group := { g1 with parkKib := max g.parkKib g1.parkKib }
            let others : Mach := { m with groups := m.groups.filter fun h => h.id != g.id }
            g.redCores ≠ 0 → (m.arithPorts s.store g new).any (m.arithBreaks g) = false →
            (m.portsBehind s.store g new).any (m.featureBreaks g) = false →
            others.reserveFails g.gallery g.dies g2.slots g2.parkKib = none →
            exec (.grpAdd d) s = goes ((m.modGroup g.id fun _ => g2).tuDone 0x02 d .ok 0 g2.word28))))

/-- While the data path runs and nothing spoils the group table: a contribution (a partial at a spine) that fits its group
and agrees with its open operation, to an open segment's tile that is not closed and has nothing of its rank yet, is
counted; one whose tile is closed or already holds its rank counts in RED_DUP_CNT; one for a group that does not
exist, of another gallery, or halted, in GRP_MISTILE_CNT; one of an operation that has ended and is remembered, or
that is complete with its slots kept, in GRP_LATE_DISCARD_CNT; each discarded packet frees its cells. While the group
re-forms the packet waits in its cells. (03 Collective groups, R76, R82, R85; 04 Reduction, R98, R102, R103, R115.) -/
def Obligations.ContributionsAreCountedOnce : Prop :=
  ∀ (s : State) (port : BitVec 9) (p : Packet), s.mach.running = true → Unspoiled s.mach →
    ∀ run ∈ [exec (.contrib port p .none) s, exec (.partialIn port p) s],
    let m := s.mach
    let seq := p.opSeq.toNat
    let dropped (cnt : Nat) : Host.Outcome State Fault Refusal := .next { s with mach := (m.takeEngine p).count cnt }
    (m.group? p.group.toNat = none → run = dropped Reg.GRP_MISTILE_CNT) ∧
    (∀ g, m.group? p.group.toNat = some g →
      ((g.gallery ≠ p.gallery.toNat ∨ g.state = .halted) → run = dropped Reg.GRP_MISTILE_CNT) ∧
      (g.gallery = p.gallery.toNat → (p.type == 9) = (g.tier == 2) → g.state ≠ .halted →
        (m.remembers g.id seq = true → g.op? seq = none → run = dropped Reg.GRP_LATE_DISCARD_CNT) ∧
        ((m.remembers g.id seq = false ∨ g.op? seq ≠ none) → g.state = .reforming →
          run = .next { s with mach := m.modGroup g.id fun h => { h with waiting := h.waiting ++ [(port.toNat, p)] } })) ∧
      (g.state = .active → Fitting g port.toNat p → ∀ o, g.op? seq = some o → Agrees g o p →
        ∀ sg, o.segs.find? (fun x => x.num == p.segment.toNat) = some sg →
          let t := sg.tile (tileIndex g p)
          ((t.closed = true ∨ ∃ y ∈ t.got, y.rank = p.rank.toNat) → run = dropped Reg.RED_DUP_CNT) ∧
          (t.closed = false → (∀ y ∈ t.got, y.rank ≠ p.rank.toNat) → run = .next { s with mach := m.countIn s.store g p })))

/-- While the data path runs and nothing spoils parking and slots, of an open segment's tile that is the open one (any
tile in arrival mode): taking up marks the parked contribution whose turn it is as taken and nothing else, or changes
nothing when none may be taken; a tile closes when every contributor has been taken, and one that is not closable
stays as it is. An unknown group or operation changes nothing. When a re-forming is due, its events are raised, the
group is ACTIVE again and the waiting packets are tried again in order; a peer group tries its waiting packets again
when asked. (04 Reduction, R103 to R108, R115; 03 Collective groups, R84, R85.) -/
def Obligations.TilesAreTakenUpAndClosedInTurn : Prop :=
  ∀ (s : State) (group : BitVec 12) (opSeq tile : BitVec 16), s.mach.running = true → Unspoiled s.mach →
    let m := s.mach
    (m.group? group.toNat = none →
      exec (.contribTakeUp group opSeq tile .none) s = .next s ∧ exec (.tileClose group opSeq tile .none) s = .next s ∧
      exec (.reformDone group) s = .next s ∧ exec (.peerTakeUp group) s = .next s) ∧
    (∀ g, m.group? group.toNat = some g →
      (∀ o sg,
        let j := if o.kind = 4 ∨ o.kind = 7 then 0 else tile.toNat / g.planes
        let i := j % g.segTiles
        g.op? opSeq.toNat = some o → o.segs.find? (fun x => x.num == j / g.segTiles) = some sg →
        ((g.arrival = true ∨ sg.openTile = i) →
          let cs := g.contributors o (sg.num * g.segTiles + i)
          let turn := (sg.tile i).got.find? fun x => x.loc == .parked && cs.contains x.rank && takeable g cs (sg.tile i) x.rank
          (turn = none → exec (.contribTakeUp group opSeq tile .none) s = .next s) ∧
          (∀ x, turn = some x → exec (.contribTakeUp group opSeq tile .none) s = .next { s with
            mach := (m.modTile g.id o.seq sg.num i fun t => { t with
              got := t.got.map fun y => if y.rank == x.rank then { y with loc := .taken, kept := true } else y }).parkPeak })) ∧
        (g.arrival = false → sg.openTile ≠ i → exec (.contribTakeUp group opSeq tile .none) s = .next s) ∧
        (closable g o sg i = true →
          exec (.tileClose group opSeq tile .none) s = .next { s with mach := m.closeTile s.store g o sg i }) ∧
        (closable g o sg i = false → exec (.tileClose group opSeq tile .none) s = .next s)) ∧
      (g.reforms = [] → exec (.reformDone group) s = .next s) ∧
      (g.reforms ≠ [] →
        let m1 := (g.reforms.foldl (fun a r => a.groupEvent g 0x04 0 r.1 r.2.1 r.2.2.1 r.2.2.2) m).modGroup g.id fun h =>
          { h with state := if h.state == .reforming then .active else h.state, reforms := [] }
        exec (.reformDone group) s = .next { s with mach := m1.retryWaiting s.store g.id }) ∧
      exec (.peerTakeUp group) s = .next { s with
        mach := g.waiting.foldl (fun a w => a.intake s.store w.1 w.2) (m.modGroup group.toNat fun h => { h with waiting := [] }) })

/-- While the data path runs: of an open segment whose straggler timer has run STRAGGLER_NS of fabric time, steps
excluded, the expiry stops the timer, counts in GRP_STRAG_CNT and, by policy, raises the event with the missing ranks
(WAIT), ends the group's operations with ABORT_TIMEOUT (ABORT), or raises one event per missing rank and excludes them
(EXCLUDE); a timer that does not run, or not yet so long, changes nothing. A result of its spine that reaches an
active leaf on its uplink for an operation not ended, with a status below 12, a defined format and fewer than 31 hops,
goes to every present member with one hop more, and one with CLOSE ends the operation here, remembered with its
status; one of a format code that is reserved refuses the operation with BAD_FORMAT, one with a status not below 12
ends it as uncorrectable; any other is discarded and counted. (03 Collective groups, R78 to R80; 04 Reduction, R101,
R113, R117; 02 Number formats, R25; 09 Fabric time, R247; 10 Trovor link, R286.) -/
def Obligations.StragglersAndSpineResultsEndAsConfigured : Prop :=
  ∀ (s : State), s.mach.running = true →
    let m := s.mach
    let st := s.store
    (∀ (group : BitVec 12) (opSeq : BitVec 16) (segment : BitVec 8) g o sg, m.group? group.toNat = some g →
      g.op? opSeq.toNat = some o → o.segs.find? (fun x => x.num == segment.toNat) = some sg →
      let seq := opSeq.toNat
      let seg := segment.toNat
      let rs := missingRanks g o sg
      let m1 := (m.modGroup group.toNat fun h => h.modOp seq fun x => x.modSeg seg fun y => { y with timer := none }).count
        Reg.GRP_STRAG_CNT
      let run := exec (.stragglerExpiry group opSeq segment) s
      ((sg.timer = none ∨ ∃ t, sg.timer = some t ∧ m.advNs < t + g.stragglerNs) → run = .next s) ∧
      (∀ t, sg.timer = some t → t + g.stragglerNs ≤ m.advNs →
        (g.policy = .wait → run = .next { s with mach := m1.groupEvent g 0x02 seg seq rs.length (rs.headD 0) 0 }) ∧
        (g.policy = .abort → run = .next { s with mach := m1.endOps st group.toNat .abortTimeout }) ∧
        (g.policy = .exclude →
          let m2 := rs.foldl (fun a r => a.groupEvent g 0x03 seg seq 1 r 0) m1
          run = .next { s with mach := if rs = [] then m2 else m2.exclude st group.toNat seq seg rs }))) ∧
    (∀ (port : BitVec 9) (p : Packet) g, m.group? p.group.toNat = some g →
      let w0 := leNat (p.trailer.take 4)
      let seq := p.opSeq.toNat
      let mine := g.gallery = p.gallery.toNat ∧ g.tier = 1 ∧ g.uplink = port.toNat ∧ g.state = .active
      let run := exec (.resultFromSpine port p) s
      (¬mine → run = .next { s with mach := (m.takeEngine p).count Reg.GRP_MISTILE_CNT }) ∧
      (mine → m.remembers g.id seq = true → g.op? seq = none →
        run = .next { s with mach := (m.takeEngine p).count Reg.GRP_LATE_DISCARD_CNT }) ∧
      (mine → (m.remembers g.id seq = false ∨ g.op? seq ≠ none) →
        (12 ≤ bits w0 31 28 → run = .next { s with mach := (m.endOrRefuse st g p .uncorrectable).count Reg.RED_POISON_CNT }) ∧
        (bits w0 31 28 < 12 → fmtKnown p.format.toNat = false → run = .next { s with mach := m.endOrRefuse st g p .badFormat }) ∧
        (bits w0 31 28 < 12 → fmtKnown p.format.toNat = true → 31 ≤ p.hops.toNat →
          run = .next { s with mach := (m.takeEngine p).count Reg.TRL_HOPS_CNT })) ∧
      (mine → (m.remembers g.id seq = false ∨ g.op? seq ≠ none) → bits w0 31 28 < 12 → fmtKnown p.format.toNat = true →
        p.hops.toNat < 31 →
        let m1 := (m.takeEngine p).multicast st (g.copiesTo g.present { p with hops := p.hops + 1 }) (g.coreOf p.tile.toNat / 16)
        (bitOf w0 27 = true →
          let m2 := m1.dropEngine fun x => x.group.toNat == g.id && x.opSeq.toNat == seq
          let m3 := m2.modGroup g.id fun h => { h with ops := eraseFirst (fun x => x.seq == seq && !x.complete) h.ops }
          run = .next { s with mach := { m3 with
            ended := ⟨g.id, seq, m3.now, (statusOf? (bits w0 31 28)).getD .uncorrectable⟩ :: m3.ended } }) ∧
        (bitOf w0 27 = false →
          let add (x : Segment) : Segment := { x with forwarded := x.forwarded + w0 % 128 }
          let m2 := m1.modGroup g.id fun h => h.modOp seq fun o => { o.modSeg p.segment.toNat add with
            status := worst o.status ((statusOf? (bits w0 31 28)).getD .ok) }
          run = .next { s with mach := m2.settleSeg st g.id seq p.segment.toNat })))

/-- On a core that is ready, LOOP subtracts 1 from X[A] and goes to IMM[14:0] while the difference is not 0 (X0 reads as 0
and keeps nothing, so a LOOP on X0 subtracts from 0 and advances: DEDUCED, log 53); JMP mode 0 goes to IMM[14:0], mode
1 when X[A] is 0, mode 2 when it is not, and advances otherwise; BAR mode 0 advances. Nothing else changes. (05 Hub
engines, R127, R130 (LOOP, JMP, BAR mode 0).) -/
def Obligations.ControlInstructionsMoveThePc : Prop :=
  ∀ (s : State) (core : BitVec 5) (p : Start), EngineReady s core.toNat p → ∀ (i : EngOp),
    let k := core.toNat
    let x := s.store.x k i.a.toNat
    let target := bits i.imm.toNat 14 0
    (engLegal 0x03 0 i = true →
      exec (.loopDec core i .none) s = .next
        (if i.a = 0 then s.advance k s.mach s.store
         else if x = 1 then s.advance k s.mach (s.store.setX k i.a.toNat 0)
         else s.toPc k s.mach (s.store.setX k i.a.toNat (x - 1)) target)) ∧
    (engLegal 0x04 0 i = true → exec (.jmp core 0 i .none) s = .next (s.toPc k s.mach s.store target)) ∧
    (engLegal 0x04 1 i = true →
      exec (.jmp core 1 i .none) s =
        .next (if x = 0 then s.toPc k s.mach s.store target else s.advance k s.mach s.store) ∧
      exec (.jmp core 2 i .none) s =
        .next (if x = 0 then s.advance k s.mach s.store else s.toPc k s.mach s.store target)) ∧
    (engLegal 0x02 0 i = true → exec (.barCore core i .none) s = .next (s.advance k s.mach s.store))

/-- On a core that is ready, WAIT mode 0 writes the status of an ended operation to X[D], takes it into the program's
status and advances, and else waits; WAIT mode 1 advances and clears what has ended under its tag when no transfer of
its tag that the program waits for (one of its own, or for a layer its own prefetch) is in progress and none has
failed, traps DMA_UE or BAD_POINTER for the first that failed, and else waits, a late prefetch counting in
LAY_PF_LATE_CNT; WAIT mode 2 advances when fabric time has reached X[A], and else waits; BAR mode 1 waits at barrier
IMM[19:16] for the cores of IMM[15:0]. While it waits the pc keeps its place. (05 Hub engines, R130 (WAIT, BAR mode
1), R143; 09 Synchronization, R247; 06 Routed layers, R164, R165.) -/
def Obligations.WaitsEndOrHoldTheCore : Prop :=
  ∀ (s : State) (core : BitVec 5) (p : Start), EngineReady s core.toNat p → ∀ (i : EngOp),
    let k := core.toNat
    let c := s.mach.core k
    let hold (m : Mach) (w : CoreWait) : State := { s with mach := m.modCore k fun c => { c with wait := some w } }
    let x := (s.store.x k i.a.toNat).toNat
    let tag := bits i.imm.toNat 7 0
    let mine := c.dmas.filter (s.mach.dmaMine c tag)
    let cleared : Mach := s.mach.modCore k fun y => { y with
      wait := none, dmaEnds := y.dmaEnds.filter fun e => !s.mach.endMine c tag e }
    let failed := c.dmaEnds.find? fun e => s.mach.endMine c tag e && e.status != .ok
    (engLegal 0x01 0 i = true →
      (∀ status, s.mach.opEnded (bits x 11 0) (bits x 27 12) = some status →
        exec (.waitOp core i .none) s = .next (s.advance k
          (s.mach.modCore k fun c => { c with wait := none, status := worst c.status status })
          (s.store.setX k i.d.toNat (BitVec.ofNat 32 (statusCode status))))) ∧
      (s.mach.opEnded (bits x 11 0) (bits x 27 12) = none →
        exec (.waitOp core i .none) s = .next (hold s.mach (.op (bits x 11 0) (bits x 27 12) i.d.toNat)))) ∧
    (engLegal 0x01 1 i = true →
      (mine = [] → failed = none → exec (.waitDma core i .none) s = .next (s.advance k cleared s.store)) ∧
      (∀ e, mine = [] → failed = some e → exec (.waitDma core i .none) s = .next { s with
        mach := if e.status = .badPointer then cleared.coreTrap s.store k 3 .badPointer (engWord 0x01 1 i) e.addr
          else cleared.coreTrap s.store k 6 .uncorrectable (engWord 0x01 1 i) tag }) ∧
      (mine ≠ [] → exec (.waitDma core i .none) s = .next (hold
        (if mine.any (·.prefetch.isSome) then s.mach.count Reg.LAY_PF_LATE_CNT else s.mach) (.dma tag (engWord 0x01 1 i))))) ∧
    (engLegal 0x01 2 i = true → exec (.waitTime core i .none) s = .next
      (if s.mach.reached x then s.advance k s.mach s.store else hold s.mach (.time x))) ∧
    (engLegal 0x02 1 i = true → exec (.barDie core i .none) s =
      .next (hold s.mach (.barDie (bits i.imm.toNat 19 16) (bits i.imm.toNat 15 0))))

/-- While the data path runs, WAIT_RELEASE of a core that waits in WAIT mode 0, 1 or 2 lets it go on as the instruction
itself would when its condition holds, and changes nothing when it does not; BAR_RELEASE lets every core of its die go
on that waits at the barrier and whose masked cores have all arrived or stopped by a trap, and changes no other core
and nothing else. Core tables list no core twice. (05 Hub engines, R130 (WAIT, BAR mode 1), R142, R143; 09
Synchronization, R247; 06 Routed layers, R165.) -/
def Obligations.WaitingCoresAreReleased : Prop :=
  ∀ (s : State), s.mach.running = true →
    (∀ (core : BitVec 5) (p : Start), (s.mach.core core.toNat).running = some p →
      let k := core.toNat
      let c := s.mach.core k
      let cleared (tag : Nat) : Mach := s.mach.modCore k fun y => { y with
        wait := none, dmaEnds := y.dmaEnds.filter fun e => !s.mach.endMine c tag e }
      (∀ g q d status, c.wait = some (.op g q d) → s.mach.opEnded g q = some status →
        exec (.waitRelease core) s = .next (s.advance k
          (s.mach.modCore k fun c => { c with wait := none, status := worst c.status status })
          (s.store.setX k d (BitVec.ofNat 32 (statusCode status))))) ∧
      (∀ g q d, c.wait = some (.op g q d) → s.mach.opEnded g q = none → exec (.waitRelease core) s = .next s) ∧
      (∀ tag w, c.wait = some (.dma tag w) →
        let failed := c.dmaEnds.find? fun e => s.mach.endMine c tag e && e.status != .ok
        ((∃ x ∈ c.dmas, s.mach.dmaMine c tag x = true) → exec (.waitRelease core) s = .next s) ∧
        ((∀ x ∈ c.dmas, s.mach.dmaMine c tag x = false) → failed = none →
          exec (.waitRelease core) s = .next (s.advance k (cleared tag) s.store)) ∧
        (∀ e, (∀ x ∈ c.dmas, s.mach.dmaMine c tag x = false) → failed = some e → exec (.waitRelease core) s = .next { s with
          mach := if e.status = .badPointer then (cleared tag).coreTrap s.store k 3 .badPointer w e.addr
            else (cleared tag).coreTrap s.store k 6 .uncorrectable w tag })) ∧
      (∀ target, c.wait = some (.time target) → exec (.waitRelease core) s = .next
        (if s.mach.reached target then s.advance k (s.mach.modCore k fun c => { c with wait := none }) s.store else s))) ∧
    (∀ (die : BitVec 1) (index : BitVec 4), (s.mach.cores.map (·.core)).Nodup →
      let goes (c : Core) : Prop := c.core / 16 = die.toNat ∧
        ∃ mask, c.wait = some (.barDie index.toNat mask) ∧ s.mach.barMet c index.toNat mask = true
      ∃ cs, exec (.barRelease die index) s = .next { s with mach := { s.mach with cores := cs } } ∧
        ∀ k, let c := s.mach.core k
          let after := ({ s.mach with cores := cs } : Mach).core k
          (goes c → after = { c with wait := none, pc := (c.pc + 1) % 32768 }) ∧ (¬goes c → after = c))

/-- On a core that is ready, TLD mode 0 or 1 with its bytes in the program's scratch window, 4-byte aligned, and its group
inside the register file loads CNT + 1 vector registers from its own core's scratch or that of core IMM[1:0] of its
cluster, mode 3 CNT + 1 scalar registers; modes 2 and 4 load vector or scalar registers from the kept result slots
that the handle in X[A] names, and IMM[22] releases the slots. IMM[23] adds the bytes moved to X[A]; where the load
itself wrote X[A] the value is free (log 26). Nothing else changes and the pc advances. (05 Hub engines, R125, R129,
R130 (TLD modes 0 to 4), R141; 04 Reduction core, R115.) -/
def Obligations.LoadsMoveScratchAndSlotsToRegisters : Prop :=
  ∀ (s : State) (core : BitVec 5) (p : Start), EngineReady s core.toNat p → ∀ (i : EngOp),
    let k := core.toNat
    let n := i.cnt.toNat + 1
    let h := (s.store.x k i.a.toNat).toNat
    let el := bits i.imm.toNat 15 0
    let e := engOf s k p i
    i.d.toNat + n ≤ 32 →
    (engLegal 0x08 0 i = true → InScratch p h (4096 * n) 4 →
      exec (.tldScratch core i .none) s = .next (s.advance k s.mach
        (postInc k i (4096 * n) (s.store.setV k i.d.toNat 0 (bytesWords (s.store.scr k h (4096 * n))))))) ∧
    (engLegal 0x08 1 i = true → InScratch p h (4096 * n) 4 →
      let src := k / 4 * 4 + bits i.imm.toNat 1 0
      (s.mach.core src).poisoned = [] →
      exec (.tldCrossbar core i .none) s = .next (s.advance k s.mach
        (postInc k i (4096 * n) (s.store.setV k i.d.toNat 0 (bytesWords (s.store.scr src h (4096 * n))))))) ∧
    (engLegal 0x08 3 i = true → InScratch p h (4 * n) 4 →
      let st := s.store.setXs k i.d.toNat (bytesWords (s.store.scr k h (4 * n)))
      if bitOf i.imm.toNat 23 = true ∧ e.loadsA = true then
        ∃ v m, exec (.tldScratchX core i .none) s = .next (s.advance k m (st.setX k i.a.toNat v)) ∧ m = { s.mach with free := m.free }
      else exec (.tldScratchX core i .none) s = .next (s.advance k s.mach (postInc k i (4 * n) st))) ∧
    (engLegal 0x08 2 i = true → ∀ o ws, s.mach.keptOp p.gallery h = some o → o.slotWords el n = some ws →
      exec (.tldSlot core i .none) s = .next (s.advance k (e.release s.mach h)
        (postInc k i (4096 * n) (s.store.setV k i.d.toNat 0 ws)))) ∧
    (engLegal 0x08 4 i = true → ∀ o ws, s.mach.keptOp p.gallery h = some o →
      o.slotWords (el / 1024) ((el % 1024 + n + 1023) / 1024) = some ws →
      let st := s.store.setXs k i.d.toNat ((ws.drop (el % 1024)).take n)
      if bitOf i.imm.toNat 23 = true ∧ e.loadsA = true then
        ∃ v m, exec (.tldSlotX core i .none) s = .next (s.advance k m (st.setX k i.a.toNat v)) ∧
          m = { e.release s.mach h with free := m.free }
      else exec (.tldSlotX core i .none) s = .next (s.advance k (e.release s.mach h) (postInc k i (4 * n) st)))

/-- On a core that is ready, with the bytes in the program's scratch window, 4-byte aligned, outside every registered
weight range, and the group inside the register file, TST mode 0 or 3 stores CNT + 1 vector registers at address X[A]
of its own core's scratch or that of core IMM[1:0] of its cluster, mode 1 CNT + 1 scalar registers (that TST mirrors
TLD is DEDUCED, log 25). IMM[23] adds the bytes moved to X[A]. Every other byte of scratch, every other register, HBM,
tables and the machine stay as they were, and the pc advances. (05 Hub engines, R125, R129, R130 (TST modes 0, 1, 3),
R141; 08 Determinism, R228.) -/
def Obligations.StoresMoveRegistersToScratch : Prop :=
  ∀ (s : State) (core : BitVec 5) (p : Start), EngineReady s core.toNat p → ∀ (i : EngOp),
    let k := core.toNat
    let n := i.cnt.toNat + 1
    let a := (s.store.x k i.a.toNat).toNat
    i.d.toNat + n ≤ 32 →
    (engLegal 0x09 0 i = true → InScratch p a (4096 * n) 4 → s.mach.scrGuarded k a (4096 * n) = false →
      exec (.tstScratch core i .none) s = .next (s.advance k s.mach
        (postInc k i (4096 * n) (s.store.setScr k a (wordBytes (s.store.v k i.d.toNat (1024 * n))))))) ∧
    (engLegal 0x09 3 i = true → InScratch p a (4096 * n) 4 →
      let dst := k / 4 * 4 + bits i.imm.toNat 1 0
      s.mach.scrGuarded dst a (4096 * n) = false → (s.mach.core dst).poisoned = [] →
      exec (.tstCrossbar core i .none) s = .next (s.advance k s.mach
        (postInc k i (4096 * n) (s.store.setScr dst a (wordBytes (s.store.v k i.d.toNat (1024 * n))))))) ∧
    (engLegal 0x09 1 i = true → InScratch p a (4 * n) 4 → s.mach.scrGuarded k a (4 * n) = false →
      exec (.tstX core i .none) s = .next (s.advance k s.mach
        (postInc k i (4 * n) (s.store.setScr k a (wordBytes ((List.range n).map fun j => s.store.x k (i.d.toNat + j)))))))

/-- On a core that is ready whose channel is not halted, TLD mode 5 and TST mode 2 of a length that is a multiple of 256
and at most 4 MiB, inside both windows and clear of registered weight ranges, add one transfer under tag IMM[7:0] and
advance (with post-increment when IMM[23] is set). DMA_DONE of that tag (a program's transfer) and PREFETCH_DONE (a
router prefetch) then copy exactly the transfer's bytes from HBM to scratch or from scratch to HBM and record its end
under its tag, unless its program has left the core; no other byte of memory changes. (05 Hub engines, R129, R130 (TLD
mode 5, TST mode 2), R141; 06 Routed layers, R164, R165; 17 Stored data, R455.) -/
def Obligations.HbmTransfersStartAndEnd : Prop :=
  (∀ (s : State) (core : BitVec 5) (p : Start), EngineReady s core.toNat p → ∀ (i : EngOp),
    let k := core.toNat
    let tag := bits i.imm.toNat 7 0
    let u := (s.store.x k i.a.toNat).toNat
    let b := (s.store.x k i.b.toNat).toNat
    let len := (s.store.x k i.c.toNat).toNat
    let started (out : Bool) : Mach := s.mach.modCore k fun c => { c with
      dmas := c.dmas ++ [{ tag, hbm := 256 * u, scr := b, len := len, toHbm := out }] }
    len % 256 = 0 → len ≤ 2 ^ 22 → p.hbmBase ≤ u → u + len / 256 ≤ p.hbmLimit → u < 2 ^ 31 → InScratch p b len 64 →
    s.mach.flag Reg.ECC_DMA_HALT k = false →
    (engLegal 0x08 5 i = true → s.mach.scrGuarded k b len = false →
      exec (.tldHbm core i .none) s = .next (s.advance k (started false) (postInc k i len s.store))) ∧
    (engLegal 0x09 2 i = true → s.mach.hbmGuarded (256 * u) len = false →
      exec (.tstHbm core i .none) s = .next (s.advance k (started true) (postInc k i len s.store)))) ∧
  (∀ (s : State) (core : BitVec 5) (d : Dma), s.mach.running = true → Unspoiled s.mach →
    (s.mach.core core.toNat).poisoned = [] → d.ok = true →
    let k := core.toNat
    let taken : Mach := s.mach.modCore k fun c => { c with dmas := eraseFirst (fun x => x == d) c.dmas }
    let ended : State := { s with
      mach := if d.gone then taken else taken.modCore k fun c => { c with dmaEnds := c.dmaEnds ++ [⟨d.tag, .ok, d.scr, d.prefetch⟩] }
      store := if d.toHbm then { s.store with hbm := sputs zeroCell s.store.hbm d.hbm (s.store.scr k d.scr d.len) }
        else s.store.setScr k d.scr (sgets zeroCell s.store.hbm d.hbm d.len) }
    (∀ tag : BitVec 8, (s.mach.core k).dmas.find? (fun x => x.tag == tag.toNat && x.prefetch.isNone) = some d →
      exec (.dmaDone core tag .none) s = .next ended) ∧
    ((s.mach.core k).dmas.find? (fun x => x.prefetch.isSome) = some d → exec (.prefetchDone core .none) s = .next ended))

/-- On a core that is ready, with every group inside the register file and the instruction legal, VAD, VMU, VFM, VMX, VRS,
VEX, NRM mode 1, CMB and DQT mode 1 write to the CNT + 1 registers from D, element by element, the result of their
function on the elements of their operands (a scalar mode takes X[B] for every element), note the first NaN of the
results, and advance. Every other register, scratch, HBM and table stays as it was; without a NaN the machine changes
in nothing but the pc. (05 Hub engines, R130 (VAD, VMU, VFM, VMX, VRS, VEX, NRM, CMB, DQT), R134 to R136, R138, R140,
R142; 02 Number formats, R30, R33.) -/
def Obligations.ElementwiseInstructionsWriteOneGroup : Prop :=
  ∀ (s : State) (core : BitVec 5) (p : Start), EngineReady s core.toNat p → ∀ (i : EngOp),
    let k := core.toNat
    let n := i.cnt.toNat + 1
    let group (r : BitVec 5) : List Word := s.store.v k r.toNat (1024 * n)
    let scalar (r : BitVec 5) : List Word := List.replicate (1024 * n) (s.store.x k r.toNat)
    let x (j : Nat) : Word := s.store.x k (i.c.toNat + j)
    let put (rs : List VRes) : State := s.advance k ((engOf s k p i).nanNote s.mach (firstNan 0 0 rs))
      (s.store.setV k i.d.toNat 0 (rs.map (·.bits)))
    let fits (r : BitVec 5) : Prop := r.toNat + n ≤ 32
    fits i.d → fits i.a →
    (∀ mode : BitVec 4,
      let b := if mode = 1 then scalar i.b else group i.b
      let b2 := if mode.toNat < 2 then group i.b else scalar i.b
      (mode = 1 ∨ fits i.b →
        (engLegal 0x18 mode.toNat i = true →
          exec (.vad core mode i .none) s = .next (put (List.zipWith (v2 fun a b => vOf (fAdd a b)) (group i.a) b))) ∧
        (engLegal 0x19 mode.toNat i = true →
          exec (.vmu core mode i .none) s = .next (put (List.zipWith (v2 fun a b => vOf (fMul a b)) (group i.a) b))) ∧
        (engLegal 0x1A mode.toNat i = true → fits i.c → exec (.vfm core mode i .none) s = .next (put
          (List.zipWith (fun ab c => v3 (fun a b c => vOf (fFma a b c)) ab.1 ab.2 c) ((group i.a).zip b) (group i.c))))) ∧
      (2 ≤ mode.toNat ∨ fits i.b → engLegal 0x1D mode.toNat i = true →
        exec (.vmx core mode i .none) s = .next (put (List.zipWith (v2 (vMaxMin (mode.toNat % 2 == 1))) (group i.a) b2)))) ∧
    (engLegal 0x1F 1 i = true → fits i.b → i.c.toNat + 3 ≤ 32 →
      exec (.nrmApply core i .none) s = .next (put (nrmApply (group i.a) (group i.b) (x 0) (x 1) (x 2)))) ∧
    (let t := s.store.v k i.c.toNat 32
     let ways := ((t.take 16).takeWhile fun w => w != 0xFFFFFFFF).length
     let term (j : Nat) : Word × List Word := (t.getD (16 + j) 0, s.store.v k (i.b.toNat + j * n) (1024 * n))
     engLegal 0x24 0 i = true → i.b.toNat + ways * n ≤ 32 →
      exec (.cmb core i .none) s = .next (put (((group i.a).zip (group i.d)).zipIdx.map fun q =>
        cmbElem q.1.1 q.1.2 (((List.range ways).map term).map fun b => (b.1, b.2.getD q.2 0))))) ∧
    (engLegal 0x1B 0 i = true → exec (.vrs core i .none) s = .next (put ((group i.a).map vrs))) ∧
    (engLegal 0x1C 0 i = true → exec (.vex core i .none) s = .next (put ((group i.a).map vex))) ∧
    (engLegal 0x22 1 i = true →
      exec (.dqtInt core i .none) s = .next (put ((group i.a).map fun w => { bits := (fOfInt w.toInt).bits })))

/-- On a core that is ready, VSM writes to X[D] the tree sum of the first IMM[14:0] + 1 elements of group A, NRM mode 0
the tree sum of the squares of group A, and DGS the CRC-64 of X[B] bytes of scratch at X[A], a multiple of 64, low
half to X[D] and high half to X[D + 1]. They write no other register and no memory, and advance; where the sum is no
NaN, and for DGS always, the machine changes in nothing but the pc. (05 Hub engines, R130 (VSM, NRM mode 0, DGS),
R133, R141; 08 Determinism, R221.) -/
def Obligations.ReductionsToScalarsWriteOneRegister : Prop :=
  ∀ (s : State) (core : BitVec 5) (p : Start), EngineReady s core.toNat p → ∀ (i : EngOp),
    let k := core.toNat
    let n := i.cnt.toNat + 1
    let wrote (c : Instr) (r : VRes) : Prop := ∃ m, exec c s = .next (s.advance k m (s.store.setX k i.d.toNat r.bits)) ∧
      (r.nan = none → m = s.mach)
    (engLegal 0x1E 0 i = true → i.a.toNat + n ≤ 32 →
      let len := bits i.imm.toNat 14 0 + 1
      i.a.toNat + (len + 1023) / 1024 ≤ 32 →
      wrote (.vsm core i .none) (vsum (asElems (s.store.v k i.a.toNat len)))) ∧
    (engLegal 0x1F 0 i = true → i.a.toNat + n ≤ 32 →
      wrote (.nrmSs core i .none) (nrmSs (s.store.v k i.a.toNat (1024 * n)))) ∧
    (engLegal 0x28 0 i = true →
      let a := (s.store.x k i.a.toNat).toNat
      let len := (s.store.x k i.b.toNat).toNat
      let crc := crc64 (s.store.scr k a len)
      i.d.toNat + 2 ≤ 32 → len % 64 = 0 → InScratch p a len 64 →
      exec (.dgs core i .none) s = .next (s.advance k s.mach ((s.store.setX k i.d.toNat (BitVec.ofNat 32 crc)).setX k
        (i.d.toNat + 1) (BitVec.ofNat 32 (crc / 2 ^ 32)))))

/-- On a core that is ready with well-placed operands, DQT mode 0 decodes CNT + 1 tiles of a known arithmetic format from
scratch at X[A] to the registers from D; TOPK, for a layer as its entry asks, writes its selection of IMM[14:11] + 1
of IMM[10:0] + 1 logits to register D and keeps the chosen experts for the sends and the audit of its program; QNT
encodes CNT + 1 registers from A to tiles in scratch at X[D] and adds the saturation and flush counts to X[B] and
X[C]; MMA of one family of formats with K a multiple of 1,024 writes at offset IMM[23:13] of the registers from D, row
by row, each product of a row of activations and a column of weights, added to the accumulator when IMM[11] is set,
and no other element. Each notes the first NaN it met (none leaves everything else but the pc as it was) and advances.
(05 Hub engines, R125, R130 (MMA, TOPK, QNT, DQT mode 0), R131, R132, R137, R138, R141, R142; 02 Number formats, R26;
06 Routed layers, R163; 08 Determinism, R226.) -/
def Obligations.ConversionsAndMatrixProductsWriteTheirResult : Prop :=
  ∀ (s : State) (core : BitVec 5) (p : Start), EngineReady s core.toNat p → ∀ (i : EngOp),
    let k := core.toNat
    let n := i.cnt.toNat + 1
    let f := i.fmt.toNat
    let imm := i.imm.toNat
    let note (x : Option (Nat × Nat × Nat × Nat)) : Mach := (engOf s k p i).nanNote s.mach x
    let len := (n - 1) * tileStride f + reserveBytes f
    (engLegal 0x22 0 i = true → fmtKnown f = true → fmtFamily f ≠ .bitwise →
      i.d.toNat + n ≤ 32 → InScratch p (s.store.x k i.a.toNat).toNat len 4 →
      let a := (s.store.x k i.a.toNat).toNat
      let es := (List.range n).flatMap fun t => decodeTile f (leNat (s.store.scr k (a + t * tileStride f) (reserveBytes f)))
      ∃ x, exec (.dqtDecode core i .none) s = .next (s.advance k (note x) (s.store.setV k i.d.toNat 0 (es.map (·.bits)))) ∧
        ((∀ e ∈ es, e.nan = none) → x = none)) ∧
    (engLegal 0x20 0 i = true → s.mach.topkFits p imm = true → i.a.toNat + n ≤ 32 →
      i.a.toNat + (bits imm 10 0 + 1 + 1023) / 1024 ≤ 32 →
      let t := topk (s.store.v k i.a.toNat (bits imm 10 0 + 1)) (bits imm 14 11 + 1) (bits imm 16 15) (bitOf imm 17)
      let noted := note (t.nan.map fun x => (x.1, x.2.1, 0, x.2.2.toNat))
      let chosen : Mach := match p.session with
        | some x => noted.modSession x fun y => { y with audit := { y.audit with chosen := y.audit.chosen ++ t.sel } }
        | none => noted
      exec (.topk core i .none) s = .next (s.advance k (chosen.modCore k fun c => { c with topk := c.topk ++ [t.sel] })
        (s.store.setV k i.d.toNat 0 (topkWords t)))) ∧
    (engLegal 0x21 0 i = true → fmtKnown f = true → fmtFamily f ≠ .bitwise → i.a.toNat + n ≤ 32 →
      let d := (s.store.x k i.d.toNat).toNat
      InScratch p d len 4 →
      let tile (t : Nat) : List Word := s.store.v k (i.a.toNat + t) 1024
      let outs := (List.range n).map fun t => qntTile f imm (tile t)
      let st := outs.zipIdx.foldl (fun st o => st.setScr k (d + o.2 * tileStride f) o.1.payload) s.store
      ∃ x, exec (.qnt core i .none) s = .next (s.advance k (note x)
          ((st.addX k i.b.toNat (sumOf (·.sat) outs)).addX k i.c.toNat (sumOf (·.flush) outs))) ∧
        ((∀ t, t < n → qntNan f t (tile t) (qntTile f imm (tile t)) = none) → x = none)) ∧
    (engLegal 0x10 0 i = true →
      let fa := bits imm 4 0
      let sh := (s.store.x k i.c.toNat).toNat
      let kk := 32 * (bits sh 9 0 + 1)
      let cols := bits sh 19 10 + 1
      let rows := bits sh 25 20 + 1
      let off := bits imm 23 13
      let wa := (s.store.x k i.a.toNat).toNat
      let aa := (s.store.x k i.b.toNat).toNat
      let wl := weightBytes f (panelRows f fa) kk cols
      let row (r : Nat) : List (Nat × Nat) := actRow fa ((List.range (kk / 1024)).map fun t =>
        leNat (s.store.scr k (aa + (r * (kk / 1024) + t) * tileStride fa) (reserveBytes fa)))
      let col (c : Nat) : List (Nat × Nat) := weightColumn f (panelRows f fa) kk cols (leNat (s.store.scr k wa wl)) c
      let start (r c : Nat) : Option Word :=
        if bitOf imm 11 then some ((s.store.v k i.d.toNat (1024 * n)).getD (off + r * cols + c) 0) else none
      let product (r c : Nat) : VRes := if fmtFamily f = .float then mmaFloat f fa (start r c) (col c) (row r)
        else mmaInt f fa (bitOf imm 12) (start r c) (col c) (row r)
      fmtMmaOk f = true → fmtMmaOk fa = true → fmtFamily f = fmtFamily fa → kk % 1024 = 0 → off + rows * cols ≤ 1024 * n →
      i.d.toNat + n ≤ 32 → InScratch p wa wl 4 → InScratch p aa ((rows * (kk / 1024) - 1) * tileStride fa + reserveBytes fa) 4 →
      ∃ x, exec (.mma core i .none) s = .next (s.advance k (note x) (s.store.setV k i.d.toNat off
          ((List.range rows).flatMap fun r => (List.range cols).map fun c => (product r c).bits))) ∧
        ((∀ r c, r < rows → c < cols → (product r c).nan = none) → x = none))

/-- On a core that is ready, END leaves the core idle with its status, waits, NaN mark and expert selections cleared and
the program's transfers dropped, while prefetches of other programs stand. Started from a command ring, it completes
that command with the program's status, pc and X1 to X8; of a layer program, RSEQ moves on by one modulo 16 and
CUR_LAYER to the entry's next layer, the program's status joins the step's audit, whose record is written at the end
of the step, and attention operations of the session that wait are tried again. Held long-lived masks take effect when
nothing else is queued. No memory changes. (05 Hub engines, R130 (END), R143; 06 Routed layers, R159, R160, R164; 15
Jionuk, R405; 17 Stored data, R448.) -/
def Obligations.ProgramEndFreesTheCore : Prop :=
  ∀ (s : State) (core : BitVec 5) (p : Start), EngineReady s core.toNat p → ∀ (i : EngOp), engLegal 0x00 0 i = true →
    let k := core.toNat
    let c := s.mach.core k
    let own (q : PfFor) : Bool := match p.session.bind s.mach.session? with
      | some x => q.serves x.n x.rseq
      | none => false
    let idle : Mach := s.mach.setCore { c.dropDmas own with
      running := none, wait := none, status := .ok, nan := false, topk := [], gone := [] }
    let left : Mach := match p.cmd with
      | some (set, index, tag) => idle.cmdFinish set index (progRecord (statusCode c.status) 0 tag c.pc (s.store.x1to8 k))
      | none => idle
    (p.session = none → exec (.endProgram core i .none) s = .next { s with mach := left.applyLong k }) ∧
    (∀ x, p.session = some x.n → left.session? x.n = some x →
      let joined : Mach := left.modSession x.n fun y =>
        { y with audit := { auditFlush y.audit with status := worst y.audit.status c.status } }
      let stepped : Mach := if left.lay x.cur 1 31 24 = 0xFF then joined.auditEnd x.n false else joined
      let on : Mach := stepped.modSession x.n fun y => { y with rseq := (y.rseq + 1) % 16, cur := left.nextLayer x }
      exec (.endProgram core i .none) s = .next { s with mach := (on.applyLong k).retrySession s.store x.n })

/-- On a core that is ready, SND in its three modes, with header X[C] and data X[A] in the scratch window and the header's
VC one of 2, 3, 6 and 7, hands one packet per tile to the send path in tile order: TILE counts up by IMM[4:0] from the
header's, FORMAT is FMT, LENGTH and payload are the tile's (a short vector's LENGTH is the header's), EPOCH the reset
stamp; LAST is the header's in mode 0 and set on the final packet in modes 1 and 2. No register and no memory changes,
and the pc advances. A DISPATCH to the owners of chosen experts is sent from the program of a routed layer after a
TOPK only: else SND traps BAD_FORMAT. (05 Hub engines, R130 (SND), R139, R141.) -/
def Obligations.SendHandsItsPacketsToTheSwitch : Prop :=
  ∀ (s : State) (core : BitVec 5) (p : Start), EngineReady s core.toNat p → ∀ (i : EngOp),
    let k := core.toNat
    let n := i.cnt.toNat + 1
    let f := i.fmt.toNat
    let a := (s.store.x k i.a.toNat).toNat
    let c := (s.store.x k i.c.toNat).toNat
    let p0 := pktOfHeader (s.store.scr k c 32)
    let tile (short lastTile : Bool) (t : Nat) : Packet :=
      let o := a + t * tileStride f
      let len := if short then p0.length.toNat
        else if f = 15 then abf4Bytes (leNat (s.store.scr k o 4)) else fmtBytes f
      { p0 with
        epoch := s.mach.sw.stamp, tile := p0.tile + BitVec.ofNat 16 (t * bits i.imm.toNat 4 0), format := i.fmt,
        length := BitVec.ofNat 13 len, payload := s.store.scr k o len, last := p0.last || (lastTile && t + 1 == n) }
    let sent (short lastTile : Bool) : State := s.advance k
      ((List.range n).foldl (fun m t => (engOf s k p i).sendOne m s.store (tile short lastTile t)) s.mach) s.store
    InScratch p c 32 4 → (p0.vc = 2 ∨ p0.vc = 3 ∨ p0.vc = 6 ∨ p0.vc = 7) → InScratch p a ((n - 1) * tileStride f + reserveBytes f) 4 →
    let chosen : Prop := p0.type = 11 ∧ p0.dest = 0xFFF2
    let may : Prop := (∃ x, p.session.bind s.mach.session? = some x ∧ s.mach.lay x.cur 0 30 29 = 0) ∧ (s.mach.core k).topk ≠ []
    (chosen → ¬may → engLegal 0x23 0 i = true → exec (.snd core i .none) s =
      .next { s with mach := s.mach.coreTrap s.store k 2 .badFormat (engWord 0x23 0 i) 0 }) ∧
    ((chosen → may) →
      (fmtDispatchOk f = true →
        (engLegal 0x23 0 i = true → exec (.snd core i .none) s = .next (sent false false)) ∧
        (engLegal 0x23 1 i = true → exec (.sndLast core i .none) s = .next (sent false true))) ∧
      (n = 1 → f = 0 → p0.length.toNat % 4 = 0 → 4 ≤ p0.length.toNat → p0.length.toNat ≤ 4096 → engLegal 0x23 2 i = true →
        exec (.sndShort core i .none) s = .next (sent true true)))

/-- On a core that runs a program, waits for nothing and meets no stored error, a fetched word that spells no instruction
traps with BAD_FORMAT and that word; on a core that is ready, an instruction whose unused fields are not zero or whose
MODE is none of its modes traps with BAD_FORMAT (JMP, VAD and VMX with an illegal mode, BAR mode 0 with a field set),
and a TLD mode 0 outside the scratch window traps with BAD_POINTER and the address. The trap is counted, ENG_TRAP
raised, the program has left the core, and no addressed memory changes. (05 Hub engines, R130, R141, R142, R145.) -/
def Obligations.TrapsStopTheProgramAndWriteNothing : Prop :=
  ∀ (s : State) (core : BitVec 5) (p : Start) (i : EngOp),
    let k := core.toNat
    let trapped (kind : Nat) (status : Status) (word detail : Nat) : State :=
      { s with mach := s.mach.coreTrap s.store k kind status word detail }
    let word := s.store.fetch k (s.mach.core k).pc
    (s.mach.running = true → (s.mach.core k).running = some p → (s.mach.core k).wait = none → (s.mach.core k).badFetch = [] →
      Unspoiled s.mach → wordLegal word = false → ∀ c ∈ [Instr.endProgram core i .none, .loopDec core i .none, .mma core i .none,
        .tldScratch core i .none, .topk core i .none, .snd core i .none], exec c s = .next (trapped 1 .badFormat word 0)) ∧
    (EngineReady s k p → ∀ mode : BitVec 4,
      let a := (s.store.x k i.a.toNat).toNat
      (2 < mode.toNat → exec (.jmp core mode i .none) s = .next (trapped 1 .badFormat (engWord 0x04 mode.toNat i) 0)) ∧
      (1 < mode.toNat → exec (.vad core mode i .none) s = .next (trapped 1 .badFormat (engWord 0x18 mode.toNat i) 0)) ∧
      (3 < mode.toNat → exec (.vmx core mode i .none) s = .next (trapped 1 .badFormat (engWord 0x1D mode.toNat i) 0)) ∧
      (engLegal 0x02 0 i = false → exec (.barCore core i .none) s = .next (trapped 1 .badFormat (engWord 0x02 0 i) 0)) ∧
      (engLegal 0x08 0 i = true → ¬InScratch p a (4096 * (i.cnt.toNat + 1)) 4 →
        exec (.tldScratch core i .none) s = .next (trapped 3 .badPointer (engWord 0x08 0 i) a))) ∧
    ((s.mach.core k).running = some p → p.session = none → p.cmd = none → (s.mach.core k).longHeld = [] →
      ∀ kind status w detail, ((trapped kind status w detail).mach.core k).running = none)

/-- While the data path runs, on a core that is free, whose spare is not in use, that has no parked load and no test
running: its oldest start that is not held and no layer begins with its entry and registers; an empty queue or a
running program changes nothing. A taken write of ENG_SPARE_REQ without GO changes nothing, with GO of a present core
whose cluster's spare is free notes the request and else counts the refusal. A request is engaged when the core is
idle and the spare free: it is being copied and its group is bypassed. When a requested copy is done the map gives the
core the spare's position, the old position is spare no more, ENG_SPARE is raised, scratch lines that could not be
read are poisoned, program-store lines that could not be read trap at their fetch, and the bypass ends; a copy that
fails leaves the core absent. (05 Hub engines, R128, R147 to R149; 06 Routed layers, R159, R163; 18 Faults, R469.) -/
def Obligations.ProgramStartsAndSparesTakeTheirCore : Prop :=
  (∀ (s : State) (core : BitVec 5), s.mach.running = true →
    let m := s.mach
    let k := core.toNat
    let c := m.core k
    (c.queue = [] → exec (.queuedStart core .none) s = .next s) ∧
    (c.running.isSome = true → exec (.queuedStart core .none) s = .next s) ∧
    (∀ q t, c.queue = q :: t → q.held = false → q.session.bind m.session? = none → c.running = none → c.spare = none →
      m.loadParked k = false → m.boot.bist = none →
      let begun (c : Core) : Core := { c with
        running := some q, pc := q.entry, wait := none, status := .ok, nan := false, topk := [], trapped := false, gone := [], queue := t }
      exec (.queuedStart core .none) s = .next { s with mach := m.modCore k begun, store := s.store.startRegs k q.regs }) ∧
    (∀ q t x, c.queue = q :: t → q.held = false → q.session = some x.n → m.session? x.n = some x → c.running = none →
      c.spare = none → m.loadParked k = false → m.boot.bist = none → Unspoiled m →
      exec (.queuedStart core .none) s = .next
        { s with mach := (m.startLayer s.store k q x).1, store := (m.startLayer s.store k q x).2 }) ∧
    (c.spare = some .requested → c.running = none → m.spareFree (k / 4) = true → m.boot.bist = none →
      exec (.spareReqEngage core) s = .next { s with
        mach := (m.setCore { c with spare := some .copying }).bypassOn (4 + k / 4) }) ∧
    (c.spare ≠ some .requested → exec (.spareReqEngage core) s = .next s) ∧
    (∀ (bad : SpareBad) (x : Status),
      ((c.spare = some .copying ∧ x = .ok) ∨ c.spare = some (.fault x)) →
      let old := m.corePos k
      let new := m.fld (Reg.ENG_MAP_C (k / 4)) 14 12
      let m1 := (m.setFld (Reg.ENG_MAP_C (k / 4)) (3 * (k % 4) + 2) (3 * (k % 4)) new).setFld (Reg.ENG_MAP_C (k / 4)) 14 12 7
      let m2 := (m1.setFlag Reg.ENG_SPARE (k / 4) false).setFlag Reg.ENG_SPARE (8 + k / 4) true
      let m3 := m2.modEvent 0x10 noFault [statusCode x * 2 ^ 28 + old * 2 ^ 10 + new * 2 ^ 7 + k, 0, 0, 0, 0]
      let m4 := m3.dropPins fun p => p.group == 4 + k / 4 && p.unit == k
      exec (.spareCopyDone core true bad) s = .next { s with
        mach := (m4.modCore k fun c => { c with
          spare := none, poisoned := bad.lines.map (·.toNat)
          badFetch := bad.prog.flatMap fun l => (List.range 8).map fun i => 8 * l.toNat + i }).bypassOff (4 + k / 4) } ∧
      exec (.spareCopyDone core false bad) s =
        .next { s with mach := m.coreAbsent s.store k (if x = .ok then .uncorrectable else x) }) ∧
    (c.spare = none → ∀ ok bad, exec (.spareCopyDone core ok bad) s = .next s)) ∧
  (∀ (s : State) (value : Word), Writable s Reg.ENG_SPARE_REQ →
    let m := s.mach
    let k := value.toNat % 32
    let free := m.flag Reg.ENG_SPARE (k / 4) = true ∧ (m.core k).spare = none ∧ m.flag Reg.ENG_PRESENT k = true ∧
      m.spareFree (k / 4) = true
    (bitOf value.toNat 5 = false → exec (.engSpareReq value) s = .next s) ∧
    (bitOf value.toNat 5 = true → free →
      exec (.engSpareReq value) s = .next { s with mach := m.modCore k fun c => { c with spare := some .requested } }) ∧
    (bitOf value.toNat 5 = true → ¬free → exec (.engSpareReq value) s = .next { s with
      mach := m.setFld Reg.ENG_TRAP_CNT 31 24 (satAdd 0xFF (m.fld Reg.ENG_TRAP_CNT 31 24) 1) }))

/-- While the data path runs, of a command whose descriptor has been taken and whose data has come: LAY_LOAD of words that
pass every check loads the entry, drops its weight records and completes OK, and waits while the entry runs; a failing
one completes with its status and reason. LAY_EXPMAP of 1 to 16,384 good words writes exactly those map words and
completes with their count. LAY_SESSION_OPEN of a free number with good fields adds the session and clears exactly its
residual range of the home core's scratch; of a number in use it answers ID_IN_USE. LAY_SESSION_CLOSE of an idle
session removes it, of one whose program runs or is queued answers BUSY, and with FORCE fails its layer with
ABORT_GALLERY first; an unknown session answers NOT_FOUND. Each marks its gallery's program digest stale, a waiting
one when it runs. (06 Routed layers, R152 to R156, R174, R176 to R178; 15 Jionuk, R411, R412.) -/
def Obligations.LayerTablesAndSessionsLoadAndClose : Prop :=
  ∀ (s : State) (d : TuDesc), s.mach.running = true → Unspoiled s.mach →
    let m := s.mach.tuBegin
    let taken (opc : Nat) (d : TuDesc) : Prop := s.mach.tuTaken opc d = true
    let stale (a : Mach) : Mach := a.markStale (some d.gallery.toNat)
    (∀ data : List Word, taken 0x10 d →
      let i := d.arg0.toNat
      (∀ st r, m.layFails s.store d data = some (st, r) →
        exec (.layLoad d data) s = .next { s with mach := stale (m.tuDone 0x10 d st (reasonCode r) 0) }) ∧
      (m.layFails s.store d data = none →
        ((m.layerBusy i = true ∨ m.tuBehind 0x10 d = true) → exec (.layLoad d data) s = .next { s with mach := m.park 0x10 d data }) ∧
        (m.layerBusy i = false → m.tuBehind 0x10 d = false →
          let m1 : Mach := { m with
            layers := ⟨i, data⟩ :: m.layers.filter fun l => l.idx != i
            dgt := { m.dgt with records := m.dgt.records.filter fun r => r.layer != i } }
          exec (.layLoad d data) s =
            .next { s with mach := stale ((m1.unfence fun f => f == .layer i).tuDone 0x10 d .ok 0 0) }))) ∧
    (∀ data : List Word,
      let n := d.count.toNat
      let lo := d.arg1.toNat
      tuBad d (4 * n) = false → 0 < n → n ≤ 16384 → lo + n ≤ 65536 → data.length = n → (∀ x ∈ data, x.toNat < 2 ^ 28) →
      taken 0x11 d → m.mapBusy lo (lo + n) = false → m.tuBehind 0x11 d = false →
      let m1 := m.unfence fun f => match f with
        | .expert i => decide (lo ≤ i) && decide (i < lo + n)
        | _ => false
      exec (.layExpmap d data) s = .next { s with
        mach := stale (m1.tuDone 0x11 d .ok 0 n), store := { s.store with expmap := sputs zeroCell s.store.expmap lo data } }) ∧
    (let n := d.arg0.toNat
     let w (i : Nat) : Nat := (d.inline.getD i 0).toNat
     taken 0x12 d → m.feature 1 = true → tuBad d 0 = false →
      ((m.session? n).isSome = true →
        exec (.laySessionOpen d) s = .next { s with mach := stale (m.tuRefuse 0x12 d .idInUse) }) ∧
      (m.session? n = none → m.corePresent (bits (w 1) 21 17) = true → sessBadEntry d = false →
        let lo := bits (w 1) 21 17 * 2 ^ 23 + 64 * bits (w 1) 16 0
        let size := (bits (w 0) 11 6 + 1) * (bits (w 0) 4 0 + 1) * 4096
        ∃ t x, exec (.laySessionOpen d) s = .next t ∧ t.mach.sessions = m.sessions ++ [x] ∧ x.n = n ∧ x.failed = false ∧
          x.rseq = 0 ∧ x.cur = bits (w 1) 31 24 ∧ x.home = bits (w 1) 21 17 ∧ x.gallery = bits (w 0) 17 12 ∧
          t.store = { s.store with scratch := sclear s.store.scratch lo (lo + size) })) ∧
    (let n := d.arg0.toNat
     let gone (a : Mach) (x : Session) : Mach :=
       let b := a.dropPrefetches n x.home
       let c : Mach := { b with sessions := b.sessions.filter fun y => y.n != n }
       c.unfence fun f => f == TableFence.session n
     (taken 0x13 (tuPlain d) →
       (m.session? n = none →
         exec (.laySessionClose d) s = .next { s with mach := stale (m.tuRefuse 0x13 (tuPlain d) .notFound) }) ∧
       (∀ x, m.session? n = some x → tuBad (tuPlain d) 0 = false → d.flags.toNat < 2 →
         exec (.laySessionClose d) s = .next { s with
           mach := if m.sessionRuns x then stale (m.tuRefuse 0x13 (tuPlain d) .busy)
             else stale ((gone m x).tuDone 0x13 (tuPlain d) .ok 0 0) })) ∧
     (taken 0x13 (tuMarked d) →
       (m.session? n = none →
         exec (.laySessionCloseForce d) s = .next { s with mach := stale (m.tuRefuse 0x13 (tuMarked d) .notFound) }) ∧
       (∀ x, m.session? n = some x → tuBad (tuMarked d) 0 = false → d.flags.toNat < 2 →
         exec (.laySessionCloseForce d) s = .next { s with
           mach := stale ((gone (m.layerFail s.store n .abortGallery) x).tuDone 0x13 (tuMarked d) .ok 0 0) })))

/-- While the data path runs, of a command whose descriptor has been taken and whose data has come: PROG_LOAD of 1 or more
words that fit, with no chosen core running and nothing parked before it that it touches, writes exactly those program
words of every chosen core, ends the fetch errors of what it writes, marks valid digests stale and completes with the
count; while a chosen core runs it waits. DGT_WEIGHT of a loaded layer of the gallery and a present core replaces the
record of that layer and core by one of its weights; with CLEAR it removes a record that is there and answers
NOT_FOUND otherwise. A taken write of DGT_PROG_CTL with GO while no digest is computed starts one for its gallery;
when it is done the eight digest words hold the SM3 of the gallery's programs and the digest is valid and not stale.
(05 Hub engines, R127; 08 Determinism, R225 to R228; 15 Jionuk, R411, R412; 17 Stored data, R454.) -/
def Obligations.ProgramsWeightsAndDigestsAreRegistered : Prop :=
  (∀ (s : State) (d : TuDesc), s.mach.running = true → Unspoiled s.mach →
    let m := s.mach.tuBegin
    let taken (opc : Nat) (d : TuDesc) : Prop := s.mach.tuTaken opc d = true
    let stale (a : Mach) : Mach := a.markStale (some d.gallery.toNat)
    (∀ data : List Word, taken 0x28 d →
      let n := d.count.toNat
      let e := d.arg0.toNat
      let cores := setBitsOf 32 d.arg1.toNat
      let m1 := cores.foldl (fun a k => a.modCore k fun c => { c with
        badFetch := c.badFetch.filter fun x => decide (x < e) || decide (e + n ≤ x) }) m
      tuBad d (8 * n) = false → d.gallery = 0 → 0 < n → e + n ≤ 32768 → data.length = 2 * n →
      ((∃ k ∈ cores, (m.core k).running ≠ none) ∨ m.tuBehind 0x28 d = true →
        exec (.progLoad d data) s = .next { s with mach := m.park 0x28 d data }) ∧
      ((∀ k ∈ cores, (m.core k).running = none) → m.tuBehind 0x28 d = false →
        exec (.progLoad d data) s = .next { s with
          mach := (m1.tuDone 0x28 d .ok 0 n).markStale none
          store := { s.store with
            prog := cores.foldl (fun p k => sputs zeroCell p (32768 * k + e) (progWords data)) s.store.prog } })) ∧
    (let i := d.arg0.toNat
     let k := d.arg1.toNat
     let same (r : WeightRec) : Bool := r.layer == i && r.core == k
     i < 256 → k < 32 → d.flags.toNat < 2 → m.layerBusy i = false →
      (taken 0x18 (tuPlain d) → tuBad (tuPlain d) 0 = false → m.tuBehind 0x18 (tuPlain d) = false → m.feature 3 = true →
        bitOf (m.layerWord i 0) 31 = true → m.lay i 0 17 12 = d.gallery.toNat → m.corePresent k = true →
        m.dgt.records.length < 1024 →
        let r := m.weightRec s.store i k
        let m1 : Mach := { r.2 with dgt := { r.2.dgt with records := r.1 :: r.2.dgt.records.filter fun x => !same x } }
        exec (.dgtWeight d) s = .next { s with mach := stale (m1.tuDone 0x18 (tuPlain d) .ok 0 0) }) ∧
      (taken 0x18 (tuMarked d) → tuBad (tuMarked d) 0 = false → m.tuBehind 0x18 (tuMarked d) = false →
        let m1 : Mach := { m with dgt := { m.dgt with records := m.dgt.records.filter fun x => !same x } }
        (m.dgt.records.any same = true →
          exec (.dgtWeightClear d) s = .next { s with mach := stale (m1.tuDone 0x18 (tuMarked d) .ok 0 0) }) ∧
        (m.dgt.records.any same = false →
          exec (.dgtWeightClear d) s = .next { s with mach := stale (m.tuRefuse 0x18 (tuMarked d) .notFound) })))) ∧
  (∀ (s : State) (value : Word), Writable s Reg.DGT_PROG_CTL →
    let m1 := s.mach.writeRw Reg.DGT_PROG_CTL 0x3F value.toNat
    let started : Mach := { m1 with dgt := { m1.dgt with busy := some (value.toNat % 64) } }
    exec (.dgtProgGo value) s = .next { s with
      mach := if bitOf value.toNat 7 = true ∧ s.mach.dgt.busy = none then started else m1 }) ∧
  (∀ (s : State), s.mach.running = true →
    (s.mach.dgt.busy = none → exec .progDigestDone s = .next s) ∧
    (∀ g, s.mach.dgt.busy = some g →
      let pd := sm3 (s.mach.progBytes s.store g)
      let m1 := (List.range 8).foldl (fun a w =>
        a.wr (Reg.DGT_PD_G g w) (BitVec.ofNat 32 (leNat ((pd.drop (4 * w)).take 4)))) s.mach
      let dgt : DgtSt := { m1.dgt with
        busy := none, valid := g :: m1.dgt.valid.filter (· != g), stale := m1.dgt.stale.filter (· != g) }
      exec .progDigestDone s = .next { s with mach := { m1 with dgt := dgt } }))

/-- While the data path runs, of a command whose descriptor has been taken and whose packet has come: MGMT_SEND of a
management packet on VC 1 of at most 4,096 bytes, to a configured port, stamps it and sends it on the port when that
is usable, counts it in SWC_UNREACH_CNT when not, and completes OK; with ROUTE it is routed; a packet of another type
or VC is answered BAD_FORMAT, a port that is not configured refused with BAD_ENTRY. GAL_RESET with no reserved field
and not held runs the gallery's reset and completes OK; GAL_RESET with PORTS also takes the gallery's own ports down;
while the reset is held the command waits. (15 Jionuk, R410, R412, R414; 16 Fabric management, R424, R435; 12 Packet
switch, R347.) -/
def Obligations.ManagementCommandsSendAndReset : Prop :=
  ∀ (s : State) (d : TuDesc), s.mach.running = true →
    let m := s.mach.tuBegin
    let taken (opc : Nat) (d : TuDesc) : Prop := s.mach.tuTaken opc d = true
    let plain := tuPlain d
    let marked := tuMarked d
    let goes (m1 : Mach) : Host.Outcome State Fault Refusal := .next { s with mach := m1 }
    (∀ pkt : Packet,
      let p : Packet := { pkt with hops := 0, epoch := m.sw.stamp }
      let ok := pkt.type = 2 ∧ pkt.vc = 1 ∧ pkt.length.toNat ≤ 4096
      d.gallery = 0 →
      (taken 0x30 plain → tuBad plain (32 + pkt.length.toNat) = false →
        (m.port? d.arg0.toNat = none → exec (.mgmtSend d pkt) s = goes (m.tuRefuse 0x30 plain .badEntry)) ∧
        ((m.port? d.arg0.toNat).isSome = true →
          (¬ok → exec (.mgmtSend d pkt) s = goes (m.tuDone 0x30 plain .badFormat (reasonCode .badEntry) 0)) ∧
          (ok → m.portUsable d.arg0.toNat = false →
            exec (.mgmtSend d pkt) s = goes ((m.count Reg.SWC_UNREACH_CNT).tuDone 0x30 plain .ok 0 0)) ∧
          (ok → m.portUsable d.arg0.toNat = true →
            exec (.mgmtSend d pkt) s = goes ((m.toPort d.arg0.toNat p none false false true).tuDone 0x30 plain .ok 0 0)))) ∧
      (taken 0x30 marked → tuBad marked (32 + pkt.length.toNat) = false →
        (¬ok → exec (.mgmtSendRoute d pkt) s = goes (m.tuDone 0x30 marked .badFormat (reasonCode .badEntry) 0)) ∧
        (ok → exec (.mgmtSendRoute d pkt) s = goes ((m.routePacket s.store p none true).tuDone 0x30 marked .ok 0 0)))) ∧
    (let g := d.gallery.toNat
     let r := m.galReset s.store g
     (taken 0x38 plain → tuBad plain 0 = false → d.flags.toNat < 2 →
        (m.resetHeld g = true → exec (.galReset d) s = goes (m.park 0x38 plain [])) ∧
        (m.resetHeld g = false →
          exec (.galReset d) s = .next { s with mach := r.1.tuDone 0x38 plain .ok 0 0, store := r.2 })) ∧
     (taken 0x38 marked → tuBad marked 0 = false → d.flags.toNat < 2 →
        (m.resetHeld g = true → exec (.galResetPort d) s = goes (m.park 0x38 marked [])) ∧
        (m.resetHeld g = false → exec (.galResetPort d) s =
          .next { s with mach := (r.1.galPorts s.store g).tuDone 0x38 marked .ok 0 0, store := r.2 })))

/-- A write of TIM_CTL that keeps the source (SRC, and SRC_PORT with SRC 2) takes its fields and, with SET, steps fabric
time to TIM_SET_NS at once while no calendar entry runs, and else holds the step with STEP_PENDING set until the end
of the running entry, or of that in which an earlier step was held; a step sets NS to the value and FRAC to 0 and
leaves none held. A read of TIM_NOW_NS_LO latches the high word and the fraction of the same instant. A write of
TIM_PPS_SEC is taken when it follows the last by one or is the first, and else discarded and counted in TIM_ERR_CNT.
(09 Synchronization, R237, R238, R240, R241, R248.) -/
def Obligations.FabricTimeIsSetStampedAndStepped : Prop :=
  (∀ (s : State) (value : Word), Writable s Reg.TIM_CTL →
    let m := s.mach.writeRw Reg.TIM_CTL 0x07FF07FF value.toNat
    let ns := m.rd64 Reg.TIM_SET_NS_LO Reg.TIM_SET_NS_HI
    let src := m.fld Reg.TIM_CTL 1 0
    src = s.mach.fld Reg.TIM_CTL 1 0 → (src = 2 → m.fld Reg.TIM_CTL 10 2 = s.mach.fld Reg.TIM_CTL 10 2) →
    (bitOf value.toNat 31 = false → exec (.timSet value) s = .next { s with mach := m }) ∧
    (bitOf value.toNat 31 = true →
      (m.runningEntry = none → exec (.timSet value) s = .next { s with mach := m.stepNow (.set ns) }) ∧
      (∀ i left, m.runningEntry = some (i, left) → exec (.timSet value) s = .next { s with
        mach := { m.setFlag Reg.TIM_STATUS 2 true with time := { m.time with
          held := some (.set ns), heldEnd := if m.time.held.isSome then m.time.heldEnd else m.now + left } } }))) ∧
  (∀ (m : Mach) (ns : Nat),
    (m.stepNow (.set ns)).now = ns % 2 ^ 64 ∧ (m.stepNow (.set ns)).frac = 0 ∧ (m.stepNow (.set ns)).time.held = none) ∧
  (∀ (s : State), s.mach.awake = true → s.mach.access Reg.TIM_NOW_NS_LO = .live →
    let m1 := s.mach.wr Reg.TIM_NOW_NS_HI (BitVec.ofNat 32 (s.mach.now / 2 ^ 32))
    exec .timNowRead s = .next { s with mach := m1.wr Reg.TIM_NOW_FRAC (BitVec.ofNat 32 s.mach.frac) }) ∧
  (∀ (s : State) (value : Word), Writable s Reg.TIM_PPS_SEC →
    let taken : Mach := { s.mach.wr Reg.TIM_PPS_SEC value with time := { s.mach.time with lastPps := some value.toNat } }
    exec (.timPpsSecWrite value) s = .next { s with
      mach := if s.mach.time.lastPps.all (fun p => value.toNat == (p + 1) % 2 ^ 32) then taken else s.mach.count Reg.TIM_ERR_CNT })

/-- While the data path runs: a PPS edge with source 1 measures the offset of TIM_PPS_SEC, whole seconds, from fabric
time; a Sync of the profile's domain and sdoId on the usable source port whose peer delay is known measures origin
plus correction plus peer delay, a replayed one or one on another port counts in TIM_ERR_CNT whatever its domain; a
Pdelay_Req is answered on its port with its sequence and the requester's identity, the turnaround being a free value
(log 30); a Pdelay_Resp sets half the round trip less the turnaround as peer delay and ends the outstanding request; a
master port that is not the source sends Sync with the interval of LOG_SYNC and a master or source port sends
Pdelay_Req with interval 0, with the next sequence number; a PPS source silent for 1.5 s, or a Sync source for four
Sync intervals, is lost: once counted in DGT_TEV_TIME, it leaves LOCKED for HOLDOVER and any other state for ACQUIRE,
and a source not silent for so long is not lost. (09 Synchronization, R239, R240, R242 to R246; 08 Determinism, R218.) -/
def Obligations.TimeSourcesMeasureOffsets : Prop :=
  ∀ (s : State) (port : BitVec 9) (domain : Byte), s.mach.running = true →
    let m := s.mach
    let f := port.toNat
    (m.fld Reg.TIM_CTL 1 0 = 1 →
      let sec := m.now / 10 ^ 9 / 2 ^ 32 * 2 ^ 32 + (m.rd Reg.TIM_PPS_SEC).toNat
      exec .ppsEdge s = .next { s with mach := m.measure (((sec * 10 ^ 9 * nsUnit : Nat) : Int) - (m.time.acc : Int)) }) ∧
    (m.fld Reg.TIM_CTL 1 0 ≠ 1 → exec .ppsEdge s = .next s) ∧
    (m.sourceSilent = false → exec .sourceLoss s = .next s) ∧
    (m.time.lost = false →
      (m.fld Reg.TIM_CTL 1 0 = 1 ∧ m.time.heard + 1500000000 ≤ m.advNs ∨
        m.fld Reg.TIM_CTL 1 0 = 2 ∧ 4 * 10 ^ 9 ≤ (m.advNs - m.time.heard) * 2 ^ m.fld Reg.TIM_CTL 26 24) →
      let m1 : Mach := { m with time := { m.time with lost := true, locked := 0 } }
      exec .sourceLoss s = .next { s with
        mach := (m1.countWrap Reg.DGT_TEV_TIME).timGo (if m.timState = 2 then 3 else 1) 1 0 }) ∧
    (m.timePort f = true → domain.toNat = m.fld Reg.TIM_CTL 23 16 →
      (∀ sec ns corr, m.sourcePort f = true → ∀ d, m.time.peerDelay.find? (fun x => x.1 == f) = some (f, d) →
        let origin : Int := ((sec.toNat * 10 ^ 9 + ns.toNat) * nsUnit : Nat) + corr.toInt * 1000000
        exec (.sync port domain 0x531 sec ns corr false) s =
          .next { s with mach := m.measure (origin + d - (m.time.acc : Int)) }) ∧
      (∀ domain sdo sec ns corr replayed, (replayed = true ∨ m.isSource f = false) →
        exec (.sync port domain sdo sec ns corr replayed) s = .next { s with mach := m.count Reg.TIM_ERR_CNT }) ∧
      (∀ seq identity,
        let c := m.draw 64
        let r := c.2.ptpMessage f 3 c.1 seq.toNat 127 0 (leBytes 10 identity.toNat).reverse
        exec (.pdelayReq port domain 0x531 seq identity false) s = .next { s with mach := r.2.sendTime f r.1 }) ∧
      (∀ corr t, m.time.pdelaySent.find? (fun x => x.1 == f) = some (f, t) →
        let delay : Int := (((m.time.acc : Int) - (t : Int)) - corr.toInt * 1000000) / 2
        let time : TimeSt := { m.time with
          peerDelay := (f, delay) :: m.time.peerDelay.filter fun x => x.1 != f
          pdelaySent := m.time.pdelaySent.filter fun x => x.1 != f }
        exec (.pdelayResp port domain 0x531 corr false) s = .next { s with mach := { m with time := time } })) ∧
    (m.timePort f = true → m.isMaster f = true → m.isSource f = false →
      let r := m.ptpMessage f 0 m.frac m.time.syncSeq (-(m.fld Reg.TIM_CTL 26 24 : Int)) m.now []
      let m1 : Mach := { r.2 with time := { r.2.time with syncSeq := (r.2.time.syncSeq + 1) % 65536 } }
      exec (.syncSend port) s = .next { s with mach := m1.sendTime f r.1 }) ∧
    (m.timePort f = true → (m.isMaster f = true ∨ m.isSource f = true) →
      let r := m.ptpMessage f 2 0 m.time.syncSeq 0 0 (List.replicate 10 0)
      let time : TimeSt := { r.2.time with
        syncSeq := (r.2.time.syncSeq + 1) % 65536
        pdelaySent := (f, m.time.acc) :: m.time.pdelaySent.filter fun x => x.1 != f }
      let m1 : Mach := { r.2 with time := time }
      exec (.pdelaySend port) s = .next { s with mach := m1.sendTime f r.1 })

/-- A write of TIM_CAL_CTL takes EN and COUNT, which applies a held step if no entry runs then; with ARM it captures
COUNT, TIM_CAL_BASE and TIM_CAL_SWITCH and sets ARMED, a malformed inactive bank sets REFUSED instead, and an armed
switch leaves it counted in TIM_ERR_CNT. At the first cycle boundary of the bank in force at or after the switch time,
or at the switch time when that bank has no cycle, the inactive bank becomes active with the captured count and base,
ARMED clears, and a held step applies if no entry runs then; before, nothing changes. At an entry start a held step
applies once the entry in which it was held has ended, and else a marked entry raises CAL_MARK with its index and
bank, once. A refresh is forced past a calendar entry that forbids it and counted in DGT_TEV_REFRESH; any other
refresh changes nothing that this model holds. (09 Synchronization, R248, R249, R251, R253, R254, R257; 08
Determinism, R218.) -/
def Obligations.CalendarBanksSwitchAtTheirTime : Prop :=
  ∀ (s : State),
    let m := s.mach
    (∀ value : Word, Writable s Reg.TIM_CAL_CTL →
      let m1 := (m.writeRw Reg.TIM_CAL_CTL 0x80001FFF value.toNat).releaseStep
      let count := m1.fld Reg.TIM_CAL_CTL 12 0
      let m2 := m1.unfence fun x => x == .calendar (1 - m1.calActive)
      let arm : CalArm :=
        ⟨count, m2.rd64 Reg.TIM_CAL_BASE_LO Reg.TIM_CAL_BASE_HI, m2.rd64 Reg.TIM_CAL_SWITCH_LO Reg.TIM_CAL_SWITCH_HI, m2.now⟩
      let armed : Mach := { (m2.setFlag Reg.TIM_CAL_CTL 28 false).setFlag Reg.TIM_CAL_CTL 30 true with
        time := { m2.time with arm := some arm, calFresh := [] } }
      (bitOf value.toNat 30 = false → exec (.calEnWrite value) s = .next { s with mach := m1 }) ∧
      (bitOf value.toNat 30 = true → m1.time.arm = none →
        exec (.calArm value) s = .next { s with
          mach := if m1.bankBad (1 - m1.calActive) count then m1.setFlag Reg.TIM_CAL_CTL 28 true else armed }) ∧
      (bitOf value.toNat 30 = true → m1.time.arm ≠ none →
        exec (.calArm value) s = .next { s with mach := m1.count Reg.TIM_ERR_CNT })) ∧
    (s.mach.running = true →
      (∀ a, m.time.arm = some a → m.switchNs a ≤ m.now →
        let m1 := ((m.setFlag Reg.TIM_CAL_CTL 30 false).setFld Reg.TIM_CAL_CTL 29 29 (1 - m.calActive)).setFld
          Reg.TIM_CAL_CTL 25 13 a.count
        exec .bankSwitch s = .next { s with
          mach := Mach.releaseStep { m1 with time := { m1.time with base := a.base, arm := none } } }) ∧
      (∀ a, m.time.arm = some a → m.now < m.switchNs a → exec .bankSwitch s = .next s) ∧
      (∀ a, let from_ := max a.switchAt a.armedAt
        (m.hasCycle m.cal = false → m.switchNs a = from_) ∧
        (m.hasCycle m.cal = true → 0 < m.calLen → from_ ≤ m.switchNs a ∧ m.switchNs a < max from_ m.time.base + m.calLen ∧
          ∃ cycles, m.switchNs a = m.time.base + cycles * m.calLen)) ∧
      (Unspoiled m → ∀ h, m.time.held = some h → m.runningEntry = none ∨ m.time.heldEnd ≤ m.now →
        exec (.calEntryStart .none) s = .next { s with mach := (m.stepNow h).entrySeen }) ∧
      (Unspoiled m → ∀ h i left, m.time.held = some h → m.runningEntry = some (i, left) → m.now < m.time.heldEnd →
        exec (.calEntryStart .none) s = .next s) ∧
      (Unspoiled m → m.time.held = none → ∀ i left, m.runningEntry = some (i, left) →
        exec (.calEntryStart .none) s = .next { s with
          mach := if m.entryStart = m.time.entryBegan then m
            else if bitOf (m.calWord m.calActive i 1) 28 then m.entrySeen.timeEvent 0x13 0 0 4 i m.calActive 0
            else m.entrySeen }) ∧
      (Unspoiled m → m.time.held = none → m.runningEntry = none → exec (.calEntryStart .none) s = .next s) ∧
      (∀ forced, exec (.hbmRefresh forced) s = .next { s with
        mach := if forced = true ∧ m.calPermits 31 = false then m.countWrap Reg.DGT_TEV_REFRESH else m }))

/-- While the data path runs, on a linked port and a flit whose CRC-32 holds and that carries no acknowledgement: the
expected SEQ is accepted and the next expected, an earlier SEQ within the replay depth changes nothing; a flit that
fails its CRC counts in TRL_CRC_CNT and sends a NAK; the groups that came with a flit are taken first. A NAK of a SEQ
in the replay buffer, none of whose flits has reached the retry limit, resends that flit and all after it in order,
counts one retry, and drops nothing; one whose flits have been resent to the limit takes the port DOWN; a NAK of
another SEQ changes nothing. ACK timeout at the sender resends the whole buffer, at a receiver that is naking sends
the NAK again. A LINK flit takes its credit, then its NAK, then its request; QUIESCE, RESUME and the DOWN notice act
from a partner of revision 3 and change nothing from one below it. (10 Trovor link, R259 to R261, R266, R268, R271 to
R274, R280.) -/
def Obligations.LinkFlitsAreAcceptedOnceAndInOrder : Prop :=
  ∀ (s : State) (port : BitVec 9) (p : Port), s.mach.running = true → s.mach.port? port.toNat = some p → p.linked = true →
    let m := s.mach
    let f := port.toNat
    let resent (i : Nat) : Mach :=
      let again := (p.replay.drop i).map fun x => { x with tries := x.tries + 1 }
      let m1 := (m.modPort f fun q => { q with replay := q.replay.take i ++ again }).count (Reg.TRL_RETRY_CNT f)
      again.foldl (fun a x => a.sendData f x) (m1.countWrap Reg.DGT_TEV_RETRY)
    let fresh (i : Nat) : Prop := p.replay.drop i ≠ [] ∧
      ∀ x ∈ p.replay.drop i, x.tries < max 1 (m.fld (Reg.TRL_REPLAY_CFG f) 19 16)
    (∀ flit, leNat (flit.drop 252) = crc32 (flit.take 252) →
      let w := leNat (flit.take 4)
      let seq := bits w 28 17
      (bits w 31 29 = 1 ∨ bits w 31 29 = 2) → bitOf w 4 = false →
      (seq = p.rxNext → exec (.flitRx port flit false []) s = .next { s with mach := m.modPort f fun q => { q with
        rxNext := (seq + 1) % 4096, rxAny := true, naking := false
        rxPart := if bitOf w 3 then 0 else q.rxPart + 1
        rxBytes := if bitOf w 3 then [] else q.rxBytes ++ (flit.drop 4).take 248 } }) ∧
      (seq ≠ p.rxNext → p.rxAny = true → seqOld (replayDepth p.width) p.rxNext seq = true → exec (.flitRx port flit false []) s = .next s)) ∧
    (∀ flit, exec (.flitRx port flit true []) s = .next { s with
      mach := ((m.count (Reg.TRL_CRC_CNT p.first)).modPort p.first fun q => { q with naking := true }).sendLink p.first true 0 }) ∧
    (∀ flit failed groups, exec (.flitRx port flit failed groups) s = .next { s with
      mach := (groups.foldl (fun a x => a.groupRx x.1.toNat x.2) m).flitRx f flit failed }) ∧
    (∀ (seq : BitVec 12) i, p.replay.findIdx? (fun x => x.seq == seq.toNat) = some i →
      (∃ x ∈ p.replay.drop i, max 1 (m.fld (Reg.TRL_REPLAY_CFG f) 19 16) ≤ x.tries) →
      exec (.nakRx port seq) s = .next { s with mach := m.portDown s.store f }) ∧
    (∀ (seq : BitVec 12) i, p.replay.findIdx? (fun x => x.seq == seq.toNat) = some i → fresh i →
      exec (.nakRx port seq) s = .next { s with mach := resent i }) ∧
    (∀ seq : BitVec 12, (∀ x ∈ p.replay, x.seq ≠ seq.toNat) → exec (.nakRx port seq) s = .next s) ∧
    (fresh 0 → exec (.ackTimeout port false) s = .next { s with mach := resent 0 }) ∧
    (p.naking = true → exec (.ackTimeout port true) s = .next { s with mach := m.sendLink f true 0 }) ∧
    (∀ msg : LinkMsg,
      let m1 := m.modPort f fun q => q.takeCredit (msg.creditRet.map (·.toNat))
      exec (.linkFlit port msg) s = .next { s with
        mach := (if msg.nak then m1.nak s.store f msg.nakSeq.toNat else m1).linkReq s.store f msg.req.toNat }) ∧
    (3 ≤ p.negRev →
      exec (.quiesce port) s = .next { s with mach := m.modPort f fun q => { q with quiesced := true } } ∧
      exec (.resume port) s = .next { s with mach := m.modPort f fun q => { q with quiesced := false } } ∧
      exec (.downNotice port) s = .next { s with mach := m.portDown s.store f }) ∧
    (p.negRev < 3 → exec (.quiesce port) s = .next s ∧ exec (.resume port) s = .next s ∧ exec (.downNotice port) s = .next s)

/-- While the data path runs, on a port that is exchanging: the first valid IDENT is recorded with the negotiated revision
and answered, an invalid one changes nothing; a resend sends the IDENT again before any message after it, and those
after it together once they were sent; without any IDENT the timeout takes the port DOWN. While a challenge is out, a
KEY whose SM3 digest begins with the partner's UID is kept and any other fails the port, a RESPONSE that verifies
under it authenticates it and any other fails it, and so does the timeout. A CHALLENGE is answered with the unit's
public key and, unless the security fence is in force, a signature. DONE resets sequence numbers and credit counts and
takes the partner's credit, and ends the exchange when the module's own DONE has gone out. (10 Trovor link, R278,
R279, R281; 20 Security, R508, R509.) -/
def Obligations.IdentityExchangeGoesStepByStep : Prop :=
  ∀ (s : State) (port : BitVec 9) (p : Port), s.mach.running = true → s.mach.port? port.toNat = some p →
    p.usable = false → p.exchanging = true →
    let m := s.mach
    let f := port.toNat
    let failed : State := { s with mach := m.authFail s.store f }
    (∀ msg, identValid msg = true → p.partnerSeen = false → msg.peerSeen = false →
      let m1 := m.modPort f fun q => { q with ident := some msg, partnerSeen := true, negRev := min 3 msg.revMax.toNat }
      exec (.ident port msg) s = .next { s with mach := m1.sendIdent f }) ∧
    (∀ msg, identValid msg = false → exec (.ident port msg) s = .next s) ∧
    (p.idSent = [] → exec (.identResend port) s = .next { s with mach := m.sendIdent p.first }) ∧
    (p.idSent ≠ [] → exec (.identResend port) s = .next { s with
      mach := p.idSent.foldl (fun a x => a.idMsg p.first x.1 x.2) m }) ∧
    (p.partnerSeen = false → exec (.identTimeout port) s = .next { s with mach := m.portDown s.store f }) ∧
    (p.authState = 3 →
      (∀ key, (sm3 key).take 16 = uidBytes (p.ident.getD {}) →
        exec (.linkKey port key) s = .next { s with mach := m.modPort f fun q => { q with peerKey := key } }) ∧
      (∀ key, (sm3 key).take 16 ≠ uidBytes (p.ident.getD {}) → exec (.linkKey port key) s = .next failed) ∧
      (∀ sig, let i := p.ident.getD {}
        sm2Verify p.peerKey (uidBytes i) (challengeText p.nonce i (m.ownIdent p)) sig = true →
        exec (.response port sig) s =
          .next { s with mach := (m.modPort f fun q => { q with authState := 1 }).finishAuth s.store f }) ∧
      (∀ sig, let i := p.ident.getD {}
        sm2Verify p.peerKey (uidBytes i) (challengeText p.nonce i (m.ownIdent p)) sig = false →
        exec (.response port sig) s = .next failed) ∧
      exec (.authTimeout port) s = .next failed) ∧
    (∀ nonce i, p.ident = some i →
      let m1 := m.sendIdMsg f 1 unitKey
      let d := m1.draw 256
      exec (.challenge port nonce) s = .next { s with
        mach := if m.flt.fences.contains 37 then m1
          else d.2.sendIdMsg f 3 (sm2Sign (d.1 % (sm2N - 1) + 1) (challengeText nonce (m.ownIdent p) i)) }) ∧
    (∀ i, p.ident = some i → p.partnerSeen = true → p.doneRcvd = false →
      let m1 := m.modPort f fun q => { q with
        doneRcvd := true, txSeq := 0, rxNext := 0, rxAny := false, replay := [], retSeen := List.replicate 8 0, retOut := List.replicate 8 0,
        retSent := List.replicate 8 0, credit := i.credit.map (·.toNat) }
      exec (.linkDone port) s = .next { s with mach := if p.doneSent then m1.exchangeEnd s.store f else m1 })

/-- A write of TRL_FI_CTL that is taken sets its RW fields; MODE 0 disarms the port, a MODE above 4 reads back as 0 and
disarms it, and GO with MODE 1 to 4 arms it with its count at 0. While the data path runs, the reorder timeout sends
the oldest packet that the port's injection holds and changes nothing when it holds none. (10 Trovor link, R288, R289;
22 Register map, R547.) -/
def Obligations.LinkFaultInjectionArmsAndReordersPackets : Prop :=
  (∀ (s : State) (port : BitVec 9) (value : Word), Writable s (Reg.TRL_FI_CTL port.toNat) →
    let f := port.toNat
    let m1 := s.mach.writeRw (Reg.TRL_FI_CTL f) 0x7F0007FF value.toNat
    let mode := bits value.toNat 30 28
    (mode = 0 → exec (.trlFiGo port value) s = .next { s with mach := m1.modPort f fun q => { q with fiArmed := false } }) ∧
    (4 < mode → exec (.trlFiGo port value) s = .next { s with
      mach := (m1.setFld (Reg.TRL_FI_CTL f) 30 28 0).modPort f fun q => { q with fiArmed := false } }) ∧
    (0 < mode → mode ≤ 4 → bitOf value.toNat 31 = true → exec (.trlFiGo port value) s = .next { s with
      mach := m1.modPort f fun q => { q with fiArmed := true, fiCount := 0 } }) ∧
    (0 < mode → mode ≤ 4 → bitOf value.toNat 31 = false → exec (.trlFiGo port value) s = .next { s with mach := m1 })) ∧
  (∀ (s : State) (port : BitVec 9) (p : Port), s.mach.running = true → s.mach.port? port.toNat = some p →
    (p.fiHeld = [] → exec (.reorderTimeout port) s = .next s) ∧
    (∀ h t, p.fiHeld = h :: t → exec (.reorderTimeout port) s = .next { s with
      mach := (s.mach.modPort port.toNat fun q => { q with fiHeld := t }).sendPacket port.toNat h.pkt h.routed h.badFrom }))

/-- A write of LNE_LANE_CTL that is taken acts on its lane, then sets STATE_REQ. RETRAIN of a lane whose domain is on and
that no port holds clears what failed, was dropped or flapped and trains it; of one outside its port's mask wakes the
port too, of an active one it is first dropped, unless too few lanes would be left: refused with cause 1; with the
domain off it is refused with cause 2. CAL owes 4,000 slices and takes the lane out of LS0, and is refused on an
active lane with cause 0. DROP of an active lane marks it dropped, counts it, raises its event with the mask after it,
narrows its port and sends LOCK groups; DROP of any other changes nothing. REJOIN clears a lane's marks and, of one in
LS0 outside its linked port's mask, starts its widening, with the calendar enabled at the next CAL entry. LS1 or LS2
of a lane in LS0 that is not active sends its command twice and takes the lane there; LS0 takes a resting lane back; a
request of LS1 or LS2 for an active lane changes nothing. (11 Lanes, R310, R311, R314, R319, R322, R323, R327, R328.) -/
def Obligations.LaneControlWritesActOnOneLane : Prop :=
  ∀ (s : State) (lane : BitVec 9), Writable s (Reg.LNE_LANE_CTL lane.toNat) → ∀ (req : BitVec 2),
    let m := s.mach
    let n := lane.toNat
    let v := req.toNat
    let after (m1 : Mach) : State := { s with mach := m1.stateReq n v }
    let clean (x : LaneX) : LaneX := { x with flapped := false, dropped := false, failed := false, restarts := 0 }
    (m.domainOff (n / 16) = false → m.portOf? n = none →
      exec (.laneRetrain lane (BitVec.ofNat 32 (0x80 + v))) s = .next (after ((m.modLane n clean).laneTrain n false))) ∧
    (m.domainOff (n / 16) = true →
      exec (.laneRetrain lane (BitVec.ofNat 32 (0x80 + v))) s = .next (after (m.laneRefuse n 2))) ∧
    (m.laneActive n = false → m.domainOff (n / 16) = false → m.laneOn n = true → m.underTest n = false →
      exec (.laneCal lane (BitVec.ofNat 32 (0x40 + v))) s =
        .next (after ((m.modLane n fun x => { x with calLeft := 4000 }).setLstate n 3 0))) ∧
    (m.laneActive n = true →
      exec (.laneCal lane (BitVec.ofNat 32 (0x40 + v))) s = .next (after (m.laneRefuse n 0)) ∧
      ∀ p, m.portOf? n = some p →
        let keep := 255 - 2 ^ (n - p.first)
        let m1 := (m.modLane n fun x => { x with dropped := true }).setFld (Reg.LNE_LANE_STATUS n) 31 28 7
        let left := (((m1.count (Reg.LNE_DROP_CNT n)).laneEventAs n 7 (m.maskAfter p keep)).narrow s.store p.first keep).sendLock n
        exec (.laneDrop lane (BitVec.ofNat 32 (0x20 + v))) s = .next (after left) ∧
        (m.domainOff (n / 16) = false →
          exec (.laneRetrain lane (BitVec.ofNat 32 (0x80 + v))) s =
            .next (after (if maskWidth (p.mask &&& keep) < m.minLanes p then m.laneRefuse n 1
              else (left.modLane n clean).laneTrain n false)))) ∧
    (∀ p, m.domainOff (n / 16) = false → m.portOf? n = some p → m.laneActive n = false →
      exec (.laneRetrain lane (BitVec.ofNat 32 (0x80 + v))) s =
        .next (after (((m.modLane n clean).laneTrain n false).portWake p.first))) ∧
    (m.laneActive n = false → exec (.laneDrop lane (BitVec.ofNat 32 (0x20 + v))) s = .next (after m)) ∧
    (let m1 := m.modLane n fun x => { x with flapped := false, dropped := false };
      (m.portOf? n = none → exec (.laneRejoin lane (BitVec.ofNat 32 (0x10 + v))) s = .next (after m1)) ∧
      (∀ p, m.portOf? n = some p →
        exec (.laneRejoin lane (BitVec.ofNat 32 (0x10 + v))) s = .next (after
          (if m.lstate n = 0 ∧ p.linked = true ∧ bitOf p.mask (n - p.first) = false then
            (if m.flag Reg.TIM_CAL_CTL 31 then m1.modLane n fun x => { x with wantJoin := true } else m1.widen n)
          else m1)))) ∧
    (m.laneActive n = false → m.lstate n = 0 →
      exec (.ls1Req lane 1) s = .next { s with
        mach := (((m.setFld (Reg.LNE_LANE_CTL n) 1 0 1).emit (.laneCmd n 5 0)).emit (.laneCmd n 5 0)).setLstate n 1 0 } ∧
      exec (.ls2Req lane 2) s = .next { s with
        mach := (((m.setFld (Reg.LNE_LANE_CTL n) 1 0 2).emit (.laneCmd n 6 0)).emit (.laneCmd n 6 0)).setLstate n 2 0 }) ∧
    (m.laneActive n = true → exec (.ls1Req lane 1) s = .next s ∧ exec (.ls2Req lane 2) s = .next s) ∧
    exec (.ls0Req lane 0) s = .next { s with mach := (m.setFld (Reg.LNE_LANE_CTL n) 1 0 0).laneExit n }

/-- While lanes run: signal on a dark lane sets SIG_DET and, in LS3 outside calibration and test, starts training with the
restart count cleared; a well-formed training frame of a lane in training is taken into its status, answered and
followed through the steps, or fails the lane with cause 5 when its LPOS is wrong, and a malformed one changes
nothing; group alignment in the last training step enters LS0 in step 7 with LOCK groups, stores the taps and the SNR,
clears the restart count and lets the lane's port wake and start its exchange; a training timeout below the restart
limit trains again and counts, at the limit fails the lane with cause 4 and its event; a missed LS exit trains in
full; CMD LS1 and CMD LS2 rest a lane that is not active; a port's training timeout is remembered, and the exchange
starts once all its lanes, or after it enough, are in LS0 and neither flapped nor dropped. (11 Lanes, R304 to R310,
R317.) -/
def Obligations.LaneTrainingGoesFromSignalToData : Prop :=
  ∀ (s : State) (lane : BitVec 9), LanesRun s →
    let m := s.mach
    let n := lane.toNat
    let woken (m1 : Mach) (g : Mach → Port → Mach) : State := { s with mach := match m1.portOf? n with
      | some p => g (m1.portWake p.first) p
      | none => m1 }
    (m.sigDet n = false → m.domainOff (n / 16) = false → m.lstate n = 3 → (m.lane n).calLeft = 0 → m.underTest n = false →
      let m1 := (m.setFlag (Reg.LNE_LANE_STATUS n) 27 true).modLane n fun x => { x with restarts := 0 }
      exec (.signalDetect lane) s = .next (woken (m1.laneTrain n (m.lane n).short) fun a _ => a)) ∧
    (m.sigDet n = true → exec (.signalDetect lane) s = .next s) ∧
    (∀ (head : List (BitVec 2)) (inverted : Bool) (control status want : Word) (ready : Bool),
      readFrame head = some (inverted, control, status) → m.lstate n = 3 → 1 ≤ m.trainStep n → m.trainStep n ≤ 5 →
      m.laneOn n = true →
      let ctl := control.toNat
      let m1 := (m.setFld (Reg.LNE_LANE_STATUS n) 25 23 (bits ctl 21 19)).setFlag (Reg.LNE_LANE_STATUS n) 22 inverted
      (m.lposBad n (bits ctl 21 19) = true →
        exec (.trainingFrame lane head ready want) s = .next { s with mach := m1.laneFail s.store n 5 }) ∧
      (m.lposBad n (bits ctl 21 19) = false →
        let short := (m.lane n).short
        let m2 := (m1.setFld (Reg.LNE_LANE_STATUS n) 20 20 (bits status.toNat 25 25)).answerRequest n ctl
        let m3 := m2.nextRequest n status.toNat (if short then setBits (want.toNat &&& 2 ^ 23) 22 22 1
          else setBits want.toNat 22 22 (b2n ready))
        let seen := if bitOf ctl 22 && bitOf status.toNat 24 then (m3.lane n).readySeen + 1 else 0
        let m4 := m3.modLane n fun x => { x with readySeen := seen }
        let mine := bitOf (m4.lane n).request 22
        let step := if 0 < seen ∧ mine = true then (if m.trainStep n ≤ 3 then 4 else 5)
          else if m.trainStep n = 1 ∨ short = true then 2 else 3
        exec (.trainingFrame lane head ready want) s = .next { s with
          mach := if 64 ≤ seen ∧ mine = true then (m4.setLstate n 3 6).emit (.laneCmd n 4 0)
            else (m4.setLstate n 3 step).sendFrame n })) ∧
    (∀ head ready want, readFrame head = none → exec (.trainingFrame lane head ready want) s = .next s) ∧
    (∀ snr : BitVec 16, m.lstate n = 3 → m.trainStep n = 6 →
      let m1 := ((m.setLstate n 0 7).emit (.laneCmd n 4 0)).wr (Reg.LNE_STORED_COEF n) (m.rd (Reg.LNE_TX_COEF n))
      let m2 := (m1.setFld (Reg.LNE_RX_SNR n) 15 0 snr.toNat).modLane n fun x => { x with restarts := 0, short := false }
      exec (.groupAlignment lane snr) s = .next (woken m2 fun a p => a.tryExchange p.first)) ∧
    (m.lstate n = 3 → m.trainStep n ≠ 0 →
      let limit := bits (m.lane n).tcfg 15 12
      ((m.lane n).restarts < limit → exec (.trainTimeout lane) s = .next { s with
        mach := (m.laneTrain n false).modLane n fun y => { y with restarts := (m.lane n).restarts + 1 } }) ∧
      (limit ≤ (m.lane n).restarts →
        let m1 := (m.modLane n fun y => { y with failed := true }).setLstate n 3 0
        exec (.trainTimeout lane) s = .next { s with
          mach := (m1.setFld (Reg.LNE_LANE_STATUS n) 31 28 4).laneEvent n 4 })) ∧
    ((m.lane n).short = true → m.lstate n = 3 →
      exec (.lsExitTimeout lane) s = .next { s with mach := m.laneTrain n false }) ∧
    (m.laneActive n = false →
      (m.lstate n = 0 → exec (.cmdLs1 lane) s = .next { s with mach := m.setLstate n 1 0 }) ∧
      (m.lstate n ≤ 1 → exec (.cmdLs2 lane) s = .next { s with mach := m.setLstate n 2 0 })) ∧
    (m.laneActive n = true → exec (.cmdLs1 lane) s = .next s ∧ exec (.cmdLs2 lane) s = .next s) ∧
    (∀ (port : BitVec 9) (p : Port), m.port? port.toNat = some p →
      (p.state = .training → p.exchanging = false → exec (.portTrainTimeout port) s = .next { s with
        mach := (m.modPort p.first fun q => { q with late := true }).tryExchange p.first }) ∧
      (p.state ≠ .training ∨ p.exchanging = true → exec (.portTrainTimeout port) s = .next s)) ∧
    (∀ (f : Nat) (p : Port), m.port? f = some p → p.state = .training → p.exchanging = false → m.running = true →
      9 ≤ m.stage →
      let mask := bitsMask (indicesOf (fun l => m.lstate l == 0 && !(m.lane l).flapped && !(m.lane l).dropped) p.lanes)
      (p.late = true ∨ ∀ l ∈ p.lanes, m.lstate l = 0) →
      m.tryExchange f = if m.minLanes p ≤ maskWidth mask then m.exchangeStart f mask else m)

/-- While lanes run: loss of signal clears SIG_DET and fails a lane that is on, had signal and expects no silence with
cause 1; loss of alignment in LS0 or while aligning fails it with cause 2; an uncorrectable codeword counts, puts 16
into the peak and is kept for the window, whose settings are those of its first codeword (log 71), and an active lane
with more than the limit in the window fails with cause 3; in any other state, or at a limit of 0, a lane is not
failed for it. A calibration slice that the calendar permits and that has 500 ns counts down what is owed, and the
last one trains the lane from its stored taps and raises cause 9. A lane in LS0 outside its linked port's mask that
waits to rejoin, or that AUTO_REJOIN takes and that was neither dropped nor flapped, is taken back, with the calendar
enabled at the start of an entry with CAL; any other lane changes nothing. (11 Lanes, R312 to R314, R319, R320, R322.) -/
def Obligations.LanesFailRecoverAndCalibrate : Prop :=
  ∀ (s : State) (lane : BitVec 9), LanesRun s →
    let m := s.mach
    let n := lane.toNat
    let st := s.store
    (let dark := m.setFlag (Reg.LNE_LANE_STATUS n) 27 false
      let silent := m.lstate n = 1 ∨ m.lstate n = 2 ∨ (m.lane n).calLeft ≠ 0
      (m.laneOn n = true → ¬silent → (m.lane n).failed = false → (m.lstate n = 0 ∨ m.sigDet n = true) →
        exec (.los lane) s = .next { s with mach := (dark.laneFail st n 1).darkPort st n }) ∧
      ((m.laneOn n = false ∨ silent ∨ (m.lane n).failed = true) → exec (.los lane) s = .next { s with mach := dark })) ∧
    ((m.lstate n = 0 ∨ m.trainStep n = 6) →
      exec (.lossOfAlignment lane) s = .next { s with mach := m.laneFail st n 2 }) ∧
    (m.lstate n ≠ 0 → m.trainStep n ≠ 6 → exec (.lossOfAlignment lane) s = .next s) ∧
    (let x := m.lane n
     let within (cfg : Nat) : List Nat := x.uncorr.filter fun t => decide (m.now - t ≤ 10000 * bits cfg 7 0)
     let cfg := if within x.ucfg = [] then (m.rd Reg.LNE_TRAIN_CFG).toNat else x.ucfg
     let limit := bits cfg 11 8
     let recent := within x.ucfg ++ [m.now]
     let m1 := ((m.count (Reg.LNE_FEC_UNCORR_CNT n)).setFld (Reg.LNE_FEC_PEAK n) 15 0 16).modLane n fun y => { y with
       uncorr := recent, ucfg := cfg }
     ((limit = 0 ∨ recent.length ≤ limit ∨ m.laneActive n = false) →
        exec (.uncorrectableCodeword lane) s = .next { s with mach := m1 }) ∧
     (limit ≠ 0 → limit < recent.length → m.laneActive n = true →
        exec (.uncorrectableCodeword lane) s = .next { s with
          mach := (m1.modLane n fun x => { x with uncorr := [] }).laneFail st n 3 })) ∧
    ((m.lane n).calLeft ≠ 0 → m.calPermits 30 = true → (∀ i left, m.runningEntry = some (i, left) → 500 ≤ left) →
      let m1 := m.modLane n fun x => { x with calLeft := x.calLeft - 1 }
      exec (.calSlice lane) s = .next { s with
        mach := if (m.lane n).calLeft = 1 then (m1.laneTrain n true).laneEvent n 9 else m1 }) ∧
    ((m.lane n).calLeft = 0 → exec (.calSlice lane) s = .next s) ∧
    (∀ p, m.portOf? n = some p → m.lstate n = 0 → p.linked = true → bitOf p.mask (n - p.first) = false →
      let may := (m.lane n).wantJoin = true ∨
        (bitOf (m.lane n).cfg 6 = true ∧ (m.lane n).dropped = false ∧ (m.lane n).flapped = false)
      let now := m.flag Reg.TIM_CAL_CTL 31 = false ∨ (m.entryStarts = true ∧ m.calPermits 30 = true)
      (may → now → exec (.autoRejoin lane) s = .next { s with mach := m.widen n }) ∧
      (¬(may ∧ now) → exec (.autoRejoin lane) s = .next s)) ∧
    (∀ p, m.portOf? n = some p → (m.lstate n ≠ 0 ∨ p.linked = false ∨ bitOf p.mask (n - p.first) = true) →
      exec (.autoRejoin lane) s = .next s) ∧
    (m.portOf? n = none → exec (.autoRejoin lane) s = .next s)

/-- While lanes run, on a port that carries lanes: WIDTH with at least MIN_WIDTH lanes is acknowledged, wakes its lanes
and switches to its mask, one with fewer takes the port DOWN; against a WIDTH of the port's own that is outstanding
both masks are combined and the switch waits. For a change the port started, WIDTH_ACK of its mask, or of a smaller
one within it, switches to it, or takes the port DOWN when too few lanes are left; any other mask changes nothing, and
the timeout before it takes the port DOWN. NEWW sets the receive mask and, with the mask of a change, ends that change
when the rest has come. (11 Lanes, R315 to R318, R321.) -/
def Obligations.LinkWidthChangesAreAgreed : Prop :=
  ∀ (s : State) (port : BitVec 9) (p : Port) (mask : Byte), LanesRun s → s.mach.port? port.toNat = some p →
    let m := s.mach
    let f := port.toNat
    (p.laned = true →
      (p.widthX = none →
        let new := mask.toNat % 2 ^ p.width
        (m.minLanes p ≤ maskWidth new →
          let m1 := m.modPort f fun q => { q with widthX := some { mask := new, initiator := false, waiting := 0, old := p.mask } }
          let m2 := (setBitsOf 8 new).foldl (fun a i => a.laneExit (p.first + i)) (m1.maskCmd p cmdWidthAck new)
          exec (.width port mask) s = .next { s with mach := m2.switchMask f new }) ∧
        (maskWidth new < m.minLanes p → exec (.width port mask) s = .next { s with mach := m.portDown s.store f })) ∧
      (∀ x, p.widthX = some x → x.initiator = true → x.acked = false →
        let new := x.mask &&& (mask.toNat % 2 ^ p.width)
        m.minLanes p ≤ maskWidth new →
          let m1 := m.modPort f fun q => { q with
            widthX := some { mask := new, initiator := true, waiting := x.waiting, old := x.old } }
          exec (.width port mask) s = .next { s with
            mach := (setBitsOf 8 new).foldl (fun a i => a.laneExit (p.first + i)) (m1.maskCmd p cmdWidthAck new) }) ∧
      (let m1 := m.modPort f fun q => { q with rxMask := mask.toNat };
        (∀ x, p.widthX = some x →
          (x.mask = mask.toNat → exec (.neww port mask) s = .next { s with
            mach := (m1.modPort f fun q => { q with widthX := some { x with gotNeww := true } }).widthEnd f }) ∧
          (x.mask ≠ mask.toNat → exec (.neww port mask) s = .next { s with mach := m1 })) ∧
        (p.widthX = none → exec (.neww port mask) s = .next { s with mach := m1 }))) ∧
    (∀ x, p.widthX = some x → x.initiator = true →
      let new := mask.toNat
      let less := x.mask &&& new = new ∧ x.mask ≠ new
      (less ∨ (x.acked = false ∧ x.mask = new) →
        (m.minLanes p ≤ maskWidth new →
          let m1 := m.modPort f fun q => { q with widthX := some { x with acked := true, mask := new } }
          exec (.widthAck port mask) s = .next { s with mach := (m1.switchMask f new).widthEnd f }) ∧
        (maskWidth new < m.minLanes p → exec (.widthAck port mask) s = .next { s with mach := m.portDown s.store f })) ∧
      (¬(less ∨ (x.acked = false ∧ x.mask = new)) → exec (.widthAck port mask) s = .next s) ∧
      (x.acked = false → exec (.widthTimeout port) s = .next { s with mach := m.portDown s.store f }) ∧
      (x.acked = true → exec (.widthTimeout port) s = .next s)) ∧
    (p.widthX = none → exec (.widthAck port mask) s = .next s ∧ exec (.widthTimeout port) s = .next s)

/-- A write of LNE_LANE_CFG that changes neither EN nor PORT_CODE only stores its fields; one that changes them is applied
at once where no port or a port not in use holds the lane, and else held by the port, and LAYOUT_APPLY applies what
the port held once it may. A PRBS test of an active lane is refused with cause 0, on a lane that is off with cause 2;
of any other lane it takes the lane to LS3, starts the generator and clears LOCK when their pattern changes, and GO
with INJ 1 or 2 and a generator starts one injection or a periodic one (at a symbol that the spec leaves open, log
71), which a change of INJ ends. A checker that runs meets the levels, locks and counts symbol errors and bit errors;
without a checker nothing changes. (11 Lanes, R313, R323, R324, R327.) -/
def Obligations.LayoutAndLaneTestWritesAreTaken : Prop :=
  ∀ (s : State) (lane : BitVec 9),
    let m := s.mach
    let n := lane.toNat
    (∀ value : Word, Writable s (Reg.LNE_LANE_CFG n) →
      let m1 := m.writeRw (Reg.LNE_LANE_CFG n) 0x3FFB value.toNat
      let same := m1.flag (Reg.LNE_LANE_CFG n) 13 = (m.lane n).en ∧ m1.fld (Reg.LNE_LANE_CFG n) 12 10 = (m.lane n).code
      (same → exec (.layoutWrite lane value) s = .next { s with mach := m1 }) ∧
      (¬same → exec (.layoutWrite lane value) s = .next { s with
        mach := match m1.portOf? n with
          | some p => if p.takesLayout then m1.relayout s.store [n]
              else m1.modPort p.first fun q => { q with layoutHeld := true }
          | none => m1.relayout s.store [n] })) ∧
    (∀ (port : BitVec 9) (p : Port), LanesRun s → m.port? port.toNat = some p → p.layoutHeld = true → p.takesLayout = true →
      let changed (l : Nat) : Bool :=
        m.flag (Reg.LNE_LANE_CFG l) 13 != (m.lane l).en || m.fld (Reg.LNE_LANE_CFG l) 12 10 != (m.lane l).code
      exec (.layoutApply port) s = .next { s with
        mach := (m.modPort p.first fun q => { q with layoutHeld := false }).relayout s.store (p.lanes.filter changed) }) ∧
    (∀ value : Word, Writable s (Reg.LNE_PRBS_CTL n) →
      let reg := Reg.LNE_PRBS_CTL n
      (bits value.toNat 27 24 ≠ 0 → m.laneActive n = true →
        exec (.prbsGenChk lane value) s = .next { s with mach := (m.writeRw reg 0x7F0000 value.toNat).laneRefuse n 0 }) ∧
      (bits value.toNat 27 24 ≠ 0 → m.laneActive n = false → m.domainOff (n / 16) = true →
        exec (.prbsGenChk lane value) s = .next { s with mach := (m.writeRw reg 0x7F0000 value.toNat).laneRefuse n 2 }) ∧
      (bits value.toNat 27 24 ≠ 0 → m.laneActive n = false → m.domainOff (n / 16) = false →
        let gen := bits value.toNat 27 26
        let m0 := m.writeRw reg 0xF7F0000 value.toNat
        let m1 := if m.fld reg 27 26 = gen then m0
          else
            let a := m0.modLane n fun x => { x with inject := none }
            if gen = 0 then a else a.emit (.pattern n gen)
        let m2 := if m.fld reg 25 24 = bits value.toNat 25 24 then m1
          else (m1.modLane n fun x => { x with chk := none }).setFlag reg 23 false
        let m3 := (m2.modLane n fun x => { x with calLeft := 0 }).setLstate n 3 0
        let inj := bits value.toNat 22 21
        (bitOf value.toNat 31 = false → exec (.prbsGenChk lane value) s = .next { s with
          mach := if m.fld reg 22 21 = inj then m3 else m3.modLane n fun x => { x with inject := none } }) ∧
        (bitOf value.toNat 31 = true → gen ≠ 0 → (inj = 1 ∨ inj = 2) →
          let every := if inj = 1 then 0 else 2 ^ max 8 (bits value.toNat 20 16)
          let d := m3.draw 31
          exec (.prbsInjGo lane value) s = .next { s with
            mach := (d.2.modLane n fun x => { x with inject := some (every, d.1) }).emit (.prbsError n every) }))) ∧
    (∀ (phase : BitVec 31) (levels : List (BitVec 2)), LanesRun s →
      let kind := m.fld (Reg.LNE_PRBS_CTL n) 25 24
      (kind = 0 → exec (.prbsCheckerLock lane phase levels) s = .next s) ∧
      (kind ≠ 0 →
        let from_ : Checker := ((m.lane n).chk.filter fun k => k.locked).getD { at_ := phase.toNat }
        let c := from_.meetAll kind levels
        let m1 := m.modLane n fun x => { x with chk := some { c with syms := 0, bits := 0 } }
        exec (.prbsCheckerLock lane phase levels) s = .next { s with
          mach := if c.locked then
              ((m1.setFlag (Reg.LNE_PRBS_CTL n) 23 true).countN (Reg.LNE_PRBS_SYM_ERR n) c.syms).countN
                (Reg.LNE_PRBS_BIT_ERR n) c.bits
            else m1 }))

/-- While the data path runs, on a linked port: a packet whose header is bad counts in the counter of that header error; a
TIME packet for another FEID in RTE_BADDEST_CNT; one of a wrong length whose head has not been forwarded in
TRL_MALFORMED_CNT; one that quarantine bars in SVC_QUAR_DROP_CNT; one not on VC 1 of a fenced gallery in
SWC_GFLUSH_CNT, of a fenced die in SWC_UNREACH_CNT; each gives its credit back and nothing else happens. Any other
packet takes the stamp in force when its sender is a node, sets ARRIVED when its stamp is the old one, is poisoned
whole, or from a flit on when its head has left (which flit is a free value), and goes on by its destination: below
0xFFF0 through the route table, else to its function. On a port that is not linked nothing happens. (12 Packet switch,
R329 to R331, R347; 13 Routing, R364; 10 Link and transport, R264, R265, R268; 16 Fabric management, R431; 18 Faults,
R464.) -/
def Obligations.PacketsEnterOrAreDroppedAndCounted : Prop :=
  ∀ (s : State) (port : BitVec 9) (q : Port) (pkt : Packet) (flits : Byte) (poisoned headLeft : Bool),
    s.mach.running = true → s.mach.port? port.toNat = some q →
    let m := s.mach
    let f := port.toNat
    let dropped (cnt : Nat) : Host.Outcome State Fault Refusal :=
      .next { s with mach := (m.count cnt).returnCredit (some (f, flits.toNat)) pkt.vc.toNat }
    let run := exec (.packetIngress port pkt flits poisoned headLeft .none) s
    (q.linked = false → run = .next s) ∧
    (q.linked = true →
      (∀ cnt, headerBad q pkt = some cnt → run = dropped cnt) ∧
      (headerBad q pkt = none → timeStrays pkt = true → run = dropped Reg.RTE_BADDEST_CNT) ∧
      (headerBad q pkt = none → timeStrays pkt = false → flits.toNat ≠ pktFlits pkt →
        (0xFFF0 ≤ pkt.dest.toNat ∨ headLeft = false) → run = dropped Reg.TRL_MALFORMED_CNT) ∧
      (headerBad q pkt = none → timeStrays pkt = false →
        (flits.toNat = pktFlits pkt ∨ (pkt.dest.toNat < 0xFFF0 ∧ headLeft = true)) →
        (quarantineBars q pkt = true → run = dropped Reg.SVC_QUAR_DROP_CNT) ∧
        (quarantineBars q pkt = false → pkt.vc ≠ 1 → m.flt.galFences.contains pkt.gallery.toNat = true →
          run = dropped Reg.SWC_GFLUSH_CNT) ∧
        (quarantineBars q pkt = false → pkt.vc ≠ 1 → m.flt.galFences.contains pkt.gallery.toNat = false →
          (m.flt.fences.contains (12 + dieOf f) = true ∨ m.flt.fences.contains (14 + dieOf f) = true) →
          run = dropped Reg.SWC_UNREACH_CNT) ∧
        (quarantineBars q pkt = false → (pkt.vc = 1 ∨ (m.flt.galFences.contains pkt.gallery.toNat = false ∧
            m.flt.fences.contains (12 + dieOf f) = false ∧ m.flt.fences.contains (14 + dieOf f) = false)) →
          let short := decide (flits.toNat ≠ pktFlits pkt)
          let left := headLeft && decide (pkt.dest.toNat < 0xFFF0)
          let m1 := if short then m.count Reg.TRL_MALFORMED_CNT else m
          let p1 : Packet := { pkt with
            epoch := if (q.ident.getD {}).kind == 1 then m.sw.stamp else pkt.epoch
            poison := pkt.poison || (!left && poisoned) }
          let c := (if p1.epoch != m.sw.stamp then m1.setFlag Reg.RTE_STATUS 28 true else m1).cellErr (dieOf f) p1 .none
          let tail := if left && (poisoned || short) then c.2.tailFrom (pktFlits pkt) else (none, c.2)
          run = .next { s with
            mach := if pkt.dest.toNat < 0xFFF0 then tail.2.forward s.store f flits.toNat c.1 tail.1 .none
              else tail.2.toFunction f flits.toNat c.1 })))

/-- While the data path runs: a fill of a queue with nothing in Sump changes nothing, one whose oldest Sump packet fits,
is not halted and has nothing before it takes that packet's cells, and any other changes nothing; the head written
makes the packet that is being filled on-die; a Sump write of a staged packet with the pages it needs free writes it
to Sump, and without them changes nothing; the end of a moved flow's hold releases the first held packet; the end of
an ordering hold leaves escape mode when the queue is empty and changes nothing else. PICK settles the heads of a
port's queues and, on a linked port, sends a LINK flit that is due, then starts the head that the scheduler picks and
settles again, or sends an IDLE flit when it picks none. An escape whose head is on die, lacks credit and has its VC
open moves it to Chimney. (12 Packet switch, R336 to R339, R344, R345; 13 Routing, R359, R361; 14 Scheduling, R367 to
R372.) -/
def Obligations.QueuesFillSpillAndLeave : Prop :=
  ∀ (s : State) (q : QSel) (port : BitVec 9) (vc : BitVec 3), s.mach.running = true →
    let m := s.mach
    let f := port.toNat
    let qu := m.queue (qkey q)
    let pq := m.queue (.port f vc.toNat)
    let goes (m1 : Mach) : Host.Outcome State Fault Refusal := .next { s with mach := m1 }
    (qu.oldestSump = none → exec (.fillTake q .none) s = .next s) ∧
    (∀ x, qu.oldestSump = some x → (m.fillFits qu x = false ∨ m.fillHalted qu = true ∨ m.fillBehind qu x = true) →
      exec (.fillTake q .none) s = .next s) ∧
    (∀ x, qu.oldestSump = some x → m.fillFits qu x = true → m.fillHalted qu = false → m.fillBehind qu x = false →
      exec (.fillTake q .none) s = goes (m.fillTake qu x)) ∧
    exec (.fillHeadWritten q) s = goes (m.setQueue { qu with
      pkts := modFirst (fun x => x.loc == .filling) (fun x => { x with loc := .onDie }) qu.pkts }) ∧
    (qu.pkts.find? (fun x => x.loc == .staged) = none → exec (.sumpWrite { q }) s = .next s) ∧
    (∀ x, qu.pkts.find? (fun x => x.loc == .staged) = some x →
      let n := qu.newPages x.cells
      let free := m.dieSumpFree qu.key.die
      0 < free → n ≤ free → (∀ p v, qu.key = .port p v → m.fld (Reg.SWC_QCFG p v) 31 16 = 0) →
      let r := m.writeSump qu x
      let now (y : QPkt) : QPkt := { y with loc := .sump, chain := 0, whole := true }
      let written := r.2.setQueue { r.1 with pkts := modFirst (fun y => y.seq == x.seq) now r.1.pkts }
      exec (.sumpWrite { q }) s = goes (if n = 0 then written else written.spillFault qu.key x.seq .none)) ∧
    (∀ x, qu.pkts.find? (fun x => x.loc == .staged) = some x → m.dieSumpFree qu.key.die < max 1 (qu.newPages x.cells) →
      exec (.sumpWrite { q }) s = .next s) ∧
    exec (.rehashHoldEnd port vc) s =
      goes (m.setQueue { pq with pkts := modFirst (fun x => x.held) (fun x => { x with held := false }) pq.pkts }) ∧
    exec (.orderHoldEnd port vc) s = goes (if pq.pkts.isEmpty then m.setQueue { pq with escape := false } else m) ∧
    (let m1 := (List.range 8).foldl (fun a v => a.settleHead s.store f v) m
     (m1.port? f = none → exec (.pick port .none) s = goes m1) ∧
     (∀ p, m1.port? f = some p → p.linked = false → exec (.pick port .none) s = goes m1) ∧
     (∀ p, m1.port? f = some p → p.linked = true →
       let m2 := m1.linkSlot f ((List.range 8).any fun v => !(m1.queue (.port f v)).pkts.isEmpty)
       let r := m2.pick ((m2.port? f).getD p)
       let m3 := m2.modPort f fun _ => r.1
       (r.2 = none → exec (.pick port .none) s = goes (m3.sendIdle f)) ∧
       (∀ v c, r.2 = some (v, c) →
         exec (.pick port .none) s = goes ((m3.startHead f v c .none).settleHead s.store f v)))) ∧
    (let m1 := m.settleHead s.store f vc.toNat
     ((m1.queue (.port f vc.toNat)).pkts = [] → exec (.escape port vc) s = goes m1) ∧
     (∀ p x t, m1.port? f = some p → (m1.queue (.port f vc.toNat)).pkts = x :: t → vc ≠ 0 →
       m1.flag Reg.RTE_CTL 0 = true → x.loc = .onDie → p.credit.getD vc.toNat 0 < pktFlits x.pkt →
       m1.vcOpenFor vc.toNat (m1.flitTime p (pktFlits x.pkt)) = true →
       exec (.escape port vc) s = goes ((m1.escapeHead s.store f vc.toNat).settleHead s.store f vc.toNat)))

/-- While the data path runs and the descriptor has been taken: RTE_LOAD of 1 to 65,536 good entries writes exactly those
entries of the load bank and completes with OK and their count; RTE_SYNC starts the copy; behind a sync that runs both
are parked, and while a flip runs or an old-stamp packet is left both are refused BUSY; the end of the copy copies the
bank to the other, clears its fence and completes the command; other route entries and every other memory keep their
values. A flip check that finds no bad entry changes the stamp and clears OLD_STAMP, one that finds some refuses with
cause 1 and the first bad FEID; without a flip in progress nothing happens. A write of RTE_CTL without FLIP only
stores its fields. (13 Routing, R354 to R358; 15 Jionuk, R412, R414.) -/
def Obligations.RouteBanksLoadAndFlip : Prop :=
  (∀ (s : State) (d : TuDesc) (data : List Word), s.mach.running = true → Unspoiled s.mach →
    let m := s.mach.tuBegin
    let n := d.count.toNat
    let lo := d.arg1.toNat
    let a := m.loadBank * 65536 + lo
    let es := routeWords data
    let m1 : Mach := { m with
      ecc := { m.ecc with badRoutes := m.ecc.badRoutes.filter fun b => decide (b.2 < a) || decide (a + n ≤ b.2) } }
    (s.mach.tuTaken 0x20 d = true → d.gallery = 0 → tuBad d (16 * n) = false → 0 < n → lo + n ≤ 65536 →
      data.length = 4 * n → es.zipIdx.any (fun p => m.routeBad (lo + p.2) p.1.toNat) = false →
      ((m.sw.syncBusy.isSome || m.tuBehind 0x20 d) = true →
        exec (.rteLoad d data) s = .next { s with mach := m.park 0x20 d data }) ∧
      (m.sw.syncBusy = none → m.tuBehind 0x20 d = false →
        (m.oldCnt ≠ 0 ∨ m.sw.flipBusy = true →
          exec (.rteLoad d data) s = .next { s with mach := m.tuRefuse 0x20 d .busy }) ∧
        (m.oldCnt = 0 → m.sw.flipBusy = false →
          exec (.rteLoad d data) s = .next { s with
            mach := (if n = 65536 then m1.unfence fun x => x == .route m.loadBank else m1).tuDone 0x20 d .ok 0 n
            store := { s.store with route := sputs zeroCell s.store.route a es } }))) ∧
    (s.mach.tuTaken 0x21 d = true → d.gallery = 0 → tuBad d 0 = false →
      ((m.sw.syncBusy.isSome || m.tuBehind 0x21 d) = true →
        exec (.rteSync d) s = .next { s with mach := m.park 0x21 d [] }) ∧
      (m.sw.syncBusy = none → m.tuBehind 0x21 d = false →
        (m.oldCnt ≠ 0 ∨ m.sw.flipBusy = true → exec (.rteSync d) s = .next { s with mach := m.tuRefuse 0x21 d .busy }) ∧
        (m.oldCnt = 0 → m.sw.flipBusy = false → exec (.rteSync d) s = .next { s with
          mach := { m with sw := { m.sw with syncBusy := some (m.loadBank, d) } } })))) ∧
  (∀ (s : State), s.mach.running = true → Unspoiled s.mach →
    let m := s.mach
    (m.sw.syncBusy = none → exec .rteSyncDone s = .next s) ∧
    (∀ bank d, m.sw.syncBusy = some (bank, d) →
      let a := bank * 65536
      let m1 : Mach := { m with
        sw := { m.sw with syncBusy := none }
        ecc := { m.ecc with badRoutes := m.ecc.badRoutes.filter fun b => decide (b.2 < a) || decide (a + 65536 ≤ b.2) } }
      exec .rteSyncDone s = .next { s with
        mach := (m1.unfence fun f => f == .route bank).tuDone 0x21 d .ok 0 0
        store := { s.store with route := copyBank s.store.route bank } }) ∧
    (m.sw.flipBusy = false → exec .flipCheckDone s = .next s) ∧
    (m.sw.flipBusy = true → m.flipBad s.store = [] → exec .flipCheckDone s = .next { s with
      mach := { m.setFlag Reg.RTE_STATUS 28 false with sw := { m.sw with stamp := !m.sw.stamp, flipBusy := false } } }) ∧
    (m.sw.flipBusy = true → ∀ f t, m.flipBad s.store = f :: t → exec .flipCheckDone s = .next { s with
      mach := { m.wr Reg.RTE_FLIP_ERR (BitVec.ofNat 32 (65536 + f)) with
        sw := { m.sw with flipBusy := false, flipRefused := true } } })) ∧
  (∀ (s : State) (value : Word), Writable s Reg.RTE_CTL → s.mach.flt.fences.contains 30 = false →
    let m1 := s.mach.writeRw Reg.RTE_CTL 9 value.toNat
    (bitOf value.toNat 2 = false → exec (.flip value) s = .next { s with mach := m1 }) ∧
    (bitOf value.toNat 2 = true → exec (.flip value) s = .next { s with mach := m1.flip }))

/-- While the data path runs, a refill adds to the buckets of every shaper that is not full, one after another, CIR and
PIR for each boundary of 80 ns of advance since the last refill, up to their bursts, and remembers the last boundary.
A shaper write that is taken sets the RW fields of its register and leaves the shaper full, except that enabling a
shaper of VC 0 or 1 is discarded and counted in SHP_CFG_ERR_CNT. (14 Scheduling, R377 to R380, R383.) -/
def Obligations.ShapersRefillAndTakeTheirSettings : Prop :=
  (∀ (s : State), s.mach.running = true →
    let m := s.mach
    let n := m.advNs / 80 - m.time.refills
    let m1 : Mach := { m with time := { m.time with refills := max m.time.refills (m.advNs / 80) } }
    let fill (a : Mach) (x : Shaper) : Mach :=
      let p := x.key / 8
      let v := x.key % 8
      a.setBuckets p v (min (m.cFull p v) (x.c + n * m.cir p v)) (min (m.pFull p v) (x.p + n * m.pir p v))
    exec .shaperRefill s = .next { s with mach := m.shapers.foldl fill m1 } ∧
    (∀ x, m.shapers = [x] → (fill m1 x).buckets (x.key / 8) (x.key % 8) =
      (min (m.cFull (x.key / 8) (x.key % 8)) (x.c + n * m.cir (x.key / 8) (x.key % 8)),
       min (m.pFull (x.key / 8) (x.key % 8)) (x.p + n * m.pir (x.key / 8) (x.key % 8))))) ∧
  (∀ (s : State) (port : BitVec 9) (vc : BitVec 3) (reg : ShpReg) (value : Word),
    Writable s (shpOffset port.toNat vc.toNat reg) →
    let m1 := s.mach.writeRw (shpOffset port.toNat vc.toNat reg) (shpMask reg) value.toNat
    (reg = .cfg → vc.toNat < 2 → bitOf value.toNat 31 = true →
      exec (.shaperWrite port vc reg value) s = .next { s with mach := s.mach.count Reg.SHP_CFG_ERR_CNT }) ∧
    (¬(reg = .cfg ∧ vc.toNat < 2 ∧ bitOf value.toNat 31 = true) →
      exec (.shaperWrite port vc reg value) s = .next { s with
        mach := { m1 with shapers := m1.shapers.filter fun x => x.key != 8 * port.toNat + vc.toNat } }))

/-- With the link up, outside safe state and the JNK fence, for a good header of the memory window whose line lies in an
FMEM region: RD_ONCE, RD_SHARED and RD_OWN answer with the 64 bytes at the address, the last two after the companion
is recorded as holding the line, shared or owned, or wait, with the oldest line that no other waits for recalled,
while the snoop filter has no room; WR_FULL and WB with good data store the first 64 bytes of it at the address, drop
the hold and answer CMP, and poisoned data is answered with ERR UNCORRECTABLE (log 36) and not stored; EVICT drops the
hold and answers CMP; a read that waited is then answered if there is room. No other byte of memory changes. A bad
header is answered with ERR BAD_FORMAT and counted, an address outside every region with ERR BAD_POINTER and counted.
(15 Jionuk, R389, R390, R392, R393; 07 Memory pools, R206, R207.) -/
def Obligations.WindowLineRequestsReadAndWriteHbm : Prop :=
  ∀ (s : State) (h : JnkHdr), s.mach.jnkUp = true → s.mach.flt.safe = false →
    let m := s.mach
    let a := h.addr.toNat
    let tag := h.tag.toNat
    let line := a / 64
    let bytes := sgets zeroCell s.store.hbm a 64
    let ok := h.bad = false ∧ h.win = 1 ∧ a % 64 = 0
    (¬ok → ∀ c ∈ [Instr.rdOnce h .none, .rdShared h .none, .rdOwn h .none, .evict h, .wrFull h [], .wb h []],
      exec c s = .next { s with mach := (m.jnkErrRsp tag a .badFormat).count Reg.JNK_ERR_SENT_CNT }) ∧
    (ok → m.flt.fences.contains 29 = false →
      (m.windowLine a = false → ∀ c ∈ [Instr.rdOnce h .none, .rdShared h .none, .rdOwn h .none, .evict h, .wrFull h [], .wb h []],
        exec c s = .next { s with mach := (m.jnkErrRsp tag a .badPointer).count Reg.FMM_WIN_ERR_CNT }) ∧
      (m.windowLine a = true → Unspoiled m →
        exec (.rdOnce h .none) s = .next { s with mach := m.jnkRsp 0x21 tag a 0 bytes } ∧
        (m.filterRoom line = true →
          exec (.rdShared h .none) s = .next { s with mach := (m.grant line false).jnkRsp 0x22 tag a 0 bytes } ∧
          exec (.rdOwn h .none) s = .next { s with mach := (m.grant line true).jnkRsp 0x23 tag a 0 bytes }) ∧
        (m.filterRoom line = false →
          let m1 := m.snoop 0x10 (((m.jnk.held.drop m.jnk.waitRd.length).take 1).map (·.1))
          let waits (own : Bool) : State :=
            { s with mach := { m1 with jnk := { m1.jnk with waitRd := m1.jnk.waitRd ++ [(own, h)] } } }
          exec (.rdShared h .none) s = .next (waits false) ∧ exec (.rdOwn h .none) s = .next (waits true)) ∧
        exec (.evict h) s = .next { s with mach := ((m.letGo line).jnkRsp 0x20 tag a 0 []).serveReads s.store } ∧
        ∀ data : List Byte,
          let st1 : Store := { s.store with hbm := sputs zeroCell s.store.hbm a (data.take 64) }
          let wrote : State := { s with mach := ((m.letGo line).jnkRsp 0x20 tag a 0 []).serveReads st1, store := st1 }
          let refused : State := { s with mach := ((m.letGo line).jnkErrRsp tag a .uncorrectable).serveReads s.store }
          exec (.wrFull h data) s = .next (if h.poison then refused else wrote) ∧
          exec (.wb h data) s = .next (if h.poison then refused else wrote)))

/-- With the link up, for a good header of the configuration window at an aligned offset below 64 MiB, outside safe state:
CFG_RD answers the register's value and has its read effect when it is live, its reset value when its domain is off or
its block is not yet open, 0 for a port that is not configured, and 0 with JNK_CFG_MISS_CNT counted where no register
is. CFG_WR has the register's write effect when it is live, is discarded and counted otherwise, and then answers CMP.
In safe state a read of the FLT and BOOT windows is answered all the same and every other access is answered with ERR
UNCORRECTABLE. A bad header is answered with ERR BAD_FORMAT and counted. (15 Jionuk, R390, R393, R398; 22 Register
map, R542 to R547.) -/
def Obligations.ConfigurationAccessesReachTheirRegister : Prop :=
  ∀ (s : State) (h : JnkHdr) (value : Word), s.mach.jnkUp = true →
    let m := s.mach
    let a := h.addr.toNat
    let tag := h.tag.toNat
    let ok := h.bad = false ∧ h.win = 0 ∧ a % 4 = 0 ∧ a < 2 ^ 26
    let early := 0x10000 ≤ a ∧ a < 0x30000
    let answer (v : Nat) (m1 : Mach) : State := { s with mach := m1.jnkRsp 0x21 tag a v [] }
    let done (m1 : Mach) : State := { s with mach := m1.jnkRsp 0x20 tag a 0 [] }
    (ok → (m.flt.safe = false ∨ early) →
      (m.access a = .live → exec (.cfgRd h) s = .next (answer (m.readValue s.store a) (m.readEffect a))) ∧
      (m.access a = .shut → exec (.cfgRd h) s = .next (answer (m.shutValue a) m)) ∧
      (m.access a = .empty → exec (.cfgRd h) s = .next (answer 0 m)) ∧
      (m.access a = .miss → exec (.cfgRd h) s = .next (answer 0 (m.count Reg.JNK_CFG_MISS_CNT)))) ∧
    (ok → m.flt.safe = false →
      (m.access a = .live → exec (.cfgWr h value) s = .next (done (m.writeReg s.store a value.toNat))) ∧
      (m.access a ≠ .live → exec (.cfgWr h value) s = .next (done (m.count Reg.JNK_CFG_MISS_CNT)))) ∧
    (m.flt.safe = true → ¬early → exec (.cfgRd h) s = .next { s with mach := m.jnkErrRsp tag a .uncorrectable }) ∧
    (m.flt.safe = true → exec (.cfgWr h value) s = .next { s with mach := m.jnkErrRsp tag a .uncorrectable }) ∧
    (¬ok → m.flt.safe = false → ∀ c ∈ [Instr.cfgRd h, .cfgWr h value], exec c s =
      .next { s with mach := (m.jnkErrRsp tag a .badFormat).count Reg.JNK_ERR_SENT_CNT })

/-- While the module is awake and the link is up, an answer whose tag names an outstanding request removes it and acts by
what it was for: CMP of the write that completes a record marks its ring's entry unsignalled from that time on, of any
other write it only ends the request; CMP_D hands a descriptor to its command ring or the table-update ring, ends a
command's data, or readies a table update; CMP_S takes the doorbell words; SNP_ACK ends a snoop, SNP_RSPD also writes
the line's 64 bytes back to HBM, and a read that waited for room is answered; ERR, and a timeout of a request that is
overdue by JNK_TIMEOUT, are counted and fail the request. A poisoned doorbell or descriptor stops its ring set. An
answer with a tag that no request holds changes nothing. (15 Jionuk, R396, R397, R399, R401, R403 to R407; 07 Memory
pools, R207, R208.) -/
def Obligations.AnswersEndTheirRequest : Prop :=
  ∀ (s : State) (tag : BitVec 12), s.mach.awake = true → s.mach.jnkUp = true →
    let m := s.mach
    let left : Mach := { m with jnk := { m.jnk with reqs := m.jnk.reqs.filter fun r => r.tag != tag.toNat } }
    let goes (m1 : Mach) : Host.Outcome State Fault Refusal := .next { s with mach := m1 }
    ((∀ r ∈ m.jnk.reqs, r.tag ≠ tag.toNat) → ∀ c ∈ [Instr.cmp tag, .cmpD tag false [], .cmpS tag false [], .snpAck tag,
        .snpRspd tag [], .jnkErr tag, .jnkTimeout tag], exec c s = .next s) ∧
    (∀ r, m.jnk.reqs.find? (fun r => r.tag == tag.toNat) = some r →
      (∀ set evt i, r.why = .record set evt i true → exec (.cmp tag) s = goes (left.setRing { left.ring set with
        unsignalled := modNth (fun o => some (o.getD left.advNs)) (b2n evt) (left.ring set).unsignalled })) ∧
      (∀ set evt i, r.why = .record set evt i false → exec (.cmp tag) s = goes left) ∧
      (∀ i, r.why = .audit i → exec (.cmp tag) s = goes left) ∧
      (∀ set i, r.why = .cmdData set i → exec (.cmp tag) s = goes (left.cmdWritten set i)) ∧
      (∀ set i (data : List Byte), r.why = .desc set i →
        exec (.cmpD tag true data) s = goes (left.ringStop set 0 .errRsp i r.addr) ∧
        (set ≠ 64 → exec (.cmpD tag false data) s =
          goes (left.cmdDesc s.store set i (bytesWords ((data ++ List.replicate 64 0).take 64)))) ∧
        (set = 64 → exec (.cmpD tag false data) s = goes (left.tuDesc i (bytesWords (data.take 64))))) ∧
      (∀ set i (data : List Byte), r.why = .caddr set i →
        exec (.cmpD tag true data) s = goes (left.cmdFail set i) ∧ exec (.cmpD tag false data) s = goes left) ∧
      (∀ i (data : List Byte), r.why = .tuData i →
        exec (.cmpD tag true data) s = goes (left.ringStop 64 0 .errRsp i r.addr) ∧
        exec (.cmpD tag false data) s = goes { left with
          jnk := { left.jnk with tu := left.jnk.tu.map fun t => { t with ready := true } } }) ∧
      (∀ set (data : List Byte), r.why = .doorbell set →
        exec (.cmpS tag true data) s = goes (left.ringStop set 0 .errRsp 0 r.addr) ∧
        exec (.cmpS tag false data) s = goes (left.doorbellSeen set (bytesWords (data.take 16)))) ∧
      (∀ line, r.why = .snoop line →
        exec (.snpAck tag) s = goes ((left.snoopDone r line).serveReads s.store) ∧
        ∀ data : List Byte, Unspoiled m →
          let st1 : Store := { s.store with hbm := sputs zeroCell s.store.hbm (64 * line) (data.take 64) }
          exec (.snpRspd tag data) s = .next { s with mach := (left.snoopDone r line).serveReads st1, store := st1 }) ∧
      exec (.jnkErr tag) s = goes ((left.count Reg.JNK_ERR_RSP_CNT).reqFailed r .errRsp) ∧
      (r.at_ + 1000 * max 1 (m.fld Reg.JNK_TIMEOUT 15 0) ≤ m.aon →
        exec (.jnkTimeout tag) s = goes ((left.count Reg.JNK_TIMEOUT_CNT).reqFailed r .timeout)) ∧
      (m.aon < r.at_ + 1000 * max 1 (m.fld Reg.JNK_TIMEOUT 15 0) → exec (.jnkTimeout tag) s = .next s))

/-- Link up out of reset, in M0 or M1, with power, from stage B1 on (in a halt once B1 has passed), sets LINK_UP with the
width in use and restarts the flit numbers, and else changes nothing; link down of a link that is up clears it,
counts, and halts every open ring set, and of a link that is down changes nothing. A write of a ring set's EN, taken,
with registers that hold no error clears its indices, sets EN, forgets what the set held and reads its doorbell (the
module set then also sends the reports and events that waited for it), with an error halts the set with its cause; a
set already enabled changes nothing. A doorbell snoop is answered and, for each set whose line it is, the line is no
longer held and read again if the set is open. An interrupt is sent once for an entry of an enabled and armed ring
that has stood unsignalled for RNG_HOLDOFF, and else nothing happens. (15 Jionuk, R388, R397, R399 to R403, R408,
R409.) -/
def Obligations.LinkStateSnoopsAndInterruptsFollowTheRings : Prop :=
  (∀ (s : State) (half : BitVec 2),
    let m := s.mach
    let up := m.boot.resetN = false ∧ m.boot.warmN = false ∧ m.pwr.lost = false ∧ m.mstate < 2 ∧ half ≠ 3 ∧ 1 ≤ m.stage ∧
      (m.halted = true → 2 ≤ m.stage)
    let width := (if half = 0 then 16 else 8) * 2 ^ 16 + half.toNat
    let m1 : Mach := { m with jnk := { m.jnk with txSeq := 0 } }
    (up → exec (.jnkLinkUp half) s = .next { s with
      mach := (m1.setFlag Reg.JNK_STATUS 31 true).setFld Reg.JNK_STATUS 20 0 width }) ∧
    (¬up → exec (.jnkLinkUp half) s = .next s)) ∧
  (∀ (s : State), s.mach.jnkUp = false → exec .jnkLinkDown s = .next s) ∧
  (∀ (s : State), s.mach.jnkUp = true →
    let m1 := ((s.mach.setFlag Reg.JNK_STATUS 31 false).setFld Reg.JNK_STATUS 20 0 0).count Reg.JNK_LINK_DOWN_CNT
    let m2 := ((List.range 65).reverse.filter m1.ringOpen).foldl (fun a k => a.ringStop k 0 .link 0 0) m1
    exec .jnkLinkDown s = .next { s with
      mach := { m2.countN Reg.RNG_DISCARD_CNT m2.jnk.reports.length with jnk := { m2.jnk with reports := [] } } }) ∧
  (∀ (s : State) (set : BitVec 7), set.toNat ≤ 64 → Writable s (ringReg set.toNat 0) →
    let m := s.mach
    let k := set.toNat
    (m.ringEn k = true → exec (.rngEnable set) s = .next s) ∧
    (m.ringEn k = false → ∀ f c addr, m.ringCheck k = some (f, c, addr) →
      exec (.rngEnable set) s = .next { s with mach := m.ringHalt k f c 0 addr }) ∧
    (m.ringEn k = false → m.ringCheck k = none →
      let m1 := (m.setFld (ringReg k 0) 31 30 2).setRing { set := k }
      let m2 := (((m1.wr (ringReg k 0x30) 0).wr (ringReg k 0x34) 0).wr (ringReg k 0x38) 0).readDoorbell k
      (k ≠ 64 → exec (.rngEnable set) s = .next { s with mach := m2 }) ∧
      (k = 64 →
        let m3 := m2.boot.reports.foldl (fun a r => a.report r.1 r.2) { m2 with boot := { m2.boot with reports := [] } }
        exec (.rngEnable set) s = .next { s with
          mach := m2.pwr.lateEvents.foldl (fun a b => a.modEvent 0x1A noFault b)
            { m3 with pwr := { m3.pwr with lateEvents := [] } } }))) ∧
  (∀ (s : State), s.mach.awake = true → s.mach.jnkUp = true →
    let m := s.mach
    (∀ (tag : BitVec 12) (addr : Quad),
      let mine := (List.range 65).filter fun k => m.ringEn k && m.doorbell k == addr.toNat / 64 * 64
      let again (b : Mach) (k : Nat) : Mach :=
        let c := b.setRing { b.ring k with held := false }
        if c.ringOpen k then c.readDoorbell k else c
      exec (.snpInv tag addr) s = .next { s with mach := mine.foldl again (m.jnkRsp 0x24 tag.toNat addr.toNat 0 []) }) ∧
    (∀ (set : BitVec 7) (evt : Bool), set.toNat ≤ 64 → m.ringEn set.toNat = true →
      let k := set.toNat
      let f := b2n evt
      let r := m.ring k
      let due := ∃ t, r.unsignalled.getD f none = some t ∧ t + 64 * m.fld (ringReg k 0x0C) 15 0 ≤ m.advNs
      let sent : RingSt := { r with
        intSent := modNth (fun _ => true) f r.intSent, unsignalled := modNth (fun _ => none) f r.unsignalled }
      (due → r.intSent.getD f false = false → bitOf r.arm f = true →
        let int : JnkMsg := { opc := 0x0A, tag := 0, addr := 0, value := m.fld (ringReg k 8) (16 * f + 15) (16 * f) }
        exec (.jnkInt set evt) s = .next { s with mach := (m.setRing sent).sendJnk int }) ∧
      (¬due ∨ r.intSent.getD f false = true ∨ bitOf r.arm f = false → exec (.jnkInt set evt) s = .next s)))

/-- While the data path runs: an open gallery ring with a new descriptor, fewer than 256 commands taken, room for their
completion records and no fence takes the next index and reads its descriptor; the module ring does so with no fetch,
waiting report or command that has not begun before it. A PROG_START that its ring took queues its start on the core
its CORE field names, with entry, windows and X1 to X8 from its words, or completes NO_SLOT with CORE_ABSENT or BUSY
when the core is gone or its queue of 16 is full. A parked table-update command is not released while it would only
wait again. (15 Jionuk, R402, R405 to R407, R411; 05 Hub engines, R128.) -/
def Obligations.CommandsAreTakenFromTheirRingInOrder : Prop :=
  ∀ (s : State), s.mach.running = true → s.mach.jnkUp = true →
    let m := s.mach
    (∀ set : BitVec 6,
      let k := set.toNat
      let r := m.ring k
      let i := (m.rd (ringReg k 0x30)).toNat
      let mine := m.jnk.taken.filter fun c => c.set == k
      m.ringOpen k = true → i ≠ r.prod → mine.length < 256 →
      mine.length + ahead (m.rd (ringReg k 0x34)).toNat r.cplCons + 1 ≤ m.ringSize k 1 →
      m.flt.galFences.contains k = false → m.resetParked k = false → (∀ c ∈ mine, c.words ≠ [] ∧ c.index ≠ i) →
      let m1 := m.wr (ringReg k 0x30) (BitVec.ofNat 32 (i + 1))
      let m2 : Mach := { m1 with jnk := { m1.jnk with taken := m1.jnk.taken ++ [{ set := k, index := i }] } }
      let addr := m.rd64 (ringReg k 0x10) (ringReg k 0x14) + 64 * (i % m.ringSize k 0)
      exec (.descTake set) s = .next { s with mach := m2.jnkReq 1 addr [] (.desc k i) }) ∧
    (let i := (m.rd (ringReg 64 0x30)).toNat
     m.ringOpen 64 = true → i ≠ (m.ring 64).prod → (∀ x ∈ m.jnk.reqs, ∀ n, x.why ≠ .desc 64 n ∧ x.why ≠ .tuData n) →
      m.jnk.tu = none → m.jnk.reports = [] → m.jnk.parked.length < 8 → tuStuck [] m.jnk.parked = false →
      let addr := m.rd64 (ringReg 64 0x10) (ringReg 64 0x14) + 64 * (i % m.ringSize 64 0)
      exec .tuDescTake s = .next { s with
        mach := (m.wr (ringReg 64 0x30) (BitVec.ofNat 32 (i + 1))).jnkReq 1 addr [] (.desc 64 i) }) ∧
    (∀ (set : BitVec 6) (index : Word) (words : List Word), (m.taken? set.toNat index.toNat).map (·.words) = some words →
      bits (words.getD 0 0).toNat 31 28 = 0xF →
      let w (j : Nat) : Nat := (words.getD j 0).toNat
      let k := bits (w 0) 20 16
      let start : Start := {
        entry := w 1 % 32768, gallery := set.toNat, scrBase := w 2 % 2 ^ 17, scrLimit := w 3 % 2 ^ 17
        hbmBase := w 4 % 2 ^ 31, hbmLimit := w 5 % 2 ^ 31
        regs := (List.range 8).map fun j => (j + 1, words.getD (8 + j) 0)
        cmd := some (set.toNat, index.toNat, w 0 % 65536) }
      (m.coreGone k = true →
        exec (.progStart set index words) s = .next { s with mach := m.startRefused start .noSlot .coreAbsent }) ∧
      (m.coreGone k = false → 16 ≤ (m.core k).queue.length →
        exec (.progStart set index words) s = .next { s with mach := m.startRefused start .noSlot .busy }) ∧
      (m.coreGone k = false → (m.core k).queue.length < 16 →
        let queued (c : Core) : Core := { c with queue := c.queue ++ [{ start with held := !c.longHeld.isEmpty }] }
        exec (.progStart set index words) s = .next { s with mach := m.modCore k queued })) ∧
    (∀ index : BitVec 3, m.jnk.parked[index.toNat]? = none → exec (.parkedRelease index) s = .next s) ∧
    (∀ w, m.jnk.parked = [w] → w.opc ≠ 0x38 →
      let r := Mach.rerun { m with jnk := { m.jnk with parked := [] } } s.store w
      (r.1.jnk.parked ≠ [] → exec (.parkedRelease 0) s = .next s) ∧
      (r.1.jnk.parked = [] → exec (.parkedRelease 0) s = .next { s with mach := r.1, store := r.2 }))

/-- For a fabric-memory command that is ready, with the ALLOC feature on (off, it is refused with FIELD), enough free
pages and quota left, ALLOC and ALLOC_ZERO allocate CNT pages to the gallery, ALLOC_ZERO clears them all and ALLOC
those not cleared since the last rebuild, and answer with their handles; no other HBM byte changes; a page on a halted
channel refuses the whole command with MEDIA. With too few free pages the command is refused with POOL_EMPTY, over the
quota with QUOTA, and nothing is allocated. INCREF adds and DECREF removes one reference of every listed page, in list
order, or refuses the whole command at the first page it may not touch, with every page as before; with every page
good but a channel halted the refusal is MEDIA. (07 Memory pools, R192, R195 to R197, R203, R204.) -/
def Obligations.PagesAreAllocatedSharedAndFreed : Prop :=
  (∀ (s : State) (src : FmSrc) (zero : Bool), FmReady s src 0 zero →
    let m := s.mach
    let c := fmCmd src
    let stack := bits (c.w 0) 25 22
    let free := if stack < 8 then m.fmAvail stack else sumOf m.fmAvail (List.range 8)
    let used := (m.rd (Reg.FMM_USED_G c.gal)).toNat
    let run := if zero then exec (.allocZero src .none) s else exec (.alloc src .none) s
    (m.feature 2 = false → run = .next { s with mach := m.fmRefuse s.store c .field 0 }) ∧
    (m.feature 2 = true →
    (free < c.cnt → run = .next { s with mach := m.fmRefuse s.store c .poolEmpty 0 }) ∧
    (c.cnt ≤ free → (m.rd (Reg.FMM_QUOTA_G c.gal)).toNat < used + c.cnt →
      run = .next { s with mach := m.fmRefuse s.store c .quota 0 }) ∧
    (c.cnt ≤ free → used + c.cnt ≤ (m.rd (Reg.FMM_QUOTA_G c.gal)).toNat →
      let r := m.allocPages c.gal stack c.cnt
      let cleared := if zero then r.1 else r.1.filter fun p => !(m.page p).zeroed
      let clear (a : Store) (p : Nat) : Store := { a with hbm := sclear a.hbm (p * 65536) (p * 65536 + 65536) }
      let st := cleared.foldl clear s.store
      run = if r.1.any m.chanHalted then .next { s with mach := m.fmRefuse s.store c .media 0 } else
        .next { s with mach := r.2.fmDone st c (r.1.map fun p => handleOf (r.2.page p)) [], store := st }))) ∧
  (∀ (s : State) (src : FmSrc),
    let m := s.mach
    let c := fmCmd src
    let up (a : Mach) (h : Nat) : FmReason × Mach :=
      let x := a.page (hPage h)
      if a.checkHandle c.gal h 0 0 ≠ .none then (a.checkHandle c.gal h 0 0, a)
      else if 65535 ≤ x.refcnt then (.refsFull, a) else (.none, a.setPage { x with refcnt := x.refcnt + 1 })
    let down (a : Mach) (h : Nat) : FmReason × Mach :=
      if a.checkHandle c.gal h 0 0 ≠ .none then (a.checkHandle c.gal h 0 0, a) else (.none, a.dropRef (hPage h))
    let done (a : Mach) : Mach := if c.list.any m.chanHalted then m.fmRefuse s.store c .media 0 else a.fmDone s.store c [] []
    (FmReady s src 1 false →
      (∀ i a, applyAll up c.list 0 m = (.none, i, a) →
        exec (.incref src .none) s = .next { s with mach := done a }) ∧
      (∀ r i a, applyAll up c.list 0 m = (r, i, a) → r ≠ .none →
        exec (.incref src .none) s = .next { s with mach := m.fmRefuse s.store c r i })) ∧
    (FmReady s src 2 false →
      (∀ i a, applyAll down c.list 0 m = (.none, i, a) →
        exec (.decref src .none) s = .next { s with mach := done a }) ∧
      (∀ r i a, applyAll down c.list 0 m = (r, i, a) → r ≠ .none →
        exec (.decref src .none) s = .next { s with mach := m.fmRefuse s.store c r i })))

/-- For a ready fabric-memory command whose handle checks, on a channel that runs: READ answers its lines, multicast only
for a bound page and else refused with BAD_SET; WRITE stores its data at its line and COPY the source lines at the
destination, each answered when done; no other HBM byte changes; while the companion holds a line to be written, or
one to be read that it may have modified, these lines are recalled and the command waits. A handle that fails its
check refuses the command with that reason. ATTACH BIND of a valid set to an unbound page binds it and adds a
reference, of a bound page changes the set; UNBIND of a bound page unbinds it and drops a reference, of an unbound
page changes nothing. (07 Memory pools, R193, R198 to R202, R205, R207.) -/
def Obligations.FabricMemoryDataMovesAsCommanded : Prop :=
  ∀ (s : State) (src : FmSrc),
    let m := s.mach
    let st := s.store
    let c := fmCmd src
    let a := lineAddr (c.w 1) c.off
    let b := lineAddr (c.w 3) (c.w 4)
    let x := m.page (hPage (c.w 1))
    let set := bits (c.w 5) 11 0
    let refused (r : FmReason) : Host.Outcome State Fault Refusal := .next { s with mach := m.fmRefuse st c r 0 }
    let done (m1 : Mach) (hbm : Cells 8) : Host.Outcome State Fault Refusal :=
      .next { s with mach := m1.fmDone { st with hbm := hbm } c [] [], store := { st with hbm := hbm } }
    let n := c.lines
    let waits (w q : List Nat) : Host.Outcome State Fault Refusal :=
      let m1 := (m.snoop 0x10 w).snoop 0x11 (q.filter fun x => !w.contains x)
      let again := if m1.jnk.recalls.any (sameCmd src) then m1.jnk.recalls else m1.jnk.recalls ++ [src]
      .next { s with mach := { m1 with jnk := { m1.jnk with recalls := again } } }
    (∀ r, m.fmCheck c = r → r ≠ .none →
      (∀ mcast, FmReady s src 3 mcast →
        (if mcast then exec (.readMcast src .none) s else exec (.fmRead src .none) s) = refused r) ∧
      (FmReady s src 4 false → exec (.fmWrite src .none) s = refused r) ∧
      (FmReady s src 5 false → exec (.fmCopy src .none) s = refused r)) ∧
    (m.fmCheck c = .none →
      (let dirty := m.heldLines a n true;
        (FmReady s src 3 false → exec (.fmRead src .none) s =
          if dirty = [] then .next { s with mach := m.fmReadOut st c false a } else waits [] dirty) ∧
        (FmReady s src 3 true → exec (.readMcast src .none) s =
          if x.bound = false then refused .badSet
          else if dirty = [] then .next { s with mach := m.fmReadOut st c true a } else waits [] dirty)) ∧
      (FmReady s src 4 false → exec (.fmWrite src .none) s =
        if m.heldLines a n false = [] then done m (sputs zeroCell st.hbm a c.data) else waits (m.heldLines a n false) []) ∧
      (FmReady s src 5 false →
        let written := m.heldLines b n false
        let dirty := m.heldLines a n true
        (∀ r, m.checkHandle c.gal (c.w 3) (c.w 4) n = r → r ≠ .none → exec (.fmCopy src .none) s = refused r) ∧
        (m.checkHandle c.gal (c.w 3) (c.w 4) n = .none → exec (.fmCopy src .none) s =
          if m.chanHalted (c.w 3) then refused .media
          else if written = [] ∧ dirty = [] then done m (copyLines st.hbm a b n 0) else waits written dirty))) ∧
    (m.checkHandle c.gal (c.w 1) 0 0 = .none → m.chanHalted (c.w 1) = false →
      (FmReady s src 6 true →
        (m.setOk c.gal set = false → exec (.attachBind src .none) s = refused .badSet) ∧
        (m.setOk c.gal set = true → x.bound = true →
          exec (.attachBind src .none) s = done (m.setPage { x with set_ := set }) st.hbm) ∧
        (m.setOk c.gal set = true → x.bound = false → 65535 ≤ x.refcnt →
          exec (.attachBind src .none) s = refused .refsFull) ∧
        (m.setOk c.gal set = true → x.bound = false → x.refcnt < 65535 → exec (.attachBind src .none) s =
          done (m.setPage { x with bound := true, set_ := set, refcnt := x.refcnt + 1 }) st.hbm)) ∧
      (FmReady s src 6 false → exec (.attachUnbind src .none) s =
        if x.bound then done ((m.setPage { x with bound := false, set_ := 0 }).dropRef (hPage (c.w 1))) st.hbm
        else done m st.hbm))

/-- A taken write of BPM_CTL.REBUILD sets REFUSED while a Sump page is held, an FMEM page allocated or a region ill
placed, and else clears READY and REFUSED, bypasses the two pool groups and builds each stack's Sump and FMEM regions
as the registers say (BPM_SUMP_GIB as it is written, log 67), with every page FREE and no cell lost; of the error
protection only the list of lines under another code than they were written with may change. The end of the rebuild
sets READY and ends the bypasses, once. A taken write of FMM_CHAN_RESTART clears the halt bits written as 1 and
deasserts their pins, and no other halt. (07 Memory pools, R183 to R186, R190, R201; 17 Stored data, R455.) -/
def Obligations.PoolsAreRebuiltAndChannelsRestarted : Prop :=
  (∀ s : State, Writable s Reg.BPM_CTL →
    let m := s.mach
    let gib := m.fld Reg.BPM_SUMP_GIB 5 0
    let m1 := (((m.setFlag Reg.BPM_CTL 1 false).setFlag Reg.BPM_CTL 2 false).bypassOn 14).bypassOn 15
    (m.rebuildRefused = true → exec .bpmRebuild s = .next { s with mach := m.setFlag Reg.BPM_CTL 1 true }) ∧
    let built (k : Nat) : Pool :=
      { stack := k, sumpPages := 262144 * gib, spTop := 262144 * gib, fmBase := m.fld (Reg.BPM_FMEM_BASE_M k) 19 0,
        fmLimit := m.fld (Reg.BPM_FMEM_LIMIT_M k) 19 0, fmTop := m.fld (Reg.BPM_FMEM_LIMIT_M k) 19 0 }
    (m.rebuildRefused = false → ∃ codes, exec .bpmRebuild s = .next { s with
        mach := { m1 with
          pages := [], pools := (List.range 8).map built
          sw := { m.sw with lostCells := [0, 0] }, ecc := { m.ecc with otherCode := codes } } })) ∧
  (∀ s : State, s.mach.running = true →
    (s.mach.flag Reg.BPM_CTL 2 = true → exec .rebuildDone s = .next s) ∧
    (s.mach.flag Reg.BPM_CTL 2 = false → exec .rebuildDone s = .next { s with
      mach := ((s.mach.setFlag Reg.BPM_CTL 2 true).bypassOff 14).bypassOff 15 })) ∧
  (∀ (s : State) (value : Word), Writable s Reg.FMM_CHAN_RESTART →
    let kept := (s.mach.rd Reg.FMM_CHAN_HALT).toNat &&& ((value.toNat &&& 0xFF) ^^^ 0xFFFFFFFF)
    exec (.fmmChanRestart value) s = .next { s with
      mach := (s.mach.wr Reg.FMM_CHAN_HALT (BitVec.ofNat 32 kept)).dropPins fun p =>
        decide (20 ≤ p.group) && decide (p.group < 28) && p.detail == 0x18 && bitOf value.toNat (p.group - 20) })

/-- A taken write of SVC_PORT_CTL takes its manual bit and then acts in the order quarantine, ACCEPT, RECHECK: with none
of the three bits only the field is stored; QUARANTINE of a usable port tells its partner, moves it to QUARANTINE with
cause 6, flushes its queues and what injection holds and takes it from its groups, and of any other port changes
nothing; ACCEPT copies the partner's identity into the plan, compares again with cause 10 and settles the plan;
RECHECK compares again. While the data path runs, a planned port that is not usable is marked missing once its grace
has passed since it left, was planned or reset ended; any other changes nothing. (16 Fabric management, R431, R432,
R443.) -/
def Obligations.PortsAreCheckedAcceptedAndQuarantined : Prop :=
  ∀ (s : State) (port : BitVec 9),
    let f := port.toNat
    let st := s.store
    (∀ value : Word, Writable s (Reg.SVC_PORT_CTL f) →
      let m1 := s.mach.writeRw (Reg.SVC_PORT_CTL f) 0x20000000 value.toNat
      (bitOf value.toNat 29 = false → bitOf value.toNat 30 = false → bitOf value.toNat 31 = false →
        exec (.quarantine port value) s = .next { s with mach := m1 }) ∧
      (bitOf value.toNat 29 = true → bitOf value.toNat 30 = false → bitOf value.toNat 31 = false →
        (∀ p, m1.port? f = some p → p.usable = false → exec (.quarantine port value) s = .next { s with mach := m1 }) ∧
        (∀ p, m1.port? f = some p → p.usable = true →
          let m2 := (if 3 ≤ p.negRev then m1.sendLink f false 3 else m1).setPortState f .quarantine 6
          let m3 := (List.range 8).foldl (fun a v => a.flushQueue (.port f v)) m2
          let idle (q : Port) : Port := { q with
            ptr := [0, 0], turnOpen := [false, false], fiHeld := [], deficit := [List.replicate 8 0, List.replicate 8 0] }
          let m4 := (m3.countN Reg.SWC_FLUSH_CNT p.fiHeld.length).modPort f idle
          exec (.quarantine port value) s = .next { s with mach := m4.groupsLinkLost st f .lost 0 })) ∧
      (bitOf value.toNat 29 = false → bitOf value.toNat 30 = true → bitOf value.toNat 31 = false →
        exec (.accept port value) s = .next { s with mach := ((m1.acceptPeer f).recheck st f 10).updatePlan }) ∧
      (bitOf value.toNat 29 = false → bitOf value.toNat 30 = false → bitOf value.toNat 31 = true →
        exec (.recheck port value) s = .next { s with mach := m1.recheck st f 0 })) ∧
    (∀ p, s.mach.running = true → s.mach.port? f = some p →
      exec (.planGrace port) s = .next { s with
        mach := if s.mach.planned f = true ∧ p.usable = false ∧ s.mach.graceOver p = true then
            (s.mach.modPort f fun q => { q with missing := true }).updatePlan else s.mach })

/-- While the module is awake: a LOCATE press counts and starts Beacon, at the stored group when CURSOR_EN is set, or
moves the cursor to the next lane group that holds a port, wrapping; the Beacon timeout ends a Beacon that a button
started 600 s after the last press and changes nothing else. A held ISOLATE press counts; without a cursor or on a
protected group it counts as refused, on an isolated group it releases, else it isolates the group of the cursor. A
taken write of SVC_ISOLATE isolates the groups written 1 and releases isolated ones written 0. A port in isolation
step 1 whose queues are empty or whose drain time has passed is drained, told DOWN when its revision allows, and goes
to step 2, from which after 1 us its lanes go off and it is ISOLATED; in any other step, or before its time, nothing
happens. (16 Fabric management, R437 to R440.) -/
def Obligations.ButtonsMoveBeaconAndIsolateLaneGroups : Prop :=
  (∀ s : State, s.mach.awake = true →
    let m := s.mach
    let goes (m1 : Mach) : Host.Outcome State Fault Refusal := .next { s with mach := m1 }
    let pressed (lo : Nat) : Mach := m.setFld Reg.SVC_BUTTON (lo + 7) lo (satAdd 0xFF (m.fld Reg.SVC_BUTTON (lo + 7) lo) 1)
    let on := Mach.beaconSet { pressed 24 with boot := { m.boot with beaconAt := m.aon } } true
    (m.flag Reg.SVC_BEACON 30 = false → m.flag Reg.SVC_BEACON 29 = false → exec .locate s = goes on) ∧
    (m.flag Reg.SVC_BEACON 30 = false → m.flag Reg.SVC_BEACON 29 = true →
      exec .locate s = goes (on.setCursor (m.fld Reg.SVC_BEACON 4 0))) ∧
    (m.flag Reg.SVC_BEACON 30 = true → m.portGroups = [] → exec .locate s = goes on) ∧
    (∀ n, m.flag Reg.SVC_BEACON 30 = true →
      let cur := m.fld Reg.SVC_BEACON 9 5
      let next := if m.flag Reg.SVC_BEACON 28 then (m.portGroups.find? fun g => decide (cur < g)).or m.portGroups.head?
        else m.portGroups.head?
      next = some n → exec .locate s = goes (on.setCursor n)) ∧
    (m.boot.beacon = true → m.boot.beaconAt + 600000000000 ≤ m.aon → exec .beaconTimeout s = goes (m.beaconSet false)) ∧
    (m.boot.beacon = false ∨ m.aon < m.boot.beaconAt + 600000000000 → exec .beaconTimeout s = .next s) ∧
    (let n := m.fld Reg.SVC_BEACON 9 5
     ((m.flag Reg.SVC_BEACON 28 = false ∨ m.flag Reg.SVC_PROTECT n = true) →
        exec .isolate s = goes { (pressed 16).count Reg.SVC_BTN_REFUSE_CNT with
          boot := { m.boot with refusedAt := some m.aon } }) ∧
     (m.flag Reg.SVC_BEACON 28 = true → m.flag Reg.SVC_PROTECT n = false →
        exec .isolate s = goes (if m.flag Reg.SVC_ISO_DONE n then (pressed 16).releaseGroup s.store n
          else (pressed 16).isolateGroup s.store n)))) ∧
  (∀ (s : State) (value : Word), Writable s Reg.SVC_ISOLATE →
    exec (.svcIsolate value) s = .next { s with mach := (List.range 32).foldl (fun a n =>
      if bitOf value.toNat n then a.isolateGroup s.store n
      else if s.mach.flag Reg.SVC_ISOLATE n then a.releaseGroup s.store n else a) s.mach }) ∧
  (∀ (s : State) (port : BitVec 9) (p : Port), s.mach.running = true → s.mach.port? port.toNat = some p →
    let f := port.toNat
    let m1 := (List.range 8).foldl (fun a v => a.flushQueue (.port f v)) s.mach
    let busy := ∃ v ∈ List.range 8, (s.mach.queue (.port f v)).pkts ≠ []
    (p.isoStep = 1 → (p.isoDue ≤ s.mach.aon ∨ ¬busy) → exec (.isolationDrain port) s = .next { s with
      mach := (if p.linked && 3 ≤ p.negRev then m1.sendLink f false 3 else m1).modPort f fun q => { q with
        isoStep := 2, isoDue := s.mach.aon + 1000 } }) ∧
    (p.isoStep ≠ 1 ∨ (s.mach.aon < p.isoDue ∧ busy) → exec (.isolationDrain port) s = .next s) ∧
    (p.isoStep ≠ 2 ∨ s.mach.aon < p.isoDue → exec (.isolationLanesOff port) s = .next s) ∧
    (p.isoStep = 2 → p.isoDue ≤ s.mach.aon → exec (.isolationLanesOff port) s = .next { s with mach := s.mach.isolated f }))

/-- Held long-lived masks are taken by a core with no running or queued program, whose held starts are then released and
whose blocks that change are under the other code from then on, and stay held by a core with work. Taken register
writes: ECC_SUMP_RESTART and ECC_DMA_RESTART clear exactly the halt bits written 1 and the pins they hold, the former
also sending the failed packets of the stacks named on as poisoned; ECC_LOG_CTL with POP removes the oldest entry of
the log it selects and no other; ECC_RETIRE_CTL with ADD appends a well-formed entry while fewer than 1,024 stand,
else sets its refusal bit and keeps the map; COMMIT starts a commit, unless Lantern is held or group 36 fenced, and
any write during one is ignored. A commit that ends well makes the flash copy the map in use and drops the pins of
group 36; one that fails keeps the flash copy and raises group 36 (log 40); with no commit running nothing changes.
(17 Stored-data protection, R446, R448, R455, R457, R458, R460; 18 Faults, R461.) -/
def Obligations.HaltsErrorLogsAndRetiredUnitsAreManaged : Prop :=
  (∀ (s : State) (core : BitVec 5), s.mach.running = true →
    let c := s.mach.core core.toNat
    ((c.running.isSome = true ∨ (∃ q ∈ c.queue, q.held = false) ∨ c.longHeld = []) → exec (.scrLongApply core) s = .next s) ∧
    (c.running = none → (∀ q ∈ c.queue, q.held = true) → c.longHeld ≠ [] →
      exec (.scrLongApply core) s = .next { s with
        mach := (c.longHeld.foldl (fun a x => a.setLong x.1 x.2) s.mach).setCore
          { c with longHeld := [], queue := c.queue.map fun q => { q with held := false } } })) ∧
  (∀ (s : State) (value : Word),
    let m := s.mach
    (Writable s Reg.ECC_DMA_RESTART →
      let m1 := m.wr Reg.ECC_DMA_HALT (m.rd Reg.ECC_DMA_HALT &&& ~~~value)
      let held (p : Pin) : Prop := 4 ≤ p.group ∧ p.group < 12 ∧ p.detail = 0x38 ∧ bitOf value.toNat p.unit = true
      exec (.eccDmaRestart value) s = .next { s with mach := m1.dropPins fun p => decide (held p) }) ∧
    (Writable s Reg.ECC_SUMP_RESTART →
      let named (q : Queue) : Bool := q.pages.head?.any fun p => bitOf value.toNat (pageStack p)
      let fix (x : QPkt) : QPkt := if x.failed then { x with failed := false, pkt := { x.pkt with poison := true } } else x
      let mend (q : Queue) : Queue := if named q then { q with pkts := q.pkts.map fix } else q
      let halts := (m.rd Reg.ECC_SUMP_HALT).toNat &&& (value.toNat % 256 ^^^ 0xFFFFFFFF)
      let m1 : Mach := { m with sw := { m.sw with queues := m.sw.queues.map mend } }
      exec (.eccSumpRestart value) s = .next { s with
        mach := (m1.wr Reg.ECC_SUMP_HALT (BitVec.ofNat 32 halts)).dropPins fun p =>
          decide (20 ≤ p.group) && decide (p.group < 28) && p.detail == 0x30 && bitOf value.toNat (p.group - 20) }) ∧
    (Writable s Reg.ECC_LOG_CTL → ∀ a b, m.ecc.logs = [a, b] →
      let m1 := m.writeRw Reg.ECC_LOG_CTL 0x40000000 value.toNat
      let logs := if bitOf value.toNat 30 then [a, b.drop 1] else [a.drop 1, b]
      (bitOf value.toNat 31 = false → exec (.eccLogPop value) s = .next { s with mach := m1 }) ∧
      (bitOf value.toNat 31 = true → exec (.eccLogPop value) s = .next { s with
        mach := { m1 with ecc := { m.ecc with logs := logs } } }))) ∧
  (∀ (s : State) (value : Word), Writable s Reg.ECC_RETIRE_CTL →
    let m := s.mach
    let e := (m.rd Reg.ECC_RETIRE_ENTRY).toNat
    let kind := bits e 31 30
    let loc := bits e 26 0
    let room := m.ecc.retire.length < 1024 ∧ (kind = 0 ∨ (kind = 1 ∧ loc < 64 ∧ loc % 8 < 5))
    (m.ecc.busy = true → exec (.retireAdd value) s = .next s ∧ exec (.retireCommit value) s = .next s) ∧
    (m.ecc.busy = false → bitOf value.toNat 30 = false → bitOf value.toNat 31 = true →
      (room → exec (.retireAdd value) s = .next { s with
        mach := { m.setFlag Reg.ECC_RETIRE_CTL 28 false with ecc := { m.ecc with retire := m.ecc.retire ++ [(kind, loc)] } } }) ∧
      (¬room → exec (.retireAdd value) s = .next { s with mach := m.setFlag Reg.ECC_RETIRE_CTL 28 true })) ∧
    (m.ecc.busy = false → bitOf value.toNat 31 = false → bitOf value.toNat 30 = true →
      m.flt.lanternReset = false → m.flt.fences.contains 36 = false →
      exec (.retireCommit value) s = .next { s with mach := { m with ecc := { m.ecc with busy := true } } }) ∧
    (m.ecc.busy = false → bitOf value.toNat 31 = false → bitOf value.toNat 30 = true →
      (m.flt.lanternReset = true ∨ m.flt.fences.contains 36 = true) → exec (.retireCommit value) s = .next s)) ∧
  (∀ (s : State),
    let m := s.mach
    ((m.awake = false ∨ m.ecc.busy = false) → ∀ ok, exec (.retireCommitDone ok) s = .next s) ∧
    (m.awake = true → m.ecc.busy = true →
      let kept : Mach := { m with ecc := { m.ecc with busy := false, flash := m.ecc.retire } }
      let failed : Mach := { m with ecc := { m.ecc with busy := false } }
      exec (.retireCommitDone true) s = .next { s with mach := kept.dropPins fun p => p.group == 36 } ∧
      exec (.retireCommitDone false) s = .next { s with mach := failed.raisePin 36 2 0 0x44 }))

/-- The expiry of a Snuffer timer that runs and is due escalates: a group at FC2 goes to FC3 with a fresh timer, counts,
and its fence stands; one at another class enters safe state at FC4; with none due nothing changes. A taken write of
FSW bits to clear leaves a group that is not latched alone, and for a group whose pin is asserted counts in
FLT_CLR_REFUSE_CNT and keeps its bit; any other group loses its bit, class, timer and fence, and a port die's ports
then train again. A KICK restarts the watchdog with PERIOD, at least 1 ms, at the present time; its expiry PERIOD
after the last KICK, while Lantern runs, is a Lantern fault with detail 0x48. LANTERN_RESTART starts the check of the
image while Lantern is held from stage B3; its end releases Lantern and the pins of group 35 only if flash reads and
the image is the one that runs. GO arms an injection only while INJ_EN is set, with at least one word, at the end of
the list. (18 Faults, R461 to R463, R465, R466, R474 to R476, R480; 20 Identity and firmware, R517.) -/
def Obligations.FaultsEscalateClearAndHoldLantern : Prop :=
  (∀ (s : State) (group : BitVec 6), s.mach.awake = true →
    let m := s.mach
    let g := group.toNat
    let u := m.latchedBy g
    let off := m.stopTimer g
    ((∀ t ∈ m.flt.timers, t.1 = g → m.aon < t.2) → exec (.snufferExpiry group) s = .next s) ∧
    ((∃ t ∈ m.flt.timers, t.1 = g ∧ t.2 ≤ m.aon) → m.gclass g = 2 →
      let m2 := ((off.setGclass g 3).startTimer g).count Reg.FLT_ESC_CNT
      let m3 := Mach.faultEvent { m2 with flt := { m2.flt with fences := g :: m2.flt.fences.filter (· != g) } } g 2 3 1 u.1 u.2
      exec (.snufferExpiry group) s = .next { s with
        mach := (m3.fc3Effects s.store g).1, store := (m3.fc3Effects s.store g).2 }) ∧
    ((∃ t ∈ m.flt.timers, t.1 = g ∧ t.2 ≤ m.aon) → m.gclass g ≠ 2 → exec (.snufferExpiry group) s = .next { s with
      mach := ((off.count Reg.FLT_ESC_CNT).setGclass g 4).enterSafe g 3 1 u.1 u.2 })) ∧
  (∀ (s : State) (hi : Bool) (j : Nat), j < 32 → Writable s (if hi then Reg.FLT_FSW_HI else Reg.FLT_FSW_LO) →
    let m := s.mach
    let g := j + if hi then 32 else 0
    let value := BitVec.ofNat 32 (2 ^ j)
    let u := m.latchedBy g
    ((g = 63 ∨ m.fsw g = false) → exec (.fswClear hi value) s = .next s) ∧
    (g ≠ 63 → m.fsw g = true → (∃ p ∈ m.flt.pins, p.group = g) → exec (.fswClear hi value) s = .next { s with
      mach := (m.count Reg.FLT_CLR_REFUSE_CNT).faultEvent g (m.gclass g) (m.gclass g) 3 u.1 u.2 }) ∧
    (g ≠ 63 → m.fsw g = true → (∀ p ∈ m.flt.pins, p.group ≠ g) →
      let m1 := ((m.stopTimer g).setFsw g false).setGclass g 0
      let flt := { m1.flt with
        fences := m.flt.fences.filter (· != g), latched := m.flt.latched.filter fun x => x.1 != g
        galFences := if g = 28 then [] else m.flt.galFences }
      let m2 := Mach.faultEvent { m1 with flt := flt } g (m.gclass g) 7 2 u.1 u.2
      let back (a : Mach) (p : Port) : Mach := (p.lanes.foldl (fun b n => b.laneTrain n false) a).portWake p.first
      (4 ≤ g → exec (.fswClear hi value) s = .next { s with mach := m2 }) ∧
      (g < 4 → exec (.fswClear hi value) s = .next { s with
        mach := (m2.ports.filter fun p => p.first / 128 == g).foldl back m2 }))) ∧
  (∀ (s : State) (value : Word), Writable s Reg.FLT_WDOG →
    let m1 := s.mach.writeRw Reg.FLT_WDOG 0x3FFF value.toNat
    (bitOf value.toNat 31 = false → exec (.wdogKick value) s = .next { s with mach := m1 }) ∧
    (bitOf value.toNat 31 = true → exec (.wdogKick value) s = .next { s with mach := { m1 with
      flt := { m1.flt with wdogMs := max 1 (m1.fld Reg.FLT_WDOG 13 0), wdogKick := s.mach.aon } } })) ∧
  (∀ (s : State), s.mach.awake = true →
    let m := s.mach
    let due := m.flt.wdogKick + 1000000 * m.flt.wdogMs ≤ m.aon
    (m.flt.lanternReset = true ∨ ¬due → exec .wdogExpiry s = .next s) ∧
    (m.flt.lanternReset = false → due → exec .wdogExpiry s = .next { s with mach := m.lanternFault 0x48 }) ∧
    (m.flt.lanternVerify = false → ∀ r, exec (.lanternVerifyDone r) s = .next s) ∧
    (m.flt.lanternVerify = true → ∀ r,
      let ended (held : Bool) : Mach := { m with flt := { m.flt with lanternVerify := false, lanternReset := held, wdogKick := m.aon } }
      ((r = true ∧ m.imageRuns = true) → exec (.lanternVerifyDone r) s =
        .next { s with mach := (ended false).dropPins fun p => p.group == 35 }) ∧
      ((r = false ∨ m.imageRuns = false) → exec (.lanternVerifyDone r) s = .next { s with mach := ended true }))) ∧
  (∀ (s : State) (value : Word), Writable s Reg.FLT_CTL →
    let m1 := s.mach.writeLocked Reg.FLT_CTL 0x70000000 0x30000000 value.toNat
    let again := bitOf value.toNat 27 = true ∧ s.mach.flt.lanternReset = true ∧ 3 ≤ m1.stage
    (¬again → exec (.lanternRestart value) s = .next { s with mach := m1 }) ∧
    (again → exec (.lanternRestart value) s = .next { s with
      mach := { m1 with flt := { m1.flt with lanternVerify := true } } })) ∧
  (∀ (s : State) (value : Word), Writable s Reg.FLT_INJ →
    let m := s.mach
    let m1 := m.writeRw Reg.FLT_INJ 0x7FC001FF value.toNat
    let kind := bits value.toNat 30 29
    ((bitOf value.toNat 31 = false ∨ m.flag Reg.FLT_CTL 29 = false) → exec (.fltInjGo value) s = .next { s with mach := m1 }) ∧
    (bitOf value.toNat 31 = true → m.flag Reg.FLT_CTL 29 = true →
      (kind ≠ 3 →
        let j := (kind, bits value.toNat 26 22, bits value.toNat 8 0, (m.rd Reg.FLT_INJ_ADDR).toNat, max 1 (bits value.toNat 28 27))
        let flt := { m.flt with injections := m.flt.injections ++ [j] }
        exec (.fltInjGo value) s = .next { s with mach := { m1 with flt := flt } }) ∧
      (kind = 3 → m.flag Reg.FLT_CTL 28 = false → exec (.fltInjGo value) s = .next { s with mach := m1 }) ∧
      (kind = 3 → m.flag Reg.FLT_CTL 28 = true → exec (.fltInjGo value) s = .next { s with
        mach := ((m1.setFsw 38 true).setGclass 38 4).enterSafe 38 (m1.gclass 38) 0 0 0x44 })))

/-- Safe state heeds no reset pin. RESET_N, and WARM_RESET_N without a valid token, turn transmitters off, tear an image
being written, keep flash, fuses, the clock, the fault log and the bring-up counts, lose every memory and every other
register, and hold the module; WARM_RESET_N with a token keeps HBM and the warm registers as well, the layout and the
excluded positions. A power cycle loses the fault log too and holds the module in reset. Releasing a pin that is not
asserted changes nothing; releasing the last with power present starts stage B0 with the straps as they stand, warm
only if the token is valid and the pin is WARM_RESET_N; with the other pin asserted or power lost the module stays
held. The queue keeps its commands. (16 Fabric management, R422, R435; 18 Faults, R472, R478; 19 Bring-up, R481, R488,
R499; 23 Contacts, R567, R568.) -/
def Obligations.ResetsKeepWhatTheyKeepAndStartStages : Prop :=
  ∀ s : State,
    let m := s.mach
    let m1 := m.transmittersOff.tearFlash
    let token := m1.flag Reg.BOOT_STATUS 23
    let cold := m1.coldState
    let warm := m1.warmState
    let held (a : Mach) (r w : Bool) : Mach := { a with boot := { a.boot with resetN := r, warmN := w } }
    (m.flt.safe = true → ∀ w, exec (.resetAssert w) s = .next s) ∧
    (m.flt.safe = false →
      exec (.resetAssert false) s = .next { s with mach := held cold true m.boot.warmN, store := {} } ∧
      (token = false → exec (.resetAssert true) s = .next { s with mach := held cold m.boot.resetN true, store := {} }) ∧
      (token = true → exec (.resetAssert true) s =
        .next { s with mach := held warm m.boot.resetN true, store := { hbm := s.store.hbm } })) ∧
    (cold.regs = m1.regs.filter (fun c => (decide (0xA0010 ≤ c.1 ∧ c.1 < 0xA0018) || decide (0x20050 ≤ c.1 ∧ c.1 < 0x20060) ||
          decide (0x10050 ≤ c.1 ∧ c.1 < 0x10058))) ∧
      cold.sec = { arb := m.sec.arb, image := m1.sec.image } ∧ cold.ecc = { retire := m.ecc.flash, flash := m.ecc.flash } ∧
      cold.flt = { records := m.flt.records, safeEntries := m.flt.safeEntries } ∧ cold.aon = m.aon ∧ cold.out = m1.out ∧
      warm.time = { acc := m.time.acc, adv := m.time.adv, heard := m.time.heard, refills := m.time.refills } ∧
      warm.boot.excluded = m.boot.excluded ∧ warm.boot.badClusters = m.boot.badClusters ∧ warm.ecc.retire = m.ecc.retire ∧ warm.flt = cold.flt) ∧
    exec .powerOn s = .next { s with mach := { m.powerState with boot := { resetN := true } }, store := {} } ∧
    ∀ straps : BitVec 18,
      let free := held m false false
      (m.boot.resetN = false → exec (.resetRelease straps) s = .next s) ∧
      (m.boot.warmN = false → exec (.warmResetRelease straps) s = .next s) ∧
      (m.boot.resetN = true → (m.boot.warmN = true ∨ m.pwr.lost = true) →
        exec (.resetRelease straps) s = .next { s with mach := held m false m.boot.warmN }) ∧
      (m.boot.warmN = true → (m.boot.resetN = true ∨ m.pwr.lost = true) →
        exec (.warmResetRelease straps) s = .next { s with mach := held m m.boot.resetN false }) ∧
      (m.boot.resetN = true → m.boot.warmN = false → m.pwr.lost = false →
        exec (.resetRelease straps) s = .next { s with mach := free.startCold straps }) ∧
      (m.boot.warmN = true → m.boot.resetN = false → m.pwr.lost = false →
        exec (.warmResetRelease straps) s = .next { s with
          mach := if m.flag Reg.BOOT_STATUS 23 then free.startStages.setFlag Reg.BOOT_STATUS 24 true else free.startCold straps })

/-- While a stage runs: straps that ask a Jionuk width of 3 end B1 with FAIL and cause STRAP; an agent of a common domain
that failed ends B7 with cause AGENT; a stage other than B2 and B6 that reports FAIL halts with its cause and its
words; B2 with an image that does not verify reports WAITING; a stage that passes does its work, reports and enters
the next. A stage whose bound has passed on the always-on clock halts with TIMEOUT and holds Lantern in reset; before
that nothing changes. At B7 the expiry of an agent that is loaded (none is for a position fused off or excluded)
counts a resend while fewer than two stand for it, then adds it to the failed agents. In a halt, at B9, while WAITING
or not awake, none of the three changes anything. (16 Fabric management, R423; 19 Bring-up, R484, R485, R487, R489,
R490; 20 Identity and firmware, R516.) -/
def Obligations.StagesEndPassHaltOrWait : Prop :=
  ∀ s : State,
    let m := s.mach
    let n := m.stage
    let goes (m1 : Mach) : Host.Outcome State Fault Refusal := .next { s with mach := m1 }
    (m.staging = false → ∀ rep fail agent, exec (.stageEnd rep fail) s = .next s ∧ exec .stageTimeout s = .next s ∧
      exec (.agentTimeout agent) s = .next s) ∧
    (m.staging = true →
      (∀ rep fail,
        let d := rep.detail.map BitVec.toNat
        let map := rep.failMap.toNat
        (n = 1 → m.fld Reg.SVC_STRAPS 13 12 = 3 →
          exec (.stageEnd rep fail) s = goes (m.stageFails 1 1 (m.stageDetail 1 d) map)) ∧
        (n = 7 → (∃ a ∈ m.boot.agentsFailed, 552 ≤ a) →
          exec (.stageEnd rep fail) s = goes (m.stageFails 7 0x0B (m.stageDetail 7 d) map)) ∧
        (n = 0 ∨ n = 8 ∨ (n = 1 ∧ m.fld Reg.SVC_STRAPS 13 12 ≠ 3) ∨ n = 5 →
          (rep.result = 3 → exec (.stageEnd rep fail) s = goes (m.stageFails n rep.cause.toNat (m.stageDetail n d) map)) ∧
          (rep.result ≠ 3 →
            let m1 := m.stageWork n
            exec (.stageEnd rep fail) s = goes ((m1.stageReport n 0 0 (m1.stageDetail n d) map).enterStage s.store (n + 1) 5))) ∧
        (n = 2 →
          ((rep.result = 3 ∨ (imgFails m.sec.arb m.sec.image).isSome = true) → exec (.stageEnd rep fail) s = goes m.stageWaits) ∧
          (rep.result ≠ 3 → imgFails m.sec.arb m.sec.image = none →
            let m1 := m.stageWork 2
            exec (.stageEnd rep fail) s =
              goes ((m1.stageReport 2 0 0 (m1.stageDetail 2 d) map).enterStage s.store 3 5))) ∧
        (n = 3 ∨ n = 4 →
          let boot := { m.boot with
            excluded := m.boot.excluded ++ fail.positions.map BitVec.toNat
            badClusters := m.boot.badClusters ++ if n = 4 then fail.clusters.map BitVec.toNat else [] }
          let m1 : Mach := { m with boot := boot }
          let reduced := if fail.positions = [] ∧ fail.clusters = [] then 0 else 1
          (rep.result = 3 → exec (.stageEnd rep fail) s = goes (m1.stageFails n rep.cause.toNat (m1.stageDetail n d) map)) ∧
          (rep.result ≠ 3 → exec (.stageEnd rep fail) s =
            goes ((m1.stageReport n reduced 0 (m1.stageDetail n d) map).enterStage s.store (n + 1) 5))) ∧
        (n = 7 → (∀ a ∈ m.boot.agentsFailed, a < 552) →
          let m1 := m.stageWork 7
          let reduced := if m.boot.agentsFailed = [] then 0 else 1
          (rep.result = 3 → exec (.stageEnd rep fail) s = goes (m.stageFails 7 rep.cause.toNat (m.stageDetail 7 d) map)) ∧
          (rep.result ≠ 3 → exec (.stageEnd rep fail) s =
            goes ((m1.stageReport 7 reduced 0 (m1.stageDetail 7 d) map).enterStage s.store 8 5))) ∧
        (n = 6 → exec (.stageEnd rep fail) s = goes ((m.stageReport 6 0 0 (m.stageDetail 6 d) map).enterStage s.store 7 5))) ∧
      (let m1 := m.stageFails n 0x0D (m.stageDetail n []) 0
       let ends := m.boot.stageAt + 1000000 * [5, 50, 200, 60, 150, 400, 400, 100, 50].getD n 0
       (m.aon < ends → exec .stageTimeout s = .next s) ∧
       (ends ≤ m.aon → exec .stageTimeout s = goes { m1 with flt := { m1.flt with lanternReset := true } })) ∧
      (∀ agent : BitVec 10,
        let a := agent.toNat
        ((n ≠ 7 ∨ m.agentLoaded a = false ∨ a ∈ m.boot.agentsFailed) → exec (.agentTimeout agent) s = .next s) ∧
        (n = 7 → m.agentLoaded a = true → a ∉ m.boot.agentsFailed →
          let k := ((m.boot.resends.find? fun r => r.1 == a).map (·.2)).getD 0
          (k < 2 → exec (.agentTimeout agent) s = goes { m with
            boot := { m.boot with resends := (a, k + 1) :: m.boot.resends.filter fun r => r.1 != a } }) ∧
          (2 ≤ k → exec (.agentTimeout agent) s = goes { m with boot := { m.boot with agentsFailed := m.boot.agentsFailed ++ [a] } }))))

/-- A taken write of BST_REQ without GO stores the domain; with GO it is refused, counted and its refuser recorded at the
first cause that holds, or BST_STATUS shows BUSY with 12,000 slices, the group of the domain is bypassed and the
domain is held for test. A slice counts down one while a test has slices left, the calendar permits BIST with 1 µs
left in the entry, and neither brake nor power cap throttles; otherwise nothing changes. After the last slice the end
stores the signature and the result, ends the test and the bypass; a core that passes holds zeros in scratch and
program store and no fetch error, a core that fails is fenced, a spare that fails is unavailable. With slices left or
no test nothing changes. (17 Stored-data protection, R454; 19 Bring-up, R494 to R498, R502.) -/
def Obligations.DomainsAreTestedInServiceOneAtATime : Prop :=
  (∀ (s : State) (value : Word), Writable s Reg.BST_REQ →
    let m1 := s.mach.writeRw Reg.BST_REQ 0x7F value.toNat
    let d := value.toNat % 128
    (bitOf value.toNat 31 = false → exec (.bstReq value) s = .next { s with mach := m1 }) ∧
    (bitOf value.toNat 31 = true →
      (∀ cause holder, m1.bistBar d = some (cause, holder) → exec (.bstReq value) s = .next { s with
        mach := (m1.count Reg.BST_REFUSE_CNT).wr Reg.BST_REFUSE_LAST
          (BitVec.ofNat 32 (cause * 2 ^ 28 + holder * 2 ^ 16 + d)) }) ∧
      (m1.bistBar d = none →
        let m2 := (m1.wr Reg.BST_STATUS (BitVec.ofNat 32 (2 ^ 31 + 12000 * 2 ^ 7 + d))).bypassOn (bistGroup d)
        exec (.bstReq value) s = .next { s with mach := { m2 with boot := { m2.boot with bist := some d } } }))) ∧
  (∀ (m : Mach) (d : Nat),
    ((d < 36 ∨ 76 ≤ d) → m.bistBar d = some (0, 0)) ∧
    (44 ≤ d → d < 76 → m.stage < 9 → m.bistBar d = some (1, 0)) ∧
    (44 ≤ d → d < 76 → 9 ≤ m.stage → m.flt.lanternReset = true → m.bistBar d = some (2, 0)) ∧
    (44 ≤ d → d < 76 → 9 ≤ m.stage → m.flt.lanternReset = false → ∀ x, m.boot.bist = some x → m.bistBar d = some (3, x))) ∧
  (∀ s : State, s.mach.running = true →
    let m := s.mach
    let n := m.fld Reg.BST_STATUS 20 7
    let may := m.boot.bist ≠ none ∧ n ≠ 0 ∧ m.calPermits 29 = true ∧ (∀ e left, m.runningEntry = some (e, left) → 1000 ≤ left) ∧
      m.pwr.brake = false ∧ m.flag Reg.PWR_STATUS 27 = false
    (may → exec .bistSlice s = .next { s with mach := m.setFld Reg.BST_STATUS 20 7 (n - 1) }) ∧
    (¬may → exec .bistSlice s = .next s) ∧
    (∀ pass sig, (m.boot.bist = none ∨ n ≠ 0) → exec (.bistEnd pass sig) s = .next s) ∧
    (∀ d (sig : Quad), m.boot.bist = some d → n = 0 →
      let m1 := (m.wr Reg.BST_SIG_LO (BitVec.ofNat 32 sig.toNat)).wr Reg.BST_SIG_HI (BitVec.ofNat 32 (sig.toNat / 2 ^ 32))
      let k := d - 44
      (d < 44 → exec (.bistEnd true sig) s = .next { s with mach := m1.bistOver d 1 } ∧
        exec (.bistEnd false sig) s = .next { s with mach := (m1.bistOver d 2).spareFails (d - 36) }) ∧
      (44 ≤ d →
        let clean : Store := { s.store with
          scratch := sclear s.store.scratch (k * 2 ^ 23) ((k + 1) * 2 ^ 23)
          prog := sclear s.store.prog (k * 32768) ((k + 1) * 32768) }
        exec (.bistEnd true sig) s = .next { s with
          mach := ((m1.bistOver d 1).codeWritten 3 k 0 (2 ^ 20)).modCore k fun c => { c with poisoned := [], badFetch := [] }
          store := clean } ∧
        exec (.bistEnd false sig) s = .next { s with mach := (m1.bistOver d 2).coreFence s.store k .uncorrectable 0x08 })))

/-- A taken write of SEC_CTL with one command: EXTEND replaces measurement IDX by SM3 of it and the extension data, waits
while a quote is made, and of a measurement below 6 counts as an error; QUOTE starts a quote or sets its error bit
below B9, during one, or while group 37 is fenced; ARB_ADVANCE makes the count the SVN of the running image or is
refused and flagged. A quote ends signed by the key store and applies what waited. GO of a push is refused with its
cause during one, with flash fenced, with Lantern held, or at a bad address (cause free, log 50), else starts the
verify pass. Verify, program and check follow in order; a failed fetch, verification or flash page ends the push with
its cause. With no push or no quote running, their ends change nothing. (15 Jionuk, R394; 18 Faults, R462; 20 Identity
and firmware, R511, R512, R516, R518 to R521.) -/
def Obligations.MeasurementsQuotesAndImagesFollowTheirCommands : Prop :=
  (∀ (s : State) (value : Word), Writable s Reg.SEC_CTL →
    let m := s.mach
    let n := value.toNat % 8
    let goes (m1 : Mach) : Host.Outcome State Fault Refusal := .next { s with mach := m1 }
    (bitOf value.toNat 31 = true → bitOf value.toNat 30 = false → bitOf value.toNat 29 = false →
      (n < 6 → exec (.extend value) s = goes (m.count Reg.SEC_ERR_CNT)) ∧
      (6 ≤ n → m.sec.quoting = true → exec (.extend value) s =
        goes { m with sec := { m.sec with extends_ := m.sec.extends_ ++ [n] } }) ∧
      (6 ≤ n → m.sec.quoting = false → exec (.extend value) s =
        goes (m.setMeas n (sm3 (m.meas n ++ wordBytes ((List.range 16).map fun w => m.rd (Reg.SEC_EXT_W w))))))) ∧
    (bitOf value.toNat 31 = false → bitOf value.toNat 30 = true → bitOf value.toNat 29 = false →
      let bar := m.stage < 9 ∨ m.sec.quoting = true ∨ 37 ∈ m.flt.fences
      (bar → exec (.quote value) s = goes (m.setFlag Reg.SEC_CTL 27 true)) ∧
      (¬bar →
        let m1 := m.setFld Reg.SEC_CTL 28 27 0
        exec (.quote value) s = goes { m1 with sec := { m1.sec with quoting := true } })) ∧
    (bitOf value.toNat 31 = false → bitOf value.toNat 30 = false → bitOf value.toNat 29 = true →
      let bar := m.sec.svn ≤ m.sec.arb ∨ imgFails m.sec.arb m.sec.image ≠ none ∨ imgSvn m.sec.image < m.sec.svn ∨
        m.flag Reg.SEC_FW_CTL 30 = true ∨ 37 ∈ m.flt.fences
      (bar → exec (.arbAdvance value) s = goes (m.setFlag Reg.SEC_CTL 26 true)) ∧
      (¬bar →
        let m1 := m.setFlag Reg.SEC_CTL 26 false
        exec (.arbAdvance value) s = goes { m1 with sec := { m1.sec with arb := m.sec.svn } }))) ∧
  (∀ s : State, s.mach.awake = true →
    (s.mach.sec.quoting = false → exec .quoteDone s = .next s) ∧
    (s.mach.sec.quoting = true →
      let m : Mach := { s.mach with free := s.mach.free + 1 }
      let body := m.quoteBody
      ∃ nonce, 1 ≤ nonce ∧ nonce < sm2N ∧
        let words := bytesWords (body ++ sm2Sign nonce body)
        let m1 := ((List.range 100).foldl (fun a k => a.wr (Reg.SEC_QUOTE_W k) (words.getD k 0)) m).setFlag Reg.SEC_CTL 28 true
        let m2 : Mach := { m1 with sec := { m1.sec with quoting := false, extends_ := [] } }
        exec .quoteDone s = .next { s with mach := m.sec.extends_.foldl Mach.extend_ m2 })) ∧
  (∀ (s : State) (value : Word), Writable s Reg.SEC_FW_CTL →
    let m := s.mach
    let addr := m.rd64 Reg.SEC_FW_ADDR_LO Reg.SEC_FW_ADDR_HI
    let busy := m.flag Reg.SEC_FW_CTL 30
    let flash := m.flt.fences.contains 36
    let held := m.flt.lanternReset && !m.boot.waitingImage
    let bad := addr % 4096 ≠ 0 ∨ m.ownWindow addr (m.rd Reg.SEC_FW_LEN).toNat = true
    (bitOf value.toNat 31 = false → exec (.fwPush value) s = .next s) ∧
    (bitOf value.toNat 31 = true →
      (busy = true → exec (.fwPush value) s = .next { s with mach := m.pushRefuse 11 }) ∧
      (busy = false → flash = true → exec (.fwPush value) s = .next { s with mach := m.pushRefuse 9 }) ∧
      (busy = false → flash = false → held = true → exec (.fwPush value) s = .next { s with mach := m.pushRefuse 10 }) ∧
      (busy = false → flash = false → held = false → bad → ∃ cause < 256,
        exec (.fwPush value) s = .next { s with mach := Mach.pushRefuse { m with free := m.free + 1 } cause }) ∧
      (busy = false → flash = false → held = false → ¬bad →
        let m1 := m.wr Reg.SEC_FW_CTL 0x41000000
        exec (.fwPush value) s = .next { s with
          mach := { m1 with boot := { m.boot with attempts := m.boot.attempts + b2n m.boot.waitingImage } } }))) ∧
  (∀ (s : State) (image : List Byte), s.mach.awake = true →
    let m := s.mach
    let img := image.take (m.rd Reg.SEC_FW_LEN).toNat
    let phase := m.fld Reg.SEC_FW_CTL 26 24
    let goes (m1 : Mach) : Host.Outcome State Fault Refusal := .next { s with mach := m1 }
    (m.flag Reg.SEC_FW_CTL 30 = false → ∀ e, exec (.pushPhaseDone e image) s = .next s) ∧
    (m.flag Reg.SEC_FW_CTL 30 = true →
      (phase = 1 →
        exec (.pushPhaseDone .fetch image) s = goes (m.pushFails 8 false) ∧
        (imgFails m.sec.arb img = none → exec (.pushPhaseDone .done image) s = goes (m.setFld Reg.SEC_FW_CTL 26 24 2)) ∧
        (∀ v, imgFails m.sec.arb img = some v → exec (.pushPhaseDone .done image) s =
          goes (if m.boot.waitingImage then m.setFld Reg.SEC_FW_CTL 26 24 2 else m.pushFails v false))) ∧
      (phase = 2 →
        exec (.pushPhaseDone .fetch image) s = goes (m.pushFails 8 true) ∧
        (∀ n, exec (.pushPhaseDone (.flash n) image) s =
          goes (((m.setFld Reg.SEC_FW_CTL 15 0 n.toNat).pushFails 9 true).raisePin 36 2 0 0x30C)) ∧
        (let m1 := (m.setFld Reg.SEC_FW_CTL 26 24 3).setFld Reg.SEC_FW_CTL 15 0 ((img.length + 4095) / 4096)
         exec (.pushPhaseDone .done image) s = goes { m1 with sec := { m1.sec with image := img } })) ∧
      (phase = 3 →
        (imgFails m.sec.arb m.sec.image = none → exec (.pushPhaseDone .done image) s = goes (m.pushPasses s.store)) ∧
        (∀ v, imgFails m.sec.arb m.sec.image = some v → exec (.pushPhaseDone .done image) s = goes (m.pushFails v false)))))

/-- The effective level is the lowest in performance of the request and the caps, a port die at S when the power cap is at
P5. A taken write of PWR_LEVEL_REQ stores the request and settles the levels. The brake's assertion counts once and
settles, its release settles, each only while awake from B1; a repeated assertion changes nothing. A die above 105 °C
falls a level, one below 100 °C rises one, between them its cap stays; above 115 °C group 33 is raised; nothing
happens in reset. A power sample is stored, the last eight kept; each tenth above the cap in a row lowers the level,
each hundredth below 95 % of it raises it. A step of a change stops the clocks and switches the divider before the
voltage falls, and raises the voltage before the clocks rise. The trip output is driven in any state. (21 Power, R526
to R529, R540, R541; 08 Determinism, R218.) -/
def Obligations.LevelsFollowTheLowestLimit : Prop :=
  (∀ (m : Mach) (d : Nat),
    let brake := if m.pwr.brake then 3 else 0
    (4 ≤ d → m.reqLevel d ≤ m.effLevel d ∧ m.thermalCap d ≤ m.effLevel d ∧ m.pwr.power ≤ m.effLevel d ∧ brake ≤ m.effLevel d ∧
      (m.effLevel d = m.reqLevel d ∨ m.effLevel d = m.thermalCap d ∨ m.effLevel d = m.pwr.power ∨ m.effLevel d = brake)) ∧
    (d < 4 → m.reqLevel d ≤ m.effLevel d ∧ m.thermalCap d ≤ m.effLevel d ∧ (m.pwr.power = 5 → 1 ≤ m.effLevel d) ∧
      (m.effLevel d = m.reqLevel d ∨ m.effLevel d = m.thermalCap d ∨ (m.pwr.power = 5 ∧ m.effLevel d = 1)))) ∧
  (∀ (s : State) (value : Word), Writable s Reg.PWR_LEVEL_REQ → exec (.pwrLevelReq value) s = .next { s with
    mach := (s.mach.writeRw Reg.PWR_LEVEL_REQ 0xFCF value.toNat).settleLevels }) ∧
  (∀ s : State,
    let m := s.mach
    let set (b : Bool) : Mach := { m with pwr := { m.pwr with brake := b } }
    let live := m.awake = true ∧ 1 ≤ m.stage
    (m.pwr.brake = true → exec .brakeAssert s = .next s) ∧
    (m.pwr.brake = false →
      (live → exec .brakeAssert s = .next { s with mach := ((set true).countWrap Reg.DGT_TEV_THROTTLE).settleLevels }) ∧
      (¬live → exec .brakeAssert s = .next { s with mach := set true })) ∧
    (live → exec .brakeRelease s = .next { s with mach := (set false).settleLevels }) ∧
    (¬live → exec .brakeRelease s = .next { s with mach := set false }) ∧
    exec .thermTrip s = .next { s with mach := { m with pwr := { m.pwr with thermTrip := true } } }) ∧
  (∀ (s : State) (sensor : BitVec 3) (temp : Byte),
    let m := s.mach
    let d := sensor.toNat
    let m1 := m.setTemp d temp
    let cap (n : Nat) : Mach := Mach.settleLevels { m1 with pwr := { m1.pwr with thermal := modNth (fun _ => n) d m1.pwr.thermal } }
    let low := if d < 4 then 1 else 5
    let held := m.boot.resetN = true ∨ m.boot.warmN = true
    (held → exec (.thermalCap sensor temp) s = .next s) ∧
    (¬held → 6 ≤ d → exec (.thermalCap sensor temp) s = .next { s with mach := m1 }) ∧
    (¬held → d < 6 → m1.awake = true →
      (100 ≤ temp.toInt → temp.toInt ≤ 105 → exec (.thermalCap sensor temp) s = .next { s with mach := cap (m1.thermalCap d) }) ∧
      (temp.toInt < 100 → exec (.thermalCap sensor temp) s = .next { s with mach := cap (m1.thermalCap d - 1) }) ∧
      (105 < temp.toInt →
        let base := if 105 < m.temp d then m1.thermalCap d else m1.effLevel d
        let m2 := cap (min low (base + 1))
        (temp.toInt ≤ 115 → exec (.thermalCap sensor temp) s = .next { s with mach := m2 }) ∧
        (115 < temp.toInt → exec (.thermalCap sensor temp) s =
          .next { s with mach := m2.raisePin 33 4 0 (if d < 4 then 0x50 else 0x54) })))) ∧
  (∀ (s : State) (watts vin : BitVec 16), s.mach.boot.resetN = false → s.mach.boot.warmN = false →
    let m1 := (s.mach.setFld Reg.PWR_VIN 31 16 watts.toNat).setFld Reg.PWR_VIN 15 0 vin.toNat
    let l := s.mach.pwr.samples ++ [watts.toNat]
    let m2 : Mach := { m1 with pwr := { m1.pwr with samples := l.drop (l.length - 8) } }
    exec (.powerCap watts vin) s = .next { s with mach := if m2.awake then m2.powerMove watts.toNat else m2 }) ∧
  (∀ (m : Mach) (w : Nat),
    let cap := min 1900 (max 600 (m.fld Reg.PWR_CAP 10 0))
    let m1 (a b : Nat) : Mach := { m with pwr := { m.pwr with above := a, below := b } }
    (95 * cap ≤ 100 * w → w ≤ cap → m.powerMove w = m1 0 0) ∧
    (cap < w → m.pwr.above % 10 ≠ 0 → m.powerMove w = m1 (m.pwr.above + 1) 0) ∧
    (cap < w → m.pwr.above % 10 = 0 → m.pwr.power = 5 → m.powerMove w = (m1 (m.pwr.above + 1) 0).count Reg.PWR_CAP_MISS_CNT) ∧
    (cap < w → m.pwr.above % 10 = 0 → m.pwr.power ≠ 5 →
      let a := m1 (m.pwr.above + 1) 0
      let new := min 5 (max m.pwr.power (min (m.effLevel 4) (m.effLevel 5)) + 1)
      m.powerMove w = Mach.settleLevels { a with pwr := { a.pwr with power := new } }) ∧
    (100 * w < 95 * cap → (m.pwr.below + 1) % 100 ≠ 0 → m.powerMove w = m1 0 (m.pwr.below + 1)) ∧
    (100 * w < 95 * cap → (m.pwr.below + 1) % 100 = 0 →
      let a := m1 0 (m.pwr.below + 1)
      m.powerMove w = Mach.settleLevels { a with pwr := { a.pwr with power := m.pwr.power - 1 } })) ∧
  (∀ (s : State) (die : BitVec 3), s.mach.awake = true →
    let m := s.mach
    let d := die.toNat
    let want := m.effLevel d
    let run := m.pwr.run.getD d 0
    let volt := m.pwr.volt.getD d 0
    let step := m.pwr.step.getD d 0
    let volts : Mach := { m with pwr := { m.pwr with volt := modNth (fun _ => want) d m.pwr.volt } }
    let next : Mach := { m with pwr := { m.pwr with step := modNth (fun _ => step + 1) d m.pwr.step } }
    let last : Mach := { m with pwr := { m.pwr with
      step := modNth (fun _ => 0) d m.pwr.step
      run := modNth (fun _ => want) d m.pwr.run } }
    (6 ≤ d → exec (.levelStep die) s = .next s) ∧
    (d < 6 →
      (run = want → step = 0 → volt = want → exec (.levelStep die) s = .next { s with mach := m.capEvents }) ∧
      (run = want → step = 0 → volt ≠ want → exec (.levelStep die) s = .next { s with mach := volts.capEvents }) ∧
      (step = 0 → want < run → want < volt → exec (.levelStep die) s = .next { s with mach := volts.capEvents }) ∧
      (run ≠ want ∨ step ≠ 0 → ¬(step = 0 ∧ want < run ∧ want < volt) →
        (step < 2 → exec (.levelStep die) s = .next { s with mach := next.capEvents }) ∧
        (2 ≤ step → exec (.levelStep die) s = .next { s with mach := last.capEvents }))))

/-- A taken write of PWR_DOMAIN_OFF takes its requests in order; a domain that may not go off is refused, counted and
recorded with its cause, and one that comes back is shown on, initialised and reported, once the domain it needs is
on. GO with state 2 or 3 is refused during an entry or at the first thing that bars it, else links are told, the warm
token is lost, PWR_RETAIN and PWR_WAKE_CFG are taken and step 1 begins; without GO nothing happens. A WAKE press, a
supply below VIN_LO or a reading above TEMP_C wakes only if its enable, as the entry took it, is set. Power loss
stores the supply reading, writes the last-gasp record once Lantern runs, turns transmitters and rings off and shows
every domain but D87 off; a second one changes nothing. The supply's return brings the module up cold with its
memories lost; safe state stands. (11 Lanes, R312; 16 Fabric management, R437; 18 Faults, R472; 21 Power, R524, R530
to R534, R536 to R538, R541.) -/
def Obligations.DomainsAndModuleStatesSwitch : Prop :=
  (∀ (s : State) (value : Word), exec (.pwrDomainOff 3 value) s = .next s) ∧
  (∀ (s : State) (word : BitVec 2) (value : Word), word ≠ 3 → Writable s (Reg.PWR_DOMAIN_OFF_W word.toNat) →
    let w := word.toNat
    let m1 := s.mach.writeRw (Reg.PWR_DOMAIN_OFF_W w) (if w = 2 then 0x3FCFFF else 0xFFFFFFFF) value.toNat
    let mine := offOrder.filter fun d => d / 32 == w
    let m2 := (mine.filter fun d => bitOf value.toNat (d % 32)).foldl Mach.domainGo m1
    exec (.pwrDomainOff word value) s = .next { s with
      mach := (mine.filter fun d => !bitOf value.toNat (d % 32) && m2.domainOff d).foldl Mach.domainCome m2 }) ∧
  (∀ (m : Mach) (d : Nat), m.domainOff d = false →
    (∀ cause x, m.domainBar d = some (cause, x) → m.domainGo d = ((m.count Reg.PWR_REFUSE_CNT).wr Reg.PWR_REFUSE_LAST
      (BitVec.ofNat 32 (cause * 2 ^ 28 + x))).powerEvent 4 0 7 0 cause x) ∧
    (44 ≤ d → d < 76 → m.domainBar d = none → m.domainGo d =
      ((m.setCore { core := d - 44 }).domainSet d true).powerEvent 3 0 7 0 0 d)) ∧
  (∀ (s : State) (domain : BitVec 7),
    let m := s.mach
    let d := domain.toNat
    let due := m.awake = true ∧ d ∈ m.pwr.starting ∧ ∀ x, domainNeeds d = some x → m.domainOff x = false
    let m1 : Mach := { m with pwr := { m.pwr with starting := m.pwr.starting.filter (· != d) } }
    let r := (m1.domainSet d false).domainInit s.store d
    (¬due → exec (.domainOnDone domain) s = .next s) ∧
    (due → exec (.domainOnDone domain) s = .next { s with mach := r.1.powerEvent 3 0 7 0 0 d, store := r.2 })) ∧
  (∀ (s : State) (value : Word), Writable s Reg.PWR_STATE_REQ →
    ∀ c ∈ [Instr.stateReqM2 value, .stateReqM3 value],
    let m := s.mach
    let k := value.toNat % 4
    ((bitOf value.toNat 31 = false ∨ k < 2) → exec c s = .next s) ∧
    (bitOf value.toNat 31 = true → 2 ≤ k →
      (m.flag Reg.PWR_STATUS 29 = true → exec c s = .next { s with mach := m.pwrRefuse (k - 1) 9 87 }) ∧
      (m.flag Reg.PWR_STATUS 29 = false →
        (∀ cause d, m.entryBar k = some (cause, d) → exec c s = .next { s with mach := m.pwrRefuse (k - 1) cause d }) ∧
        (m.entryBar k = none →
          let m1 := (m.setFlag Reg.PWR_STATUS 29 true).setFlag Reg.BOOT_STATUS 23 false
          let tell (a : Mach) (p : Port) : Mach :=
            let b := a.sendLink p.first false 1
            if 3 ≤ p.negRev then b.sendLink p.first false 3 else b
          let m2 := (m1.ports.filter Port.usable).foldl tell m1
          exec c s = .next { s with mach := { m2 with pwr := { m2.pwr with
            entering := some ⟨k, m.aon, 1⟩, retain := (m.rd Reg.PWR_RETAIN).toNat, wakeCfg := (m.rd Reg.PWR_WAKE_CFG).toNat } } })))) ∧
  (∀ s : State,
    let m := s.mach
    let woken (m1 : Mach) (source : Nat) : State := { s with mach := (m1.wakeUp s.store source).1, store := (m1.wakeUp s.store source).2 }
    (m.awake = true → m.pwr.entering = none → exec .wake s = .next { s with mach := m.countPress 8 }) ∧
    (m.awake = false → bitOf m.pwr.wakeCfg 31 = false → exec .wake s = .next s) ∧
    (m.awake = false → 2 ≤ m.mstate → m.boot.resetN = false → m.boot.warmN = false → m.flt.safe = false → m.pwr.lost = false →
      bitOf m.pwr.wakeCfg 31 = true → ∀ m1, m1 = (m.sleepExit m.mstate).wakeNote 1 →
      exec .wake s = .next { s with mach := if m1.awake then m1.countPress 8 else m1 }) ∧
    (∀ vin : BitVec 16,
      let m1 := m.setFld Reg.PWR_VIN 15 0 vin.toNat
      let on := bitOf m.pwr.wakeCfg 30 = true ∧ vin.toNat < 250 * bits m.pwr.wakeCfg 15 8
      (on → exec (.wakeVin vin) s = .next (woken m1 2)) ∧ (¬on → exec (.wakeVin vin) s = .next { s with mach := m1 })) ∧
    (∀ (sensor : BitVec 3) (temp : Byte),
      let m1 := m.setTemp sensor.toNat temp
      let on := bitOf m.pwr.wakeCfg 29 = true ∧ (bits m.pwr.wakeCfg 23 16 : Int) < temp.toInt
      (on → exec (.wakeTemp sensor temp) s = .next (woken m1 3)) ∧
      (¬on → exec (.wakeTemp sensor temp) s = .next { s with mach := m1 }))) ∧
  (∀ s : State,
    let m := s.mach
    (m.pwr.lost = true → ∀ vin, exec (.powerLoss vin) s = .next s) ∧
    (m.pwr.lost = false → ∀ vin : BitVec 16,
      let m1 := m.setFld Reg.PWR_VIN 15 0 vin.toNat
      let m2 := if m.flt.lanternReset = false ∨ m.flt.safe = true ∨ 2 ≤ m.mstate then m1.writeGasp else m1
      let m3 := (((m2.transmittersOff.tearFlash).setFlag Reg.JNK_STATUS 31 false).setFlag Reg.BOOT_STATUS 23 false).allOff
      let pwr := { m3.pwr with lost := true, entering := none, starting := [] }
      exec (.powerLoss vin) s = .next { s with mach := { m3 with pwr := pwr, ecc := { m3.ecc with busy := false } } }) ∧
    (∀ straps : BitVec 18,
      (m.pwr.lost = false → exec (.vinReturn straps) s = .next s) ∧
      (m.pwr.lost = true → m.flt.safe = true → exec (.vinReturn straps) s =
        .next { s with mach := { m with pwr := { m.pwr with lost := false } } }) ∧
      (m.pwr.lost = true → m.flt.safe = false → m.boot.resetN = false → m.boot.warmN = false →
        exec (.vinReturn straps) s = .next { s with mach := m.powerState.startCold straps, store := {} }) ∧
      (m.pwr.lost = true → m.flt.safe = false → (m.boot.resetN = true ∨ m.boot.warmN = true) →
        exec (.vinReturn straps) s = .next { s with mach := m.powerState, store := {} })))

/-- A taken write of GLB_WIN_CTL with VALID sets VALID and clears ERR for bases that are aligned and apart, else the
reverse; without VALID it is discarded and counted while VALID stands and a ring set is enabled, else clears VALID. A
taken write of GLB_LOCK sets the bits written 1 among the three and clears none; INJ then also clears the
fault-injection enables and every armed injection. Loss of PLL lock from stage B2, a rail out of regulation and a
die-to-die fault raise group 34, 32 and 31 at FC4 (detail free, log 51), in reset or without power nothing. A PMBus
read answers its word, or a NACK in reset and for a code not given. IDCODE and BYPASS shift out their bits while out
of reset, PRELOAD loads the boundary cells, EXTEST drives them only in reset, and a test instruction with JTAG locked
has no effect. (18 Faults, R462, R469; 21 Power, R523, R535; 22 Register map, R552, R554; 23 Contacts, R565, R566,
R568.) -/
def Obligations.LocksWindowsBoardFaultsAndManagementBuses : Prop :=
  (∀ (s : State) (value : Word), Writable s Reg.GLB_WIN_CTL →
    let m := s.mach
    let c := m.rd64 Reg.GLB_CFG_BASE_LO Reg.GLB_CFG_BASE_HI
    let f := m.rd64 Reg.GLB_FMW_BASE_LO Reg.GLB_FMW_BASE_HI
    let good := c % 2 ^ 26 = 0 ∧ f % 2 ^ 39 = 0 ∧ (c + 2 ^ 26 ≤ f ∨ f + 2 ^ 39 ≤ c)
    let busy := m.flag Reg.GLB_WIN_CTL 31 = true ∧ ∃ k < 65, m.ringEn k = true
    (bitOf value.toNat 31 = true →
      (good → exec (.glbWinValid value) s = .next { s with
        mach := (m.setFlag Reg.GLB_WIN_CTL 31 true).setFlag Reg.GLB_WIN_CTL 30 false }) ∧
      (¬good → exec (.glbWinValid value) s = .next { s with
        mach := (m.setFlag Reg.GLB_WIN_CTL 31 false).setFlag Reg.GLB_WIN_CTL 30 true })) ∧
    (bitOf value.toNat 31 = false →
      (busy → exec (.glbWinValid value) s = .next { s with mach := m.count Reg.JNK_CFG_MISS_CNT }) ∧
      (¬busy → exec (.glbWinValid value) s = .next { s with mach := m.setFlag Reg.GLB_WIN_CTL 31 false }))) ∧
  (∀ (s : State) (value : Word), Writable s Reg.GLB_LOCK →
    ∀ c ∈ [Instr.lockFeat value, .lockInj value, .lockJtag value],
    let m1 := s.mach.wr Reg.GLB_LOCK (s.mach.rd Reg.GLB_LOCK ||| (value &&& 7))
    let m2 := ((m1.setFlag Reg.FLT_CTL 29 false).setFlag Reg.FLT_CTL 28 false).setFlag Reg.TRL_FI_EN 31 false
    (m1.flag Reg.GLB_LOCK 1 = false → exec c s = .next { s with mach := m1 }) ∧
    (m1.flag Reg.GLB_LOCK 1 = true → exec c s = .next { s with mach := { m2 with flt := { m2.flt with injections := [] } } })) ∧
  (∀ s : State,
    let m := s.mach
    let held := m.boot.resetN = true ∨ m.boot.warmN = true ∨ m.pwr.lost = true
    let next : Mach := { m with free := m.free + 1 }
    (m.stage < 2 → exec .pllLockLoss s = .next s) ∧
    (held → ∀ x, exec .pllLockLoss s = .next s ∧ exec (.railOutOfRegulation x) s = .next s ∧ exec (.d2dLinkFault x) s = .next s) ∧
    (¬held → ∀ x, ∃ detail < 65536,
      (2 ≤ m.stage → exec .pllLockLoss s = .next { s with mach := next.raisePin 34 4 0 detail }) ∧
      exec (.railOutOfRegulation x) s = .next { s with mach := next.raisePin 32 4 0 detail } ∧
      exec (.d2dLinkFault x) s = .next { s with mach := next.raisePin 31 4 0 detail })) ∧
  (∀ (s : State),
    let m := s.mach
    let answer (v : Option Word) : Host.Outcome State Fault Refusal := .next { s with mach := m.emit (.pmbus v) }
    let vin := m.fld Reg.PWR_VIN 15 0
    let pin := m.fld Reg.PWR_VIN 31 16
    let linear (n : Int) (d : Nat) : Option Word := some ((Config.linear11 n d).setWidth 32)
    (m.boot.resetN = true → ∀ code, exec (.pmbusCommand code) s = answer none) ∧
    (m.boot.resetN = false →
      exec (.pmbusCommand 0x79) s = answer (some (BitVec.ofNat 32 (4 * b2n (m.flag Reg.PWR_STATUS 28) + 8 * b2n m.pwr.lost))) ∧
      exec (.pmbusCommand 0x88) s = answer (linear vin 1000) ∧
      exec (.pmbusCommand 0x89) s = answer (linear (1000 * pin : Nat) vin) ∧
      exec (.pmbusCommand 0x8D) s = answer (linear (m.hottest 6) 1) ∧
      exec (.pmbusCommand 0x8E) s = answer (linear (m.temp 7) 1) ∧
      exec (.pmbusCommand 0x97) s = answer (linear pin 1) ∧
      exec (.pmbusCommand 0x98) s = answer (some 0x33) ∧
      ∀ code : Byte, code ∉ ([0x79, 0x88, 0x89, 0x8D, 0x8E, 0x97, 0x98] : List Byte) →
        exec (.pmbusCommand code) s = answer none)) ∧
  (∀ (s : State) (data : BitVec 66),
    let m := s.mach
    let cells (m1 : Mach) : State := { s with mach := { m1 with tap := data } }
    let code := 0x05120DAB + Config.stepping.val * 2 ^ 28
    exec (.tapInstruction .preload data) s = .next (cells m) ∧
    (∀ i, m.flag Reg.GLB_LOCK 2 = true → exec (.tapInstruction (.test i) data) s = .next s) ∧
    (m.boot.resetN = true →
      exec (.tapInstruction .idcode data) s = .next s ∧ exec (.tapInstruction .bypass data) s = .next s ∧
      exec (.tapInstruction .sample data) s = .next { s with mach := { m with free := m.free + 1 } } ∧
      exec (.tapInstruction .extest data) s = .next (cells (m.emit (.tap .extest m.tap.toNat)))) ∧
    (m.boot.resetN = false →
      exec (.tapInstruction .idcode data) s = .next { s with mach := m.emit (.tap .idcode code) } ∧
      exec (.tapInstruction .bypass data) s = .next { s with mach := m.emit (.tap .bypass (data.toNat * 2 % 2 ^ 66)) } ∧
      exec (.tapInstruction .extest data) s = .next s ∧
      ∃ v < 2 ^ 66, exec (.tapInstruction .sample data) s =
        .next { s with mach := Mach.emit { m with free := m.free + 1 } (.tap .sample v) }))

/-- While the data path runs, on a port that carries time (UP, DEGRADED or QUARANTINE), a Sync, a Pdelay_Req and a
Pdelay_Resp delivered by a link-layer replay, whatever they hold, leave a state that differs from the one before in
TIM_ERR_CNT alone, which counts one and saturates: no measurement is taken, no peer delay set and no answer sent; and
a Sync that the source port then takes on the same terms, not replayed, is measured. (R245.) -/
def Obligations.ReplayedTimePacketsAreDiscardedAndCounted : Prop :=
  ∀ (s : State) (port : BitVec 9) (domain : Byte) (sdo : BitVec 12), s.mach.running = true → s.mach.timePort port.toNat = true →
    let m := s.mach
    let n : Word := if m.rd Reg.TIM_ERR_CNT = 0xFFFFFFFF then 0xFFFFFFFF else m.rd Reg.TIM_ERR_CNT + 1
    let counted : State := { s with mach := { m with regs := sput regReset m.regs Reg.TIM_ERR_CNT n } }
    (∀ sec ns corr seq identity,
      exec (.sync port domain sdo sec ns corr true) s = .next counted ∧
      exec (.pdelayReq port domain sdo seq identity true) s = .next counted ∧
      exec (.pdelayResp port domain sdo corr true) s = .next counted) ∧
    (m.sourcePort port.toNat = true → domain.toNat = m.fld Reg.TIM_CTL 23 16 → sdo = 0x531 →
      ∀ d, m.time.peerDelay.find? (fun x => x.1 == port.toNat) = some (port.toNat, d) → ∀ sec ns corr,
      exec (.sync port domain sdo sec ns corr false) s = .next { s with
        mach := m.measure (((sec.toNat * 10 ^ 9 + ns.toNat) * nsUnit : Nat) + corr.toInt * 1000000 + d - (m.time.acc : Int)) })

/-- With the link up, outside safe state, for a good request of the configuration window at an aligned offset: where no
register is, among them every offset from 0x0024_0000, a read answers 0 and a write is discarded and answered with
CMP, and each counts once in JNK_CFG_MISS_CNT and changes nothing else. A per-port register of a lane that is not the
first lane of a configured port reads 0 and is not counted; a register whose domain is off reads its reset value and
is not counted; a write to either is discarded and counted. (R546.) -/
def Obligations.UnimplementedOffsetsReadZeroAndCount : Prop :=
  (∀ a, 0x240000 ≤ a → regDesc? a = none) ∧
  (∀ (s : State) (h : JnkHdr) (value : Word), s.mach.jnkUp = true → s.mach.flt.safe = false →
    h.bad = false → h.win = 0 → h.addr.toNat % 4 = 0 → h.addr.toNat < 2 ^ 26 →
    let m := s.mach
    let a := h.addr.toNat
    let tag := h.tag.toNat
    let n : Word := if m.rd Reg.JNK_CFG_MISS_CNT = 0xFFFFFFFF then 0xFFFFFFFF else m.rd Reg.JNK_CFG_MISS_CNT + 1
    let counted : Mach := { m with regs := sput regReset m.regs Reg.JNK_CFG_MISS_CNT n }
    let data (v : Nat) : Out := .jnk { opc := 0x21, tag := tag, addr := a, value := v, data := [] }
    let cmp : Out := .jnk { opc := 0x20, tag := tag, addr := a, value := 0, data := [] }
    let read (m1 : Mach) (v : Nat) : State := { s with mach := { m1 with out := m1.out ++ [data v] } }
    let discarded : State := { s with mach := { counted with out := m.out ++ [cmp] } }
    (regDesc? a = none → exec (.cfgRd h) s = .next (read counted 0) ∧ exec (.cfgWr h value) s = .next discarded) ∧
    (∀ d, regDesc? a = some d →
      (d.port = true → m.port? (d.index a) = none →
        exec (.cfgRd h) s = .next (read m 0) ∧ exec (.cfgWr h value) s = .next discarded) ∧
      ((d.port = false ∨ m.port? (d.index a) ≠ none) → ∀ x, regDomain a = some x → m.domainOff x = true →
        exec (.cfgRd h) s = .next (read m (regReset a).toNat) ∧ exec (.cfgWr h value) s = .next discarded)))

/-- For every command and state, a step with the command at the front of the queue is the command's meaning on the state
with the rest of the queue. With no command waiting, a step is one edge of the reference clock, and keeps the queue
empty; the queue and the edge are the model's choice (log 1). (95 What each step holds; spec/opcode_table.json.) -/
def Obligations.AStepRunsTheFrontCommand : Prop :=
  (∀ (c : Instr) (s : State) (rest : List Instr),
    step { s with pending := c :: rest } = exec c { s with pending := rest }) ∧
  (∀ s : State, s.pending = [] → step s = .next s.tick ∧ s.tick.pending = [])

/-- In the reset state every register of the configuration window reads the reset value of its table, every memory lists
nothing and is in canonical form, no command waits, nothing has been sent, no port is configured, the module is awake
at stage B0 in module state M0, and neither the data path nor the lanes run yet. Values that the spec gives no reset
for are the model's choice (logs 3 to 6). (22 Register map, R550; 18 Faults, R478; 19 Bring-up, R481.) -/
def Obligations.ResetLeavesEveryRegisterAtItsResetValue : Prop :=
  (∀ off, State.reset.mach.rd off = regReset off) ∧ State.reset.Inv ∧ State.reset.store = {} ∧ State.reset.pending = [] ∧
    State.reset.mach.out = [] ∧ State.reset.mach.ports = [] ∧ State.reset.mach.stage = 0 ∧ State.reset.mach.mstate = 0 ∧
    State.reset.mach.awake = true ∧ State.reset.mach.running = false ∧ ¬LanesRun State.reset

/-- For every state whose memories (HBM, scratch, vector and scalar registers, program stores, expert maps, route banks)
list rising addresses and no entry that an unlisted address reads as, whatever command a step runs and whatever the
rest of the state holds, the next state's memories are of that form too: no store, clear, copy, load, transfer, domain
switch, sleep or reset leaves two representations of one memory. (01 Module architecture, R13; 05 Hub engines, R124,
R125, R127; 07 Memory pools, R184; 13 Routing, R354.) -/
def Obligations.EveryStepKeepsTheMemoriesCanonical : Prop := ∀ s t : State, s.Inv → step s = .next t → t.Inv

/-- For every state, a step answers a next state that holds exactly the rest of the queue, unless the command at the front
is a test instruction of the test access port and JTAG is not locked; that instruction, to which the spec gives no
effect, is refused by name. No step faults. (22 Register map, R554; 23 Contacts, R566.) -/
def Obligations.OnlyATestInstructionOfTheTapStops : Prop :=
  ∀ s : State,
    let stops := ∃ c rest, s.pending = c :: rest ∧ isTestTap c = true ∧ s.mach.flag Reg.GLB_LOCK 2 = false
    (stops → step s = .refused .tapPrivate) ∧ (¬stops → ∃ t, step s = .next t ∧ t.pending = s.pending.tail)
end

