-- ==== Sys2Proof/Laws/State.lean ====
section
/-! SUPPORT. Laws/State.lean: for each elementary update of the machine, what it leaves in every field it does not change; and
what the memory operations leave in the other memories. -/
namespace Sys2Proof.Machine

variable (m : Mach) (st : Store)

/-! ### wr -/

@[simp] theorem wr_time (off : Nat) (v : Word) : (m.wr off v).time = m.time := rfl
@[simp] theorem wr_aon (off : Nat) (v : Word) : (m.wr off v).aon = m.aon := rfl
@[simp] theorem wr_groups (off : Nat) (v : Word) : (m.wr off v).groups = m.groups := rfl
@[simp] theorem wr_ended (off : Nat) (v : Word) : (m.wr off v).ended = m.ended := rfl
@[simp] theorem wr_sw (off : Nat) (v : Word) : (m.wr off v).sw = m.sw := rfl
@[simp] theorem wr_ports (off : Nat) (v : Word) : (m.wr off v).ports = m.ports := rfl
@[simp] theorem wr_lanes (off : Nat) (v : Word) : (m.wr off v).lanes = m.lanes := rfl
@[simp] theorem wr_shapers (off : Nat) (v : Word) : (m.wr off v).shapers = m.shapers := rfl
@[simp] theorem wr_jnk (off : Nat) (v : Word) : (m.wr off v).jnk = m.jnk := rfl
@[simp] theorem wr_flt (off : Nat) (v : Word) : (m.wr off v).flt = m.flt := rfl
@[simp] theorem wr_boot (off : Nat) (v : Word) : (m.wr off v).boot = m.boot := rfl
@[simp] theorem wr_sec (off : Nat) (v : Word) : (m.wr off v).sec = m.sec := rfl
@[simp] theorem wr_pwr (off : Nat) (v : Word) : (m.wr off v).pwr = m.pwr := rfl
@[simp] theorem wr_pools (off : Nat) (v : Word) : (m.wr off v).pools = m.pools := rfl
@[simp] theorem wr_pages (off : Nat) (v : Word) : (m.wr off v).pages = m.pages := rfl
@[simp] theorem wr_cores (off : Nat) (v : Word) : (m.wr off v).cores = m.cores := rfl
@[simp] theorem wr_layers (off : Nat) (v : Word) : (m.wr off v).layers = m.layers := rfl
@[simp] theorem wr_sessions (off : Nat) (v : Word) : (m.wr off v).sessions = m.sessions := rfl
@[simp] theorem wr_dgt (off : Nat) (v : Word) : (m.wr off v).dgt = m.dgt := rfl
@[simp] theorem wr_ecc (off : Nat) (v : Word) : (m.wr off v).ecc = m.ecc := rfl
@[simp] theorem wr_tap (off : Nat) (v : Word) : (m.wr off v).tap = m.tap := rfl
@[simp] theorem wr_free (off : Nat) (v : Word) : (m.wr off v).free = m.free := rfl
@[simp] theorem wr_out (off : Nat) (v : Word) : (m.wr off v).out = m.out := rfl

/-! ### setFld -/

@[simp] theorem setFld_time (off hi lo v : Nat) : (m.setFld off hi lo v).time = m.time := rfl
@[simp] theorem setFld_aon (off hi lo v : Nat) : (m.setFld off hi lo v).aon = m.aon := rfl
@[simp] theorem setFld_groups (off hi lo v : Nat) : (m.setFld off hi lo v).groups = m.groups := rfl
@[simp] theorem setFld_ended (off hi lo v : Nat) : (m.setFld off hi lo v).ended = m.ended := rfl
@[simp] theorem setFld_sw (off hi lo v : Nat) : (m.setFld off hi lo v).sw = m.sw := rfl
@[simp] theorem setFld_ports (off hi lo v : Nat) : (m.setFld off hi lo v).ports = m.ports := rfl
@[simp] theorem setFld_lanes (off hi lo v : Nat) : (m.setFld off hi lo v).lanes = m.lanes := rfl
@[simp] theorem setFld_shapers (off hi lo v : Nat) : (m.setFld off hi lo v).shapers = m.shapers := rfl
@[simp] theorem setFld_jnk (off hi lo v : Nat) : (m.setFld off hi lo v).jnk = m.jnk := rfl
@[simp] theorem setFld_flt (off hi lo v : Nat) : (m.setFld off hi lo v).flt = m.flt := rfl
@[simp] theorem setFld_boot (off hi lo v : Nat) : (m.setFld off hi lo v).boot = m.boot := rfl
@[simp] theorem setFld_sec (off hi lo v : Nat) : (m.setFld off hi lo v).sec = m.sec := rfl
@[simp] theorem setFld_pwr (off hi lo v : Nat) : (m.setFld off hi lo v).pwr = m.pwr := rfl
@[simp] theorem setFld_pools (off hi lo v : Nat) : (m.setFld off hi lo v).pools = m.pools := rfl
@[simp] theorem setFld_pages (off hi lo v : Nat) : (m.setFld off hi lo v).pages = m.pages := rfl
@[simp] theorem setFld_cores (off hi lo v : Nat) : (m.setFld off hi lo v).cores = m.cores := rfl
@[simp] theorem setFld_layers (off hi lo v : Nat) : (m.setFld off hi lo v).layers = m.layers := rfl
@[simp] theorem setFld_sessions (off hi lo v : Nat) : (m.setFld off hi lo v).sessions = m.sessions := rfl
@[simp] theorem setFld_dgt (off hi lo v : Nat) : (m.setFld off hi lo v).dgt = m.dgt := rfl
@[simp] theorem setFld_ecc (off hi lo v : Nat) : (m.setFld off hi lo v).ecc = m.ecc := rfl
@[simp] theorem setFld_tap (off hi lo v : Nat) : (m.setFld off hi lo v).tap = m.tap := rfl
@[simp] theorem setFld_free (off hi lo v : Nat) : (m.setFld off hi lo v).free = m.free := rfl
@[simp] theorem setFld_out (off hi lo v : Nat) : (m.setFld off hi lo v).out = m.out := rfl

/-! ### setFlag -/

@[simp] theorem setFlag_time (off i : Nat) (b : Bool) : (m.setFlag off i b).time = m.time := rfl
@[simp] theorem setFlag_aon (off i : Nat) (b : Bool) : (m.setFlag off i b).aon = m.aon := rfl
@[simp] theorem setFlag_groups (off i : Nat) (b : Bool) : (m.setFlag off i b).groups = m.groups := rfl
@[simp] theorem setFlag_ended (off i : Nat) (b : Bool) : (m.setFlag off i b).ended = m.ended := rfl
@[simp] theorem setFlag_sw (off i : Nat) (b : Bool) : (m.setFlag off i b).sw = m.sw := rfl
@[simp] theorem setFlag_ports (off i : Nat) (b : Bool) : (m.setFlag off i b).ports = m.ports := rfl
@[simp] theorem setFlag_lanes (off i : Nat) (b : Bool) : (m.setFlag off i b).lanes = m.lanes := rfl
@[simp] theorem setFlag_shapers (off i : Nat) (b : Bool) : (m.setFlag off i b).shapers = m.shapers := rfl
@[simp] theorem setFlag_jnk (off i : Nat) (b : Bool) : (m.setFlag off i b).jnk = m.jnk := rfl
@[simp] theorem setFlag_flt (off i : Nat) (b : Bool) : (m.setFlag off i b).flt = m.flt := rfl
@[simp] theorem setFlag_boot (off i : Nat) (b : Bool) : (m.setFlag off i b).boot = m.boot := rfl
@[simp] theorem setFlag_sec (off i : Nat) (b : Bool) : (m.setFlag off i b).sec = m.sec := rfl
@[simp] theorem setFlag_pwr (off i : Nat) (b : Bool) : (m.setFlag off i b).pwr = m.pwr := rfl
@[simp] theorem setFlag_pools (off i : Nat) (b : Bool) : (m.setFlag off i b).pools = m.pools := rfl
@[simp] theorem setFlag_pages (off i : Nat) (b : Bool) : (m.setFlag off i b).pages = m.pages := rfl
@[simp] theorem setFlag_cores (off i : Nat) (b : Bool) : (m.setFlag off i b).cores = m.cores := rfl
@[simp] theorem setFlag_layers (off i : Nat) (b : Bool) : (m.setFlag off i b).layers = m.layers := rfl
@[simp] theorem setFlag_sessions (off i : Nat) (b : Bool) : (m.setFlag off i b).sessions = m.sessions := rfl
@[simp] theorem setFlag_dgt (off i : Nat) (b : Bool) : (m.setFlag off i b).dgt = m.dgt := rfl
@[simp] theorem setFlag_ecc (off i : Nat) (b : Bool) : (m.setFlag off i b).ecc = m.ecc := rfl
@[simp] theorem setFlag_tap (off i : Nat) (b : Bool) : (m.setFlag off i b).tap = m.tap := rfl
@[simp] theorem setFlag_free (off i : Nat) (b : Bool) : (m.setFlag off i b).free = m.free := rfl
@[simp] theorem setFlag_out (off i : Nat) (b : Bool) : (m.setFlag off i b).out = m.out := rfl

/-! ### countN -/

@[simp] theorem countN_time (off n : Nat) : (m.countN off n).time = m.time := rfl
@[simp] theorem countN_aon (off n : Nat) : (m.countN off n).aon = m.aon := rfl
@[simp] theorem countN_groups (off n : Nat) : (m.countN off n).groups = m.groups := rfl
@[simp] theorem countN_ended (off n : Nat) : (m.countN off n).ended = m.ended := rfl
@[simp] theorem countN_sw (off n : Nat) : (m.countN off n).sw = m.sw := rfl
@[simp] theorem countN_ports (off n : Nat) : (m.countN off n).ports = m.ports := rfl
@[simp] theorem countN_lanes (off n : Nat) : (m.countN off n).lanes = m.lanes := rfl
@[simp] theorem countN_shapers (off n : Nat) : (m.countN off n).shapers = m.shapers := rfl
@[simp] theorem countN_jnk (off n : Nat) : (m.countN off n).jnk = m.jnk := rfl
@[simp] theorem countN_flt (off n : Nat) : (m.countN off n).flt = m.flt := rfl
@[simp] theorem countN_boot (off n : Nat) : (m.countN off n).boot = m.boot := rfl
@[simp] theorem countN_sec (off n : Nat) : (m.countN off n).sec = m.sec := rfl
@[simp] theorem countN_pwr (off n : Nat) : (m.countN off n).pwr = m.pwr := rfl
@[simp] theorem countN_pools (off n : Nat) : (m.countN off n).pools = m.pools := rfl
@[simp] theorem countN_pages (off n : Nat) : (m.countN off n).pages = m.pages := rfl
@[simp] theorem countN_cores (off n : Nat) : (m.countN off n).cores = m.cores := rfl
@[simp] theorem countN_layers (off n : Nat) : (m.countN off n).layers = m.layers := rfl
@[simp] theorem countN_sessions (off n : Nat) : (m.countN off n).sessions = m.sessions := rfl
@[simp] theorem countN_dgt (off n : Nat) : (m.countN off n).dgt = m.dgt := rfl
@[simp] theorem countN_ecc (off n : Nat) : (m.countN off n).ecc = m.ecc := rfl
@[simp] theorem countN_tap (off n : Nat) : (m.countN off n).tap = m.tap := rfl
@[simp] theorem countN_free (off n : Nat) : (m.countN off n).free = m.free := rfl
@[simp] theorem countN_out (off n : Nat) : (m.countN off n).out = m.out := rfl

/-! ### count -/

@[simp] theorem count_time (off : Nat) : (m.count off).time = m.time := rfl
@[simp] theorem count_aon (off : Nat) : (m.count off).aon = m.aon := rfl
@[simp] theorem count_groups (off : Nat) : (m.count off).groups = m.groups := rfl
@[simp] theorem count_ended (off : Nat) : (m.count off).ended = m.ended := rfl
@[simp] theorem count_sw (off : Nat) : (m.count off).sw = m.sw := rfl
@[simp] theorem count_ports (off : Nat) : (m.count off).ports = m.ports := rfl
@[simp] theorem count_lanes (off : Nat) : (m.count off).lanes = m.lanes := rfl
@[simp] theorem count_shapers (off : Nat) : (m.count off).shapers = m.shapers := rfl
@[simp] theorem count_jnk (off : Nat) : (m.count off).jnk = m.jnk := rfl
@[simp] theorem count_flt (off : Nat) : (m.count off).flt = m.flt := rfl
@[simp] theorem count_boot (off : Nat) : (m.count off).boot = m.boot := rfl
@[simp] theorem count_sec (off : Nat) : (m.count off).sec = m.sec := rfl
@[simp] theorem count_pwr (off : Nat) : (m.count off).pwr = m.pwr := rfl
@[simp] theorem count_pools (off : Nat) : (m.count off).pools = m.pools := rfl
@[simp] theorem count_pages (off : Nat) : (m.count off).pages = m.pages := rfl
@[simp] theorem count_cores (off : Nat) : (m.count off).cores = m.cores := rfl
@[simp] theorem count_layers (off : Nat) : (m.count off).layers = m.layers := rfl
@[simp] theorem count_sessions (off : Nat) : (m.count off).sessions = m.sessions := rfl
@[simp] theorem count_dgt (off : Nat) : (m.count off).dgt = m.dgt := rfl
@[simp] theorem count_ecc (off : Nat) : (m.count off).ecc = m.ecc := rfl
@[simp] theorem count_tap (off : Nat) : (m.count off).tap = m.tap := rfl
@[simp] theorem count_free (off : Nat) : (m.count off).free = m.free := rfl
@[simp] theorem count_out (off : Nat) : (m.count off).out = m.out := rfl

/-! ### countWrap -/

@[simp] theorem countWrap_time (off : Nat) : (m.countWrap off).time = m.time := rfl
@[simp] theorem countWrap_aon (off : Nat) : (m.countWrap off).aon = m.aon := rfl
@[simp] theorem countWrap_groups (off : Nat) : (m.countWrap off).groups = m.groups := rfl
@[simp] theorem countWrap_ended (off : Nat) : (m.countWrap off).ended = m.ended := rfl
@[simp] theorem countWrap_sw (off : Nat) : (m.countWrap off).sw = m.sw := rfl
@[simp] theorem countWrap_ports (off : Nat) : (m.countWrap off).ports = m.ports := rfl
@[simp] theorem countWrap_lanes (off : Nat) : (m.countWrap off).lanes = m.lanes := rfl
@[simp] theorem countWrap_shapers (off : Nat) : (m.countWrap off).shapers = m.shapers := rfl
@[simp] theorem countWrap_jnk (off : Nat) : (m.countWrap off).jnk = m.jnk := rfl
@[simp] theorem countWrap_flt (off : Nat) : (m.countWrap off).flt = m.flt := rfl
@[simp] theorem countWrap_boot (off : Nat) : (m.countWrap off).boot = m.boot := rfl
@[simp] theorem countWrap_sec (off : Nat) : (m.countWrap off).sec = m.sec := rfl
@[simp] theorem countWrap_pwr (off : Nat) : (m.countWrap off).pwr = m.pwr := rfl
@[simp] theorem countWrap_pools (off : Nat) : (m.countWrap off).pools = m.pools := rfl
@[simp] theorem countWrap_pages (off : Nat) : (m.countWrap off).pages = m.pages := rfl
@[simp] theorem countWrap_cores (off : Nat) : (m.countWrap off).cores = m.cores := rfl
@[simp] theorem countWrap_layers (off : Nat) : (m.countWrap off).layers = m.layers := rfl
@[simp] theorem countWrap_sessions (off : Nat) : (m.countWrap off).sessions = m.sessions := rfl
@[simp] theorem countWrap_dgt (off : Nat) : (m.countWrap off).dgt = m.dgt := rfl
@[simp] theorem countWrap_ecc (off : Nat) : (m.countWrap off).ecc = m.ecc := rfl
@[simp] theorem countWrap_tap (off : Nat) : (m.countWrap off).tap = m.tap := rfl
@[simp] theorem countWrap_free (off : Nat) : (m.countWrap off).free = m.free := rfl
@[simp] theorem countWrap_out (off : Nat) : (m.countWrap off).out = m.out := rfl

/-! ### writeRw -/

@[simp] theorem writeRw_time (off mask v : Nat) : (m.writeRw off mask v).time = m.time := rfl
@[simp] theorem writeRw_aon (off mask v : Nat) : (m.writeRw off mask v).aon = m.aon := rfl
@[simp] theorem writeRw_groups (off mask v : Nat) : (m.writeRw off mask v).groups = m.groups := rfl
@[simp] theorem writeRw_ended (off mask v : Nat) : (m.writeRw off mask v).ended = m.ended := rfl
@[simp] theorem writeRw_sw (off mask v : Nat) : (m.writeRw off mask v).sw = m.sw := rfl
@[simp] theorem writeRw_ports (off mask v : Nat) : (m.writeRw off mask v).ports = m.ports := rfl
@[simp] theorem writeRw_lanes (off mask v : Nat) : (m.writeRw off mask v).lanes = m.lanes := rfl
@[simp] theorem writeRw_shapers (off mask v : Nat) : (m.writeRw off mask v).shapers = m.shapers := rfl
@[simp] theorem writeRw_jnk (off mask v : Nat) : (m.writeRw off mask v).jnk = m.jnk := rfl
@[simp] theorem writeRw_flt (off mask v : Nat) : (m.writeRw off mask v).flt = m.flt := rfl
@[simp] theorem writeRw_boot (off mask v : Nat) : (m.writeRw off mask v).boot = m.boot := rfl
@[simp] theorem writeRw_sec (off mask v : Nat) : (m.writeRw off mask v).sec = m.sec := rfl
@[simp] theorem writeRw_pwr (off mask v : Nat) : (m.writeRw off mask v).pwr = m.pwr := rfl
@[simp] theorem writeRw_pools (off mask v : Nat) : (m.writeRw off mask v).pools = m.pools := rfl
@[simp] theorem writeRw_pages (off mask v : Nat) : (m.writeRw off mask v).pages = m.pages := rfl
@[simp] theorem writeRw_cores (off mask v : Nat) : (m.writeRw off mask v).cores = m.cores := rfl
@[simp] theorem writeRw_layers (off mask v : Nat) : (m.writeRw off mask v).layers = m.layers := rfl
@[simp] theorem writeRw_sessions (off mask v : Nat) : (m.writeRw off mask v).sessions = m.sessions := rfl
@[simp] theorem writeRw_dgt (off mask v : Nat) : (m.writeRw off mask v).dgt = m.dgt := rfl
@[simp] theorem writeRw_ecc (off mask v : Nat) : (m.writeRw off mask v).ecc = m.ecc := rfl
@[simp] theorem writeRw_tap (off mask v : Nat) : (m.writeRw off mask v).tap = m.tap := rfl
@[simp] theorem writeRw_free (off mask v : Nat) : (m.writeRw off mask v).free = m.free := rfl
@[simp] theorem writeRw_out (off mask v : Nat) : (m.writeRw off mask v).out = m.out := rfl

/-! ### emit -/

@[simp] theorem emit_regs (o : Out) : (m.emit o).regs = m.regs := rfl
@[simp] theorem emit_time (o : Out) : (m.emit o).time = m.time := rfl
@[simp] theorem emit_aon (o : Out) : (m.emit o).aon = m.aon := rfl
@[simp] theorem emit_groups (o : Out) : (m.emit o).groups = m.groups := rfl
@[simp] theorem emit_ended (o : Out) : (m.emit o).ended = m.ended := rfl
@[simp] theorem emit_sw (o : Out) : (m.emit o).sw = m.sw := rfl
@[simp] theorem emit_ports (o : Out) : (m.emit o).ports = m.ports := rfl
@[simp] theorem emit_lanes (o : Out) : (m.emit o).lanes = m.lanes := rfl
@[simp] theorem emit_shapers (o : Out) : (m.emit o).shapers = m.shapers := rfl
@[simp] theorem emit_jnk (o : Out) : (m.emit o).jnk = m.jnk := rfl
@[simp] theorem emit_flt (o : Out) : (m.emit o).flt = m.flt := rfl
@[simp] theorem emit_boot (o : Out) : (m.emit o).boot = m.boot := rfl
@[simp] theorem emit_sec (o : Out) : (m.emit o).sec = m.sec := rfl
@[simp] theorem emit_pwr (o : Out) : (m.emit o).pwr = m.pwr := rfl
@[simp] theorem emit_pools (o : Out) : (m.emit o).pools = m.pools := rfl
@[simp] theorem emit_pages (o : Out) : (m.emit o).pages = m.pages := rfl
@[simp] theorem emit_cores (o : Out) : (m.emit o).cores = m.cores := rfl
@[simp] theorem emit_layers (o : Out) : (m.emit o).layers = m.layers := rfl
@[simp] theorem emit_sessions (o : Out) : (m.emit o).sessions = m.sessions := rfl
@[simp] theorem emit_dgt (o : Out) : (m.emit o).dgt = m.dgt := rfl
@[simp] theorem emit_ecc (o : Out) : (m.emit o).ecc = m.ecc := rfl
@[simp] theorem emit_tap (o : Out) : (m.emit o).tap = m.tap := rfl
@[simp] theorem emit_free (o : Out) : (m.emit o).free = m.free := rfl

/-! ### setRing -/

@[simp] theorem setRing_regs (r : RingSt) : (m.setRing r).regs = m.regs := rfl
@[simp] theorem setRing_time (r : RingSt) : (m.setRing r).time = m.time := rfl
@[simp] theorem setRing_aon (r : RingSt) : (m.setRing r).aon = m.aon := rfl
@[simp] theorem setRing_groups (r : RingSt) : (m.setRing r).groups = m.groups := rfl
@[simp] theorem setRing_ended (r : RingSt) : (m.setRing r).ended = m.ended := rfl
@[simp] theorem setRing_sw (r : RingSt) : (m.setRing r).sw = m.sw := rfl
@[simp] theorem setRing_ports (r : RingSt) : (m.setRing r).ports = m.ports := rfl
@[simp] theorem setRing_lanes (r : RingSt) : (m.setRing r).lanes = m.lanes := rfl
@[simp] theorem setRing_shapers (r : RingSt) : (m.setRing r).shapers = m.shapers := rfl
@[simp] theorem setRing_flt (r : RingSt) : (m.setRing r).flt = m.flt := rfl
@[simp] theorem setRing_boot (r : RingSt) : (m.setRing r).boot = m.boot := rfl
@[simp] theorem setRing_sec (r : RingSt) : (m.setRing r).sec = m.sec := rfl
@[simp] theorem setRing_pwr (r : RingSt) : (m.setRing r).pwr = m.pwr := rfl
@[simp] theorem setRing_pools (r : RingSt) : (m.setRing r).pools = m.pools := rfl
@[simp] theorem setRing_pages (r : RingSt) : (m.setRing r).pages = m.pages := rfl
@[simp] theorem setRing_cores (r : RingSt) : (m.setRing r).cores = m.cores := rfl
@[simp] theorem setRing_layers (r : RingSt) : (m.setRing r).layers = m.layers := rfl
@[simp] theorem setRing_sessions (r : RingSt) : (m.setRing r).sessions = m.sessions := rfl
@[simp] theorem setRing_dgt (r : RingSt) : (m.setRing r).dgt = m.dgt := rfl
@[simp] theorem setRing_ecc (r : RingSt) : (m.setRing r).ecc = m.ecc := rfl
@[simp] theorem setRing_tap (r : RingSt) : (m.setRing r).tap = m.tap := rfl
@[simp] theorem setRing_free (r : RingSt) : (m.setRing r).free = m.free := rfl
@[simp] theorem setRing_out (r : RingSt) : (m.setRing r).out = m.out := rfl

/-! ### dropPins -/

@[simp] theorem dropPins_regs (q : Pin → Bool) : (m.dropPins q).regs = m.regs := rfl
@[simp] theorem dropPins_time (q : Pin → Bool) : (m.dropPins q).time = m.time := rfl
@[simp] theorem dropPins_aon (q : Pin → Bool) : (m.dropPins q).aon = m.aon := rfl
@[simp] theorem dropPins_groups (q : Pin → Bool) : (m.dropPins q).groups = m.groups := rfl
@[simp] theorem dropPins_ended (q : Pin → Bool) : (m.dropPins q).ended = m.ended := rfl
@[simp] theorem dropPins_sw (q : Pin → Bool) : (m.dropPins q).sw = m.sw := rfl
@[simp] theorem dropPins_ports (q : Pin → Bool) : (m.dropPins q).ports = m.ports := rfl
@[simp] theorem dropPins_lanes (q : Pin → Bool) : (m.dropPins q).lanes = m.lanes := rfl
@[simp] theorem dropPins_shapers (q : Pin → Bool) : (m.dropPins q).shapers = m.shapers := rfl
@[simp] theorem dropPins_jnk (q : Pin → Bool) : (m.dropPins q).jnk = m.jnk := rfl
@[simp] theorem dropPins_boot (q : Pin → Bool) : (m.dropPins q).boot = m.boot := rfl
@[simp] theorem dropPins_sec (q : Pin → Bool) : (m.dropPins q).sec = m.sec := rfl
@[simp] theorem dropPins_pwr (q : Pin → Bool) : (m.dropPins q).pwr = m.pwr := rfl
@[simp] theorem dropPins_pools (q : Pin → Bool) : (m.dropPins q).pools = m.pools := rfl
@[simp] theorem dropPins_pages (q : Pin → Bool) : (m.dropPins q).pages = m.pages := rfl
@[simp] theorem dropPins_cores (q : Pin → Bool) : (m.dropPins q).cores = m.cores := rfl
@[simp] theorem dropPins_layers (q : Pin → Bool) : (m.dropPins q).layers = m.layers := rfl
@[simp] theorem dropPins_sessions (q : Pin → Bool) : (m.dropPins q).sessions = m.sessions := rfl
@[simp] theorem dropPins_dgt (q : Pin → Bool) : (m.dropPins q).dgt = m.dgt := rfl
@[simp] theorem dropPins_ecc (q : Pin → Bool) : (m.dropPins q).ecc = m.ecc := rfl
@[simp] theorem dropPins_tap (q : Pin → Bool) : (m.dropPins q).tap = m.tap := rfl
@[simp] theorem dropPins_free (q : Pin → Bool) : (m.dropPins q).free = m.free := rfl
@[simp] theorem dropPins_out (q : Pin → Bool) : (m.dropPins q).out = m.out := rfl

/-! ### startTimer -/

@[simp] theorem startTimer_regs (g : Nat) : (m.startTimer g).regs = m.regs := rfl
@[simp] theorem startTimer_time (g : Nat) : (m.startTimer g).time = m.time := rfl
@[simp] theorem startTimer_aon (g : Nat) : (m.startTimer g).aon = m.aon := rfl
@[simp] theorem startTimer_groups (g : Nat) : (m.startTimer g).groups = m.groups := rfl
@[simp] theorem startTimer_ended (g : Nat) : (m.startTimer g).ended = m.ended := rfl
@[simp] theorem startTimer_sw (g : Nat) : (m.startTimer g).sw = m.sw := rfl
@[simp] theorem startTimer_ports (g : Nat) : (m.startTimer g).ports = m.ports := rfl
@[simp] theorem startTimer_lanes (g : Nat) : (m.startTimer g).lanes = m.lanes := rfl
@[simp] theorem startTimer_shapers (g : Nat) : (m.startTimer g).shapers = m.shapers := rfl
@[simp] theorem startTimer_jnk (g : Nat) : (m.startTimer g).jnk = m.jnk := rfl
@[simp] theorem startTimer_boot (g : Nat) : (m.startTimer g).boot = m.boot := rfl
@[simp] theorem startTimer_sec (g : Nat) : (m.startTimer g).sec = m.sec := rfl
@[simp] theorem startTimer_pwr (g : Nat) : (m.startTimer g).pwr = m.pwr := rfl
@[simp] theorem startTimer_pools (g : Nat) : (m.startTimer g).pools = m.pools := rfl
@[simp] theorem startTimer_pages (g : Nat) : (m.startTimer g).pages = m.pages := rfl
@[simp] theorem startTimer_cores (g : Nat) : (m.startTimer g).cores = m.cores := rfl
@[simp] theorem startTimer_layers (g : Nat) : (m.startTimer g).layers = m.layers := rfl
@[simp] theorem startTimer_sessions (g : Nat) : (m.startTimer g).sessions = m.sessions := rfl
@[simp] theorem startTimer_dgt (g : Nat) : (m.startTimer g).dgt = m.dgt := rfl
@[simp] theorem startTimer_ecc (g : Nat) : (m.startTimer g).ecc = m.ecc := rfl
@[simp] theorem startTimer_tap (g : Nat) : (m.startTimer g).tap = m.tap := rfl
@[simp] theorem startTimer_free (g : Nat) : (m.startTimer g).free = m.free := rfl
@[simp] theorem startTimer_out (g : Nat) : (m.startTimer g).out = m.out := rfl

/-! ### stopTimer -/

@[simp] theorem stopTimer_regs (g : Nat) : (m.stopTimer g).regs = m.regs := rfl
@[simp] theorem stopTimer_time (g : Nat) : (m.stopTimer g).time = m.time := rfl
@[simp] theorem stopTimer_aon (g : Nat) : (m.stopTimer g).aon = m.aon := rfl
@[simp] theorem stopTimer_groups (g : Nat) : (m.stopTimer g).groups = m.groups := rfl
@[simp] theorem stopTimer_ended (g : Nat) : (m.stopTimer g).ended = m.ended := rfl
@[simp] theorem stopTimer_sw (g : Nat) : (m.stopTimer g).sw = m.sw := rfl
@[simp] theorem stopTimer_ports (g : Nat) : (m.stopTimer g).ports = m.ports := rfl
@[simp] theorem stopTimer_lanes (g : Nat) : (m.stopTimer g).lanes = m.lanes := rfl
@[simp] theorem stopTimer_shapers (g : Nat) : (m.stopTimer g).shapers = m.shapers := rfl
@[simp] theorem stopTimer_jnk (g : Nat) : (m.stopTimer g).jnk = m.jnk := rfl
@[simp] theorem stopTimer_boot (g : Nat) : (m.stopTimer g).boot = m.boot := rfl
@[simp] theorem stopTimer_sec (g : Nat) : (m.stopTimer g).sec = m.sec := rfl
@[simp] theorem stopTimer_pwr (g : Nat) : (m.stopTimer g).pwr = m.pwr := rfl
@[simp] theorem stopTimer_pools (g : Nat) : (m.stopTimer g).pools = m.pools := rfl
@[simp] theorem stopTimer_pages (g : Nat) : (m.stopTimer g).pages = m.pages := rfl
@[simp] theorem stopTimer_cores (g : Nat) : (m.stopTimer g).cores = m.cores := rfl
@[simp] theorem stopTimer_layers (g : Nat) : (m.stopTimer g).layers = m.layers := rfl
@[simp] theorem stopTimer_sessions (g : Nat) : (m.stopTimer g).sessions = m.sessions := rfl
@[simp] theorem stopTimer_dgt (g : Nat) : (m.stopTimer g).dgt = m.dgt := rfl
@[simp] theorem stopTimer_ecc (g : Nat) : (m.stopTimer g).ecc = m.ecc := rfl
@[simp] theorem stopTimer_tap (g : Nat) : (m.stopTimer g).tap = m.tap := rfl
@[simp] theorem stopTimer_free (g : Nat) : (m.stopTimer g).free = m.free := rfl
@[simp] theorem stopTimer_out (g : Nat) : (m.stopTimer g).out = m.out := rfl

/-! ### setCore -/

@[simp] theorem setCore_regs (c : Core) : (m.setCore c).regs = m.regs := rfl
@[simp] theorem setCore_time (c : Core) : (m.setCore c).time = m.time := rfl
@[simp] theorem setCore_aon (c : Core) : (m.setCore c).aon = m.aon := rfl
@[simp] theorem setCore_groups (c : Core) : (m.setCore c).groups = m.groups := rfl
@[simp] theorem setCore_ended (c : Core) : (m.setCore c).ended = m.ended := rfl
@[simp] theorem setCore_sw (c : Core) : (m.setCore c).sw = m.sw := rfl
@[simp] theorem setCore_ports (c : Core) : (m.setCore c).ports = m.ports := rfl
@[simp] theorem setCore_lanes (c : Core) : (m.setCore c).lanes = m.lanes := rfl
@[simp] theorem setCore_shapers (c : Core) : (m.setCore c).shapers = m.shapers := rfl
@[simp] theorem setCore_jnk (c : Core) : (m.setCore c).jnk = m.jnk := rfl
@[simp] theorem setCore_flt (c : Core) : (m.setCore c).flt = m.flt := rfl
@[simp] theorem setCore_boot (c : Core) : (m.setCore c).boot = m.boot := rfl
@[simp] theorem setCore_sec (c : Core) : (m.setCore c).sec = m.sec := rfl
@[simp] theorem setCore_pwr (c : Core) : (m.setCore c).pwr = m.pwr := rfl
@[simp] theorem setCore_pools (c : Core) : (m.setCore c).pools = m.pools := rfl
@[simp] theorem setCore_pages (c : Core) : (m.setCore c).pages = m.pages := rfl
@[simp] theorem setCore_layers (c : Core) : (m.setCore c).layers = m.layers := rfl
@[simp] theorem setCore_sessions (c : Core) : (m.setCore c).sessions = m.sessions := rfl
@[simp] theorem setCore_dgt (c : Core) : (m.setCore c).dgt = m.dgt := rfl
@[simp] theorem setCore_ecc (c : Core) : (m.setCore c).ecc = m.ecc := rfl
@[simp] theorem setCore_tap (c : Core) : (m.setCore c).tap = m.tap := rfl
@[simp] theorem setCore_free (c : Core) : (m.setCore c).free = m.free := rfl
@[simp] theorem setCore_out (c : Core) : (m.setCore c).out = m.out := rfl

/-! ### tuBegin -/

@[simp] theorem tuBegin_regs : (m.tuBegin).regs = m.regs := rfl
@[simp] theorem tuBegin_time : (m.tuBegin).time = m.time := rfl
@[simp] theorem tuBegin_aon : (m.tuBegin).aon = m.aon := rfl
@[simp] theorem tuBegin_groups : (m.tuBegin).groups = m.groups := rfl
@[simp] theorem tuBegin_ended : (m.tuBegin).ended = m.ended := rfl
@[simp] theorem tuBegin_sw : (m.tuBegin).sw = m.sw := rfl
@[simp] theorem tuBegin_ports : (m.tuBegin).ports = m.ports := rfl
@[simp] theorem tuBegin_lanes : (m.tuBegin).lanes = m.lanes := rfl
@[simp] theorem tuBegin_shapers : (m.tuBegin).shapers = m.shapers := rfl
@[simp] theorem tuBegin_flt : (m.tuBegin).flt = m.flt := rfl
@[simp] theorem tuBegin_boot : (m.tuBegin).boot = m.boot := rfl
@[simp] theorem tuBegin_sec : (m.tuBegin).sec = m.sec := rfl
@[simp] theorem tuBegin_pwr : (m.tuBegin).pwr = m.pwr := rfl
@[simp] theorem tuBegin_pools : (m.tuBegin).pools = m.pools := rfl
@[simp] theorem tuBegin_pages : (m.tuBegin).pages = m.pages := rfl
@[simp] theorem tuBegin_cores : (m.tuBegin).cores = m.cores := rfl
@[simp] theorem tuBegin_layers : (m.tuBegin).layers = m.layers := rfl
@[simp] theorem tuBegin_sessions : (m.tuBegin).sessions = m.sessions := rfl
@[simp] theorem tuBegin_dgt : (m.tuBegin).dgt = m.dgt := rfl
@[simp] theorem tuBegin_ecc : (m.tuBegin).ecc = m.ecc := rfl
@[simp] theorem tuBegin_tap : (m.tuBegin).tap = m.tap := rfl
@[simp] theorem tuBegin_free : (m.tuBegin).free = m.free := rfl
@[simp] theorem tuBegin_out : (m.tuBegin).out = m.out := rfl

/-! ### setQueue -/

@[simp] theorem setQueue_regs (q : Queue) : (m.setQueue q).regs = m.regs := rfl
@[simp] theorem setQueue_time (q : Queue) : (m.setQueue q).time = m.time := rfl
@[simp] theorem setQueue_aon (q : Queue) : (m.setQueue q).aon = m.aon := rfl
@[simp] theorem setQueue_groups (q : Queue) : (m.setQueue q).groups = m.groups := rfl
@[simp] theorem setQueue_ended (q : Queue) : (m.setQueue q).ended = m.ended := rfl
@[simp] theorem setQueue_ports (q : Queue) : (m.setQueue q).ports = m.ports := rfl
@[simp] theorem setQueue_lanes (q : Queue) : (m.setQueue q).lanes = m.lanes := rfl
@[simp] theorem setQueue_shapers (q : Queue) : (m.setQueue q).shapers = m.shapers := rfl
@[simp] theorem setQueue_jnk (q : Queue) : (m.setQueue q).jnk = m.jnk := rfl
@[simp] theorem setQueue_flt (q : Queue) : (m.setQueue q).flt = m.flt := rfl
@[simp] theorem setQueue_boot (q : Queue) : (m.setQueue q).boot = m.boot := rfl
@[simp] theorem setQueue_sec (q : Queue) : (m.setQueue q).sec = m.sec := rfl
@[simp] theorem setQueue_pwr (q : Queue) : (m.setQueue q).pwr = m.pwr := rfl
@[simp] theorem setQueue_pools (q : Queue) : (m.setQueue q).pools = m.pools := rfl
@[simp] theorem setQueue_pages (q : Queue) : (m.setQueue q).pages = m.pages := rfl
@[simp] theorem setQueue_cores (q : Queue) : (m.setQueue q).cores = m.cores := rfl
@[simp] theorem setQueue_layers (q : Queue) : (m.setQueue q).layers = m.layers := rfl
@[simp] theorem setQueue_sessions (q : Queue) : (m.setQueue q).sessions = m.sessions := rfl
@[simp] theorem setQueue_dgt (q : Queue) : (m.setQueue q).dgt = m.dgt := rfl
@[simp] theorem setQueue_ecc (q : Queue) : (m.setQueue q).ecc = m.ecc := rfl
@[simp] theorem setQueue_tap (q : Queue) : (m.setQueue q).tap = m.tap := rfl
@[simp] theorem setQueue_free (q : Queue) : (m.setQueue q).free = m.free := rfl
@[simp] theorem setQueue_out (q : Queue) : (m.setQueue q).out = m.out := rfl

/-! ### modGroup -/

@[simp] theorem modGroup_regs (id : Nat) (f : Group → Group) : (m.modGroup id f).regs = m.regs := rfl
@[simp] theorem modGroup_time (id : Nat) (f : Group → Group) : (m.modGroup id f).time = m.time := rfl
@[simp] theorem modGroup_aon (id : Nat) (f : Group → Group) : (m.modGroup id f).aon = m.aon := rfl
@[simp] theorem modGroup_ended (id : Nat) (f : Group → Group) : (m.modGroup id f).ended = m.ended := rfl
@[simp] theorem modGroup_sw (id : Nat) (f : Group → Group) : (m.modGroup id f).sw = m.sw := rfl
@[simp] theorem modGroup_ports (id : Nat) (f : Group → Group) : (m.modGroup id f).ports = m.ports := rfl
@[simp] theorem modGroup_lanes (id : Nat) (f : Group → Group) : (m.modGroup id f).lanes = m.lanes := rfl
@[simp] theorem modGroup_shapers (id : Nat) (f : Group → Group) : (m.modGroup id f).shapers = m.shapers := rfl
@[simp] theorem modGroup_jnk (id : Nat) (f : Group → Group) : (m.modGroup id f).jnk = m.jnk := rfl
@[simp] theorem modGroup_flt (id : Nat) (f : Group → Group) : (m.modGroup id f).flt = m.flt := rfl
@[simp] theorem modGroup_boot (id : Nat) (f : Group → Group) : (m.modGroup id f).boot = m.boot := rfl
@[simp] theorem modGroup_sec (id : Nat) (f : Group → Group) : (m.modGroup id f).sec = m.sec := rfl
@[simp] theorem modGroup_pwr (id : Nat) (f : Group → Group) : (m.modGroup id f).pwr = m.pwr := rfl
@[simp] theorem modGroup_pools (id : Nat) (f : Group → Group) : (m.modGroup id f).pools = m.pools := rfl
@[simp] theorem modGroup_pages (id : Nat) (f : Group → Group) : (m.modGroup id f).pages = m.pages := rfl
@[simp] theorem modGroup_cores (id : Nat) (f : Group → Group) : (m.modGroup id f).cores = m.cores := rfl
@[simp] theorem modGroup_layers (id : Nat) (f : Group → Group) : (m.modGroup id f).layers = m.layers := rfl
@[simp] theorem modGroup_sessions (id : Nat) (f : Group → Group) : (m.modGroup id f).sessions = m.sessions := rfl
@[simp] theorem modGroup_dgt (id : Nat) (f : Group → Group) : (m.modGroup id f).dgt = m.dgt := rfl
@[simp] theorem modGroup_ecc (id : Nat) (f : Group → Group) : (m.modGroup id f).ecc = m.ecc := rfl
@[simp] theorem modGroup_tap (id : Nat) (f : Group → Group) : (m.modGroup id f).tap = m.tap := rfl
@[simp] theorem modGroup_free (id : Nat) (f : Group → Group) : (m.modGroup id f).free = m.free := rfl
@[simp] theorem modGroup_out (id : Nat) (f : Group → Group) : (m.modGroup id f).out = m.out := rfl

/-! ### modSession -/

@[simp] theorem modSession_regs (n : Nat) (f : Session → Session) : (m.modSession n f).regs = m.regs := rfl
@[simp] theorem modSession_time (n : Nat) (f : Session → Session) : (m.modSession n f).time = m.time := rfl
@[simp] theorem modSession_aon (n : Nat) (f : Session → Session) : (m.modSession n f).aon = m.aon := rfl
@[simp] theorem modSession_groups (n : Nat) (f : Session → Session) : (m.modSession n f).groups = m.groups := rfl
@[simp] theorem modSession_ended (n : Nat) (f : Session → Session) : (m.modSession n f).ended = m.ended := rfl
@[simp] theorem modSession_sw (n : Nat) (f : Session → Session) : (m.modSession n f).sw = m.sw := rfl
@[simp] theorem modSession_ports (n : Nat) (f : Session → Session) : (m.modSession n f).ports = m.ports := rfl
@[simp] theorem modSession_lanes (n : Nat) (f : Session → Session) : (m.modSession n f).lanes = m.lanes := rfl
@[simp] theorem modSession_shapers (n : Nat) (f : Session → Session) : (m.modSession n f).shapers = m.shapers := rfl
@[simp] theorem modSession_jnk (n : Nat) (f : Session → Session) : (m.modSession n f).jnk = m.jnk := rfl
@[simp] theorem modSession_flt (n : Nat) (f : Session → Session) : (m.modSession n f).flt = m.flt := rfl
@[simp] theorem modSession_boot (n : Nat) (f : Session → Session) : (m.modSession n f).boot = m.boot := rfl
@[simp] theorem modSession_sec (n : Nat) (f : Session → Session) : (m.modSession n f).sec = m.sec := rfl
@[simp] theorem modSession_pwr (n : Nat) (f : Session → Session) : (m.modSession n f).pwr = m.pwr := rfl
@[simp] theorem modSession_pools (n : Nat) (f : Session → Session) : (m.modSession n f).pools = m.pools := rfl
@[simp] theorem modSession_pages (n : Nat) (f : Session → Session) : (m.modSession n f).pages = m.pages := rfl
@[simp] theorem modSession_cores (n : Nat) (f : Session → Session) : (m.modSession n f).cores = m.cores := rfl
@[simp] theorem modSession_layers (n : Nat) (f : Session → Session) : (m.modSession n f).layers = m.layers := rfl
@[simp] theorem modSession_dgt (n : Nat) (f : Session → Session) : (m.modSession n f).dgt = m.dgt := rfl
@[simp] theorem modSession_ecc (n : Nat) (f : Session → Session) : (m.modSession n f).ecc = m.ecc := rfl
@[simp] theorem modSession_tap (n : Nat) (f : Session → Session) : (m.modSession n f).tap = m.tap := rfl
@[simp] theorem modSession_free (n : Nat) (f : Session → Session) : (m.modSession n f).free = m.free := rfl
@[simp] theorem modSession_out (n : Nat) (f : Session → Session) : (m.modSession n f).out = m.out := rfl

/-! ### setLstate -/

@[simp] theorem setLstate_time (n state step : Nat) : (m.setLstate n state step).time = m.time := rfl
@[simp] theorem setLstate_aon (n state step : Nat) : (m.setLstate n state step).aon = m.aon := rfl
@[simp] theorem setLstate_groups (n state step : Nat) : (m.setLstate n state step).groups = m.groups := rfl
@[simp] theorem setLstate_ended (n state step : Nat) : (m.setLstate n state step).ended = m.ended := rfl
@[simp] theorem setLstate_sw (n state step : Nat) : (m.setLstate n state step).sw = m.sw := rfl
@[simp] theorem setLstate_ports (n state step : Nat) : (m.setLstate n state step).ports = m.ports := rfl
@[simp] theorem setLstate_lanes (n state step : Nat) : (m.setLstate n state step).lanes = m.lanes := rfl
@[simp] theorem setLstate_shapers (n state step : Nat) : (m.setLstate n state step).shapers = m.shapers := rfl
@[simp] theorem setLstate_jnk (n state step : Nat) : (m.setLstate n state step).jnk = m.jnk := rfl
@[simp] theorem setLstate_flt (n state step : Nat) : (m.setLstate n state step).flt = m.flt := rfl
@[simp] theorem setLstate_boot (n state step : Nat) : (m.setLstate n state step).boot = m.boot := rfl
@[simp] theorem setLstate_sec (n state step : Nat) : (m.setLstate n state step).sec = m.sec := rfl
@[simp] theorem setLstate_pwr (n state step : Nat) : (m.setLstate n state step).pwr = m.pwr := rfl
@[simp] theorem setLstate_pools (n state step : Nat) : (m.setLstate n state step).pools = m.pools := rfl
@[simp] theorem setLstate_pages (n state step : Nat) : (m.setLstate n state step).pages = m.pages := rfl
@[simp] theorem setLstate_cores (n state step : Nat) : (m.setLstate n state step).cores = m.cores := rfl
@[simp] theorem setLstate_layers (n state step : Nat) : (m.setLstate n state step).layers = m.layers := rfl
@[simp] theorem setLstate_sessions (n state step : Nat) : (m.setLstate n state step).sessions = m.sessions := rfl
@[simp] theorem setLstate_dgt (n state step : Nat) : (m.setLstate n state step).dgt = m.dgt := rfl
@[simp] theorem setLstate_ecc (n state step : Nat) : (m.setLstate n state step).ecc = m.ecc := rfl
@[simp] theorem setLstate_tap (n state step : Nat) : (m.setLstate n state step).tap = m.tap := rfl
@[simp] theorem setLstate_free (n state step : Nat) : (m.setLstate n state step).free = m.free := rfl
@[simp] theorem setLstate_out (n state step : Nat) : (m.setLstate n state step).out = m.out := rfl

/-! ### letGo -/

@[simp] theorem letGo_regs (line : Nat) : (m.letGo line).regs = m.regs := rfl
@[simp] theorem letGo_time (line : Nat) : (m.letGo line).time = m.time := rfl
@[simp] theorem letGo_aon (line : Nat) : (m.letGo line).aon = m.aon := rfl
@[simp] theorem letGo_groups (line : Nat) : (m.letGo line).groups = m.groups := rfl
@[simp] theorem letGo_ended (line : Nat) : (m.letGo line).ended = m.ended := rfl
@[simp] theorem letGo_sw (line : Nat) : (m.letGo line).sw = m.sw := rfl
@[simp] theorem letGo_ports (line : Nat) : (m.letGo line).ports = m.ports := rfl
@[simp] theorem letGo_lanes (line : Nat) : (m.letGo line).lanes = m.lanes := rfl
@[simp] theorem letGo_shapers (line : Nat) : (m.letGo line).shapers = m.shapers := rfl
@[simp] theorem letGo_flt (line : Nat) : (m.letGo line).flt = m.flt := rfl
@[simp] theorem letGo_boot (line : Nat) : (m.letGo line).boot = m.boot := rfl
@[simp] theorem letGo_sec (line : Nat) : (m.letGo line).sec = m.sec := rfl
@[simp] theorem letGo_pwr (line : Nat) : (m.letGo line).pwr = m.pwr := rfl
@[simp] theorem letGo_pools (line : Nat) : (m.letGo line).pools = m.pools := rfl
@[simp] theorem letGo_pages (line : Nat) : (m.letGo line).pages = m.pages := rfl
@[simp] theorem letGo_cores (line : Nat) : (m.letGo line).cores = m.cores := rfl
@[simp] theorem letGo_layers (line : Nat) : (m.letGo line).layers = m.layers := rfl
@[simp] theorem letGo_sessions (line : Nat) : (m.letGo line).sessions = m.sessions := rfl
@[simp] theorem letGo_dgt (line : Nat) : (m.letGo line).dgt = m.dgt := rfl
@[simp] theorem letGo_ecc (line : Nat) : (m.letGo line).ecc = m.ecc := rfl
@[simp] theorem letGo_tap (line : Nat) : (m.letGo line).tap = m.tap := rfl
@[simp] theorem letGo_free (line : Nat) : (m.letGo line).free = m.free := rfl
@[simp] theorem letGo_out (line : Nat) : (m.letGo line).out = m.out := rfl

/-! ### entrySeen -/

@[simp] theorem entrySeen_regs : (m.entrySeen).regs = m.regs := rfl
@[simp] theorem entrySeen_aon : (m.entrySeen).aon = m.aon := rfl
@[simp] theorem entrySeen_groups : (m.entrySeen).groups = m.groups := rfl
@[simp] theorem entrySeen_ended : (m.entrySeen).ended = m.ended := rfl
@[simp] theorem entrySeen_sw : (m.entrySeen).sw = m.sw := rfl
@[simp] theorem entrySeen_ports : (m.entrySeen).ports = m.ports := rfl
@[simp] theorem entrySeen_lanes : (m.entrySeen).lanes = m.lanes := rfl
@[simp] theorem entrySeen_shapers : (m.entrySeen).shapers = m.shapers := rfl
@[simp] theorem entrySeen_jnk : (m.entrySeen).jnk = m.jnk := rfl
@[simp] theorem entrySeen_flt : (m.entrySeen).flt = m.flt := rfl
@[simp] theorem entrySeen_boot : (m.entrySeen).boot = m.boot := rfl
@[simp] theorem entrySeen_sec : (m.entrySeen).sec = m.sec := rfl
@[simp] theorem entrySeen_pwr : (m.entrySeen).pwr = m.pwr := rfl
@[simp] theorem entrySeen_pools : (m.entrySeen).pools = m.pools := rfl
@[simp] theorem entrySeen_pages : (m.entrySeen).pages = m.pages := rfl
@[simp] theorem entrySeen_cores : (m.entrySeen).cores = m.cores := rfl
@[simp] theorem entrySeen_layers : (m.entrySeen).layers = m.layers := rfl
@[simp] theorem entrySeen_sessions : (m.entrySeen).sessions = m.sessions := rfl
@[simp] theorem entrySeen_dgt : (m.entrySeen).dgt = m.dgt := rfl
@[simp] theorem entrySeen_ecc : (m.entrySeen).ecc = m.ecc := rfl
@[simp] theorem entrySeen_tap : (m.entrySeen).tap = m.tap := rfl
@[simp] theorem entrySeen_free : (m.entrySeen).free = m.free := rfl
@[simp] theorem entrySeen_out : (m.entrySeen).out = m.out := rfl

/-! ### modCore -/

@[simp] theorem modCore_regs (k : Nat) (f : Core → Core) : (m.modCore k f).regs = m.regs := rfl
@[simp] theorem modCore_time (k : Nat) (f : Core → Core) : (m.modCore k f).time = m.time := rfl
@[simp] theorem modCore_aon (k : Nat) (f : Core → Core) : (m.modCore k f).aon = m.aon := rfl
@[simp] theorem modCore_groups (k : Nat) (f : Core → Core) : (m.modCore k f).groups = m.groups := rfl
@[simp] theorem modCore_ended (k : Nat) (f : Core → Core) : (m.modCore k f).ended = m.ended := rfl
@[simp] theorem modCore_sw (k : Nat) (f : Core → Core) : (m.modCore k f).sw = m.sw := rfl
@[simp] theorem modCore_ports (k : Nat) (f : Core → Core) : (m.modCore k f).ports = m.ports := rfl
@[simp] theorem modCore_lanes (k : Nat) (f : Core → Core) : (m.modCore k f).lanes = m.lanes := rfl
@[simp] theorem modCore_shapers (k : Nat) (f : Core → Core) : (m.modCore k f).shapers = m.shapers := rfl
@[simp] theorem modCore_jnk (k : Nat) (f : Core → Core) : (m.modCore k f).jnk = m.jnk := rfl
@[simp] theorem modCore_flt (k : Nat) (f : Core → Core) : (m.modCore k f).flt = m.flt := rfl
@[simp] theorem modCore_boot (k : Nat) (f : Core → Core) : (m.modCore k f).boot = m.boot := rfl
@[simp] theorem modCore_sec (k : Nat) (f : Core → Core) : (m.modCore k f).sec = m.sec := rfl
@[simp] theorem modCore_pwr (k : Nat) (f : Core → Core) : (m.modCore k f).pwr = m.pwr := rfl
@[simp] theorem modCore_pools (k : Nat) (f : Core → Core) : (m.modCore k f).pools = m.pools := rfl
@[simp] theorem modCore_pages (k : Nat) (f : Core → Core) : (m.modCore k f).pages = m.pages := rfl
@[simp] theorem modCore_layers (k : Nat) (f : Core → Core) : (m.modCore k f).layers = m.layers := rfl
@[simp] theorem modCore_sessions (k : Nat) (f : Core → Core) : (m.modCore k f).sessions = m.sessions := rfl
@[simp] theorem modCore_dgt (k : Nat) (f : Core → Core) : (m.modCore k f).dgt = m.dgt := rfl
@[simp] theorem modCore_ecc (k : Nat) (f : Core → Core) : (m.modCore k f).ecc = m.ecc := rfl
@[simp] theorem modCore_tap (k : Nat) (f : Core → Core) : (m.modCore k f).tap = m.tap := rfl
@[simp] theorem modCore_free (k : Nat) (f : Core → Core) : (m.modCore k f).free = m.free := rfl
@[simp] theorem modCore_out (k : Nat) (f : Core → Core) : (m.modCore k f).out = m.out := rfl

/-! ### modLane -/

@[simp] theorem modLane_regs (n : Nat) (f : LaneX → LaneX) : (m.modLane n f).regs = m.regs := rfl
@[simp] theorem modLane_time (n : Nat) (f : LaneX → LaneX) : (m.modLane n f).time = m.time := rfl
@[simp] theorem modLane_aon (n : Nat) (f : LaneX → LaneX) : (m.modLane n f).aon = m.aon := rfl
@[simp] theorem modLane_groups (n : Nat) (f : LaneX → LaneX) : (m.modLane n f).groups = m.groups := rfl
@[simp] theorem modLane_ended (n : Nat) (f : LaneX → LaneX) : (m.modLane n f).ended = m.ended := rfl
@[simp] theorem modLane_sw (n : Nat) (f : LaneX → LaneX) : (m.modLane n f).sw = m.sw := rfl
@[simp] theorem modLane_ports (n : Nat) (f : LaneX → LaneX) : (m.modLane n f).ports = m.ports := rfl
@[simp] theorem modLane_shapers (n : Nat) (f : LaneX → LaneX) : (m.modLane n f).shapers = m.shapers := rfl
@[simp] theorem modLane_jnk (n : Nat) (f : LaneX → LaneX) : (m.modLane n f).jnk = m.jnk := rfl
@[simp] theorem modLane_flt (n : Nat) (f : LaneX → LaneX) : (m.modLane n f).flt = m.flt := rfl
@[simp] theorem modLane_boot (n : Nat) (f : LaneX → LaneX) : (m.modLane n f).boot = m.boot := rfl
@[simp] theorem modLane_sec (n : Nat) (f : LaneX → LaneX) : (m.modLane n f).sec = m.sec := rfl
@[simp] theorem modLane_pwr (n : Nat) (f : LaneX → LaneX) : (m.modLane n f).pwr = m.pwr := rfl
@[simp] theorem modLane_pools (n : Nat) (f : LaneX → LaneX) : (m.modLane n f).pools = m.pools := rfl
@[simp] theorem modLane_pages (n : Nat) (f : LaneX → LaneX) : (m.modLane n f).pages = m.pages := rfl
@[simp] theorem modLane_cores (n : Nat) (f : LaneX → LaneX) : (m.modLane n f).cores = m.cores := rfl
@[simp] theorem modLane_layers (n : Nat) (f : LaneX → LaneX) : (m.modLane n f).layers = m.layers := rfl
@[simp] theorem modLane_sessions (n : Nat) (f : LaneX → LaneX) : (m.modLane n f).sessions = m.sessions := rfl
@[simp] theorem modLane_dgt (n : Nat) (f : LaneX → LaneX) : (m.modLane n f).dgt = m.dgt := rfl
@[simp] theorem modLane_ecc (n : Nat) (f : LaneX → LaneX) : (m.modLane n f).ecc = m.ecc := rfl
@[simp] theorem modLane_tap (n : Nat) (f : LaneX → LaneX) : (m.modLane n f).tap = m.tap := rfl
@[simp] theorem modLane_free (n : Nat) (f : LaneX → LaneX) : (m.modLane n f).free = m.free := rfl
@[simp] theorem modLane_out (n : Nat) (f : LaneX → LaneX) : (m.modLane n f).out = m.out := rfl

/-! ### modPort -/

@[simp] theorem modPort_regs (n : Nat) (f : Port → Port) : (m.modPort n f).regs = m.regs := rfl
@[simp] theorem modPort_time (n : Nat) (f : Port → Port) : (m.modPort n f).time = m.time := rfl
@[simp] theorem modPort_aon (n : Nat) (f : Port → Port) : (m.modPort n f).aon = m.aon := rfl
@[simp] theorem modPort_groups (n : Nat) (f : Port → Port) : (m.modPort n f).groups = m.groups := rfl
@[simp] theorem modPort_ended (n : Nat) (f : Port → Port) : (m.modPort n f).ended = m.ended := rfl
@[simp] theorem modPort_sw (n : Nat) (f : Port → Port) : (m.modPort n f).sw = m.sw := rfl
@[simp] theorem modPort_lanes (n : Nat) (f : Port → Port) : (m.modPort n f).lanes = m.lanes := rfl
@[simp] theorem modPort_shapers (n : Nat) (f : Port → Port) : (m.modPort n f).shapers = m.shapers := rfl
@[simp] theorem modPort_jnk (n : Nat) (f : Port → Port) : (m.modPort n f).jnk = m.jnk := rfl
@[simp] theorem modPort_flt (n : Nat) (f : Port → Port) : (m.modPort n f).flt = m.flt := rfl
@[simp] theorem modPort_boot (n : Nat) (f : Port → Port) : (m.modPort n f).boot = m.boot := rfl
@[simp] theorem modPort_sec (n : Nat) (f : Port → Port) : (m.modPort n f).sec = m.sec := rfl
@[simp] theorem modPort_pwr (n : Nat) (f : Port → Port) : (m.modPort n f).pwr = m.pwr := rfl
@[simp] theorem modPort_pools (n : Nat) (f : Port → Port) : (m.modPort n f).pools = m.pools := rfl
@[simp] theorem modPort_pages (n : Nat) (f : Port → Port) : (m.modPort n f).pages = m.pages := rfl
@[simp] theorem modPort_cores (n : Nat) (f : Port → Port) : (m.modPort n f).cores = m.cores := rfl
@[simp] theorem modPort_layers (n : Nat) (f : Port → Port) : (m.modPort n f).layers = m.layers := rfl
@[simp] theorem modPort_sessions (n : Nat) (f : Port → Port) : (m.modPort n f).sessions = m.sessions := rfl
@[simp] theorem modPort_dgt (n : Nat) (f : Port → Port) : (m.modPort n f).dgt = m.dgt := rfl
@[simp] theorem modPort_ecc (n : Nat) (f : Port → Port) : (m.modPort n f).ecc = m.ecc := rfl
@[simp] theorem modPort_tap (n : Nat) (f : Port → Port) : (m.modPort n f).tap = m.tap := rfl
@[simp] theorem modPort_free (n : Nat) (f : Port → Port) : (m.modPort n f).free = m.free := rfl
@[simp] theorem modPort_out (n : Nat) (f : Port → Port) : (m.modPort n f).out = m.out := rfl

/-! ### setPool -/

@[simp] theorem setPool_regs (p : Pool) : (m.setPool p).regs = m.regs := rfl
@[simp] theorem setPool_time (p : Pool) : (m.setPool p).time = m.time := rfl
@[simp] theorem setPool_aon (p : Pool) : (m.setPool p).aon = m.aon := rfl
@[simp] theorem setPool_groups (p : Pool) : (m.setPool p).groups = m.groups := rfl
@[simp] theorem setPool_ended (p : Pool) : (m.setPool p).ended = m.ended := rfl
@[simp] theorem setPool_sw (p : Pool) : (m.setPool p).sw = m.sw := rfl
@[simp] theorem setPool_ports (p : Pool) : (m.setPool p).ports = m.ports := rfl
@[simp] theorem setPool_lanes (p : Pool) : (m.setPool p).lanes = m.lanes := rfl
@[simp] theorem setPool_shapers (p : Pool) : (m.setPool p).shapers = m.shapers := rfl
@[simp] theorem setPool_jnk (p : Pool) : (m.setPool p).jnk = m.jnk := rfl
@[simp] theorem setPool_flt (p : Pool) : (m.setPool p).flt = m.flt := rfl
@[simp] theorem setPool_boot (p : Pool) : (m.setPool p).boot = m.boot := rfl
@[simp] theorem setPool_sec (p : Pool) : (m.setPool p).sec = m.sec := rfl
@[simp] theorem setPool_pwr (p : Pool) : (m.setPool p).pwr = m.pwr := rfl
@[simp] theorem setPool_pages (p : Pool) : (m.setPool p).pages = m.pages := rfl
@[simp] theorem setPool_cores (p : Pool) : (m.setPool p).cores = m.cores := rfl
@[simp] theorem setPool_layers (p : Pool) : (m.setPool p).layers = m.layers := rfl
@[simp] theorem setPool_sessions (p : Pool) : (m.setPool p).sessions = m.sessions := rfl
@[simp] theorem setPool_dgt (p : Pool) : (m.setPool p).dgt = m.dgt := rfl
@[simp] theorem setPool_ecc (p : Pool) : (m.setPool p).ecc = m.ecc := rfl
@[simp] theorem setPool_tap (p : Pool) : (m.setPool p).tap = m.tap := rfl
@[simp] theorem setPool_free (p : Pool) : (m.setPool p).free = m.free := rfl
@[simp] theorem setPool_out (p : Pool) : (m.setPool p).out = m.out := rfl

/-! ### What the updates write -/

theorem wr_regs (off : Nat) (v : Word) : (m.wr off v).regs = sput regReset m.regs off v := rfl
@[simp] theorem emit_out (o : Out) : (m.emit o).out = m.out ++ [o] := rfl
theorem dropPins_pins (q : Pin → Bool) : (m.dropPins q).flt.pins = m.flt.pins.filter fun p => !q p := rfl
@[simp] theorem draw_fst (w : Nat) : (m.draw w).1 = Config.freeValue m.free % 2 ^ w := rfl
@[simp] theorem draw_snd (w : Nat) : (m.draw w).2 = { m with free := m.free + 1 } := rfl

/-! ### Memories of a core -/

@[simp] theorem setV_hbm (k r i : Nat) (ws : List Word) : (st.setV k r i ws).hbm = st.hbm := rfl
@[simp] theorem setV_scratch (k r i : Nat) (ws : List Word) : (st.setV k r i ws).scratch = st.scratch := rfl
@[simp] theorem setV_xregs (k r i : Nat) (ws : List Word) : (st.setV k r i ws).xregs = st.xregs := rfl
@[simp] theorem setV_prog (k r i : Nat) (ws : List Word) : (st.setV k r i ws).prog = st.prog := rfl
@[simp] theorem setV_expmap (k r i : Nat) (ws : List Word) : (st.setV k r i ws).expmap = st.expmap := rfl
@[simp] theorem setV_route (k r i : Nat) (ws : List Word) : (st.setV k r i ws).route = st.route := rfl
@[simp] theorem setScr_hbm (k a : Nat) (bs : List Byte) : (st.setScr k a bs).hbm = st.hbm := rfl
@[simp] theorem setScr_vregs (k a : Nat) (bs : List Byte) : (st.setScr k a bs).vregs = st.vregs := rfl
@[simp] theorem setScr_xregs (k a : Nat) (bs : List Byte) : (st.setScr k a bs).xregs = st.xregs := rfl
@[simp] theorem setScr_prog (k a : Nat) (bs : List Byte) : (st.setScr k a bs).prog = st.prog := rfl
@[simp] theorem setScr_expmap (k a : Nat) (bs : List Byte) : (st.setScr k a bs).expmap = st.expmap := rfl
@[simp] theorem setScr_route (k a : Nat) (bs : List Byte) : (st.setScr k a bs).route = st.route := rfl
@[simp] theorem setX_hbm (k r : Nat) (v : Word) : (st.setX k r v).hbm = st.hbm := by
  unfold Store.setX; split <;> rfl
@[simp] theorem setX_scratch (k r : Nat) (v : Word) : (st.setX k r v).scratch = st.scratch := by
  unfold Store.setX; split <;> rfl
@[simp] theorem setX_vregs (k r : Nat) (v : Word) : (st.setX k r v).vregs = st.vregs := by
  unfold Store.setX; split <;> rfl
@[simp] theorem setX_prog (k r : Nat) (v : Word) : (st.setX k r v).prog = st.prog := by
  unfold Store.setX; split <;> rfl
@[simp] theorem setX_expmap (k r : Nat) (v : Word) : (st.setX k r v).expmap = st.expmap := by
  unfold Store.setX; split <;> rfl
@[simp] theorem setX_route (k r : Nat) (v : Word) : (st.setX k r v).route = st.route := by
  unfold Store.setX; split <;> rfl

/-- A write to X0 is discarded. -/
@[simp] theorem setX_zero (k : Nat) (v : Word) : st.setX k 0 v = st := rfl

end Sys2Proof.Machine
end

