-- ==== Sys2Proof/Laws/Events.lean ====
section
/-! SUPPORT. Laws/Events.lean: what sending a Jionuk request, writing a record and raising an event can change: registers of
the rings, the rings' own state, and the output log; and that a unit found by its number has that number. -/
namespace Sys2Proof.Machine

/-- `a` differs from `m` at most in its registers, in what the rings hold and in the output log. -/
def Mach.RingOnly (m a : Mach) : Prop := { m with regs := a.regs, jnk := a.jnk, out := a.out } = a

theorem ringOnly_refl (m : Mach) : m.RingOnly m := rfl

theorem ringOnly_trans {m a b : Mach} (h1 : m.RingOnly a) (h2 : a.RingOnly b) : m.RingOnly b := by
  unfold Mach.RingOnly at *; rw [← h2, ← h1]

theorem ringOnly_wr (m : Mach) (off : Nat) (v : Word) : m.RingOnly (m.wr off v) := rfl

theorem ringOnly_emit (m : Mach) (o : Out) : m.RingOnly (m.emit o) := rfl

theorem ringOnly_setRing (m : Mach) (r : RingSt) : m.RingOnly (m.setRing r) := rfl

theorem ringOnly_jnkReq (m : Mach) (opc addr : Nat) (data : List Byte) (why : JnkWhy) :
    m.RingOnly (m.jnkReq opc addr data why) := rfl

theorem ringOnly_foldl {α : Type} (f : Mach → α → Mach) (hf : ∀ (a : Mach) (x : α), a.RingOnly (f a x)) (l : List α) (m : Mach) :
    m.RingOnly (l.foldl f m) := by
  induction l generalizing m with
  | nil => exact ringOnly_refl m
  | cons x t ih => exact ringOnly_trans (hf m x) (ih _)

theorem ringOnly_writeSlots (m : Mach) (i : Nat) (filler : Bool) (slots : List (List Word)) :
    m.RingOnly (m.writeSlots i filler slots) :=
  ringOnly_foldl _ (fun a _ => ringOnly_jnkReq a _ _ _ _) _ m

theorem ringOnly_tryReport {m a : Mach} {w0 : Nat} {slots : List (List Word)} (h : m.tryReport w0 slots = some a) :
    m.RingOnly a := by
  simp only [Mach.tryReport, Option.ite_none_right_eq_some, Option.some.injEq] at h
  obtain ⟨-, rfl⟩ := h
  have skip (c : Prop) [Decidable c] (i : Nat) (b : Bool) (l : List (List Word)) :
      m.RingOnly (if c then m else m.writeSlots i b l) := by
    split
    · exact ringOnly_refl m
    · exact ringOnly_writeSlots _ _ _ _
  exact ringOnly_trans (ringOnly_trans (skip _ _ _ _) (ringOnly_writeSlots _ _ _ _)) (ringOnly_wr _ _ _)

theorem ringOnly_dropEvent (m : Mach) (set : Nat) : m.RingOnly (m.dropEvent set) := by
  unfold Mach.dropEvent
  simp only
  split <;> split <;> rfl

theorem ringOnly_report (m : Mach) (w0 : Nat) (slot : List Word) : m.RingOnly (m.report w0 slot) := by
  unfold Mach.report
  split
  · rfl
  · split
    · split
      · exact ringOnly_tryReport ‹_›
      · rfl
    · rfl

theorem ringOnly_eventToReport (m : Mach) (gal type fclass : Nat) (body : List Nat) :
    m.RingOnly (m.eventToReport gal type fclass body) := by
  unfold Mach.eventToReport
  simp only
  split
  · exact ringOnly_trans (ringOnly_tryReport ‹_›) (ringOnly_setRing _ _)
  · exact ringOnly_dropEvent m 64

theorem ringOnly_eventToGallery (m : Mach) (g type fclass : Nat) (body : List Nat) :
    m.RingOnly (m.eventToGallery g type fclass body) := by
  unfold Mach.eventToGallery
  simp only
  split
  · exact ringOnly_trans (ringOnly_trans (ringOnly_setRing _ _) (ringOnly_jnkReq _ _ _ _ _)) (ringOnly_wr _ _ _)
  · exact ringOnly_dropEvent m g

/-- A gallery event changes nothing but rings and the output log. -/
theorem ringOnly_galEvent (m : Mach) (g type fclass : Nat) (body : List Nat) :
    m.RingOnly (m.galEvent g type fclass body) := by
  unfold Mach.galEvent
  split
  · exact ringOnly_eventToGallery m g type fclass body
  · exact ringOnly_eventToReport m g type fclass body

/-- A module event changes nothing but rings and the output log. -/
theorem ringOnly_modEvent (m : Mach) (type fclass : Nat) (body : List Nat) : m.RingOnly (m.modEvent type fclass body) :=
  ringOnly_eventToReport m 0 type fclass body

theorem ringOnly_faultEvent (m : Mach) (g old new cause unit detail : Nat) :
    m.RingOnly (m.faultEvent g old new cause unit detail) := ringOnly_modEvent m _ _ _

theorem ringOnly_powerEvent (m : Mach) (kind source die level cause domain : Nat) :
    m.RingOnly (m.powerEvent kind source die level cause domain) := ringOnly_modEvent m _ _ _

theorem ringOnly_note (m : Mach) (g c unit detail : Nat) : m.RingOnly (m.note g c unit detail) := by
  unfold Mach.note
  simp only
  split
  · exact ringOnly_trans (ringOnly_wr m _ _) (ringOnly_modEvent _ _ _ _)
  · exact ringOnly_wr m _ _

/-- The core found by its number has that number. -/
@[simp] theorem core_core (m : Mach) (k : Nat) : (m.core k).core = k := by
  unfold Mach.core
  cases h : m.cores.find? fun c => c.core == k with
  | none => rfl
  | some c => simpa using List.find?_some h

/-- The ring set found by its number has that number. -/
@[simp] theorem ring_set (m : Mach) (k : Nat) : (m.ring k).set = k := by
  unfold Mach.ring
  cases h : m.jnk.rings.find? fun r => r.set == k with
  | none => rfl
  | some c => simpa using List.find?_some h

/-- The lane found by its number has that number. -/
@[simp] theorem lane_lane (m : Mach) (n : Nat) : (m.lane n).lane = n := by
  unfold Mach.lane
  cases h : m.lanes.find? fun x => x.lane == n with
  | none => rfl
  | some c => simpa using List.find?_some h

/-- A core written is the core read, and no other core changes. -/
theorem core_setCore (m : Mach) (c : Core) (k : Nat) : (m.setCore c).core k = if c.core = k then c else m.core k := by
  have keep : (m.cores.filter fun x => x.core != c.core).find? (fun x => x.core == k) =
      if c.core = k then none else m.cores.find? fun x => x.core == k := by
    induction m.cores with
    | nil => split <;> rfl
    | cons y t ih =>
      rw [List.filter_cons, List.find?_cons]
      by_cases hy : y.core = c.core
      · have h1 : (y.core != c.core) = false := by simp [hy]
        simp only [h1, Bool.false_eq_true, if_false, ih]
        by_cases hk : c.core = k
        · simp [hk]
        · have h2 : (y.core == k) = false := by simp [hy, hk]
          simp [hk, h2]
      · have h1 : (y.core != c.core) = true := by simp [hy]
        simp only [h1, if_true, List.find?_cons, ih]
        by_cases hyk : y.core = k
        · have hk : ¬c.core = k := fun e => hy (hyk.trans e.symm)
          simp [hyk, hk]
        · have h2 : (y.core == k) = false := by simp [hyk]
          simp [h2]
  have none_ : (m.setCore c).core k = if c.core = k then c else m.core k := by
    unfold Mach.core Mach.setCore
    by_cases hd : c = { core := c.core }
    · have h1 : (c == { core := c.core }) = true := by simpa using hd
      simp only [h1, if_true, keep]
      split
      · rename_i hk; subst hk; exact hd.symm
      · rfl
    · have h1 : (c == { core := c.core }) = false := by simpa using hd
      simp only [h1, Bool.false_eq_true, if_false, List.find?_cons]
      by_cases hk : c.core = k
      · simp [hk]
      · have h2 : (c.core == k) = false := by simpa using hk
        simp only [h2, keep, hk, if_false]
  exact none_

end Sys2Proof.Machine
end

