-- ==== Sys2Proof/Laws/Faults.lean ====
section
/-! SUPPORT. Laws/Faults.lean: what latching an error pin and entering safe state can change: registers, the collector's state,
the rings and the output log. -/
namespace Sys2Proof.Machine

/-- `a` differs from `m` at most in its registers, the fault collector, what the rings hold and the output log. -/
def Mach.FaultOnly (m a : Mach) : Prop := { m with regs := a.regs, flt := a.flt, jnk := a.jnk, out := a.out } = a

theorem faultOnly_refl (m : Mach) : m.FaultOnly m := rfl

theorem faultOnly_trans {m a b : Mach} (h1 : m.FaultOnly a) (h2 : a.FaultOnly b) : m.FaultOnly b := by
  unfold Mach.FaultOnly at *; rw [← h2, ← h1]

theorem faultOnly_ring {m a : Mach} (h : m.RingOnly a) : m.FaultOnly a := by
  unfold Mach.FaultOnly Mach.RingOnly at *; rw [← h]

theorem faultOnly_if {m a b : Mach} (c : Prop) [Decidable c] (ha : m.FaultOnly a) (hb : m.FaultOnly b) :
    m.FaultOnly (if c then a else b) := by
  split <;> assumption

theorem faultOnly_flt (m : Mach) (f : FaultSt) : m.FaultOnly { m with flt := f } := rfl

theorem faultOnly_setFsw (m : Mach) (g : Nat) (b : Bool) : m.FaultOnly (m.setFsw g b) := rfl

theorem faultOnly_setGclass (m : Mach) (g c : Nat) : m.FaultOnly (m.setGclass g c) := rfl

theorem ringOnly_emits (m : Mach) (first : Nat) (l : List Nat) :
    m.RingOnly (l.foldl (fun b i => b.emit (.transmitterOff (first + i))) m) :=
  ringOnly_foldl _ (fun b _ => ringOnly_emit b _) _ m

/-- Entering safe state changes registers, the collector, the rings and the output log. -/
theorem faultOnly_enterSafe (m : Mach) (g old cause unit detail : Nat) : m.FaultOnly (m.enterSafe g old cause unit detail) := by
  unfold Mach.enterSafe
  split
  · exact faultOnly_refl m
  · refine faultOnly_trans ?_ (faultOnly_ring (ringOnly_foldl _ (fun a _ => ringOnly_emits a _ _) _ _))
    refine faultOnly_trans ?_ (faultOnly_flt _ _)
    refine faultOnly_trans (faultOnly_ring (ringOnly_faultEvent m g old 4 cause unit detail)) ?_
    have w (a : Mach) (off : Nat) (v : Word) : a.FaultOnly (a.wr off v) := faultOnly_ring (ringOnly_wr a off v)
    have e (a : Mach) (j : JnkMsg) : a.FaultOnly (a.sendJnk j) := rfl
    have f (a : Mach) (off i : Nat) (b : Bool) : a.FaultOnly (a.setFlag off i b) := w a _ _
    refine faultOnly_trans (faultOnly_setFsw _ 63 true) ?_
    refine faultOnly_if _ (faultOnly_trans (faultOnly_trans ?_ (e _ _)) (f _ _ _ _)) ?_
    all_goals
      exact faultOnly_trans (faultOnly_trans (faultOnly_trans (faultOnly_trans (w _ _ _) (w _ _ _)) (w _ _ _)) (w _ _ _))
        (f _ _ _ _)

/-- Latching a pin changes registers, the collector, the rings and the output log. -/
theorem faultOnly_latch (m : Mach) (g c unit detail : Nat) : m.FaultOnly (m.latch g c unit detail) := by
  unfold Mach.latch
  simp only
  split
  · rfl
  · split
    · exact faultOnly_trans (faultOnly_trans (faultOnly_setFsw _ _ _) (faultOnly_setGclass _ _ _)) (faultOnly_enterSafe _ _ _ _ _ _)
    · refine faultOnly_trans ?_ (faultOnly_ring (ringOnly_faultEvent _ _ _ _ _ _ _))
      repeat' split
      all_goals rfl

/-- Asserting a pin changes registers, the collector, the rings and the output log. -/
theorem faultOnly_raisePin (m : Mach) (g c unit detail : Nat) : m.FaultOnly (m.raisePin g c unit detail) := by
  unfold Mach.raisePin
  simp only
  have h : m.FaultOnly (if m.flt.pins.contains ⟨g, c, unit, detail⟩ then m
      else { m with flt := { m.flt with pins := m.flt.pins ++ [⟨g, c, unit, detail⟩] } }) := faultOnly_if _ rfl rfl
  split
  · exact h
  · exact faultOnly_trans h (faultOnly_latch _ _ _ _ _)

theorem faultOnly_dropPins (m : Mach) (q : Pin → Bool) : m.FaultOnly (m.dropPins q) := rfl

theorem faultOnly_pulsePin (m : Mach) (g c unit detail : Nat) : m.FaultOnly (m.pulsePin g c unit detail) :=
  faultOnly_trans (faultOnly_raisePin m _ _ _ _) (faultOnly_dropPins _ _)

theorem faultOnly_note (m : Mach) (g c unit detail : Nat) : m.FaultOnly (m.note g c unit detail) :=
  faultOnly_ring (ringOnly_note m g c unit detail)

end Sys2Proof.Machine
end

