-- ==== Sys2Proof/Laws/Mem.lean ====
section
/-! SUPPORT. Laws/Mem.lean: what the operations over sparse memories do: reading after writing, and the canonical form. -/
namespace Sys2Proof.Machine

variable {w : Nat} {d : Nat → BitVec w}

theorem swf_nil : swf d ([] : Cells w) = true := rfl

theorem swf_cons {k : Nat} {v : BitVec w} {t : Cells w} :
    swf d ((k, v) :: t) = true ↔ v ≠ d k ∧ (∀ p ∈ t, k < p.1) ∧ swf d t = true := by
  simp [swf, and_assoc]

theorem sget_of_lt {t : Cells w} {k : Nat} (h : ∀ p ∈ t, k < p.1) : sget d t k = d k := by
  cases t with
  | nil => rfl
  | cons p t =>
    have := h p (by simp)
    have h1 : p.1 ≠ k := by omega
    simp [sget, h1, this]

theorem scons_keys {k a : Nat} {v : BitVec w} {t : Cells w} (hk : a < k) (ht : ∀ p ∈ t, a < p.1) :
    ∀ p ∈ scons d k v t, a < p.1 := by
  intro p hp
  unfold scons at hp
  split at hp
  · exact ht p hp
  · rcases List.mem_cons.1 hp with rfl | hp
    · exact hk
    · exact ht p hp

theorem sput_keys {c : Cells w} {a k : Nat} {v : BitVec w} (hk : a < k) (hc : ∀ p ∈ c, a < p.1) :
    ∀ p ∈ sput d c k v, a < p.1 := by
  induction c with
  | nil => exact scons_keys hk (by simp)
  | cons q t ih =>
    obtain ⟨b, u⟩ := q
    have hb : a < b := hc (b, u) (by simp)
    have ht : ∀ p ∈ t, a < p.1 := fun p hp => hc p (by simp [hp])
    simp only [sput]
    split
    · intro p hp
      rcases List.mem_cons.1 hp with rfl | hp
      · exact hb
      · exact ih ht p hp
    · split
      · exact scons_keys hk ht
      · exact scons_keys hk hc

theorem scons_wf {k : Nat} {v : BitVec w} {t : Cells w} (ht : swf d t = true) (hk : ∀ p ∈ t, k < p.1) :
    swf d (scons d k v t) = true := by
  unfold scons
  split
  · exact ht
  · exact swf_cons.2 ⟨‹_›, hk, ht⟩

/-- A write keeps the canonical form. -/
theorem sput_wf {c : Cells w} (h : swf d c = true) (k : Nat) (v : BitVec w) : swf d (sput d c k v) = true := by
  induction c with
  | nil => exact scons_wf rfl (by simp)
  | cons q t ih =>
    obtain ⟨b, u⟩ := q
    obtain ⟨hu, hb, ht⟩ := swf_cons.1 h
    simp only [sput]
    split
    · rename_i hlt
      exact swf_cons.2 ⟨hu, sput_keys hlt hb, ih ht⟩
    · split
      · rename_i he
        exact scons_wf ht (he ▸ hb)
      · refine scons_wf h fun p hp => ?_
        rcases List.mem_cons.1 hp with rfl | hp
        · show k < b
          omega
        · have := hb p hp
          omega

/-- Consecutive writes keep the canonical form. -/
theorem sputs_wf {vs : List (BitVec w)} {c : Cells w} (h : swf d c = true) (k : Nat) : swf d (sputs d c k vs) = true := by
  induction vs generalizing c k with
  | nil => exact h
  | cons v vs ih => exact ih (sput_wf h k v) (k + 1)

theorem filter_wf {c : Cells w} (h : swf d c = true) (q : Nat × BitVec w → Bool) : swf d (c.filter q) = true := by
  induction c with
  | nil => rfl
  | cons p t ih =>
    obtain ⟨b, u⟩ := p
    obtain ⟨hu, hb, ht⟩ := swf_cons.1 h
    simp only [List.filter_cons]
    split
    · exact swf_cons.2 ⟨hu, fun x hx => hb x (List.mem_filter.1 hx).1, ih ht⟩
    · exact ih ht

/-- Clearing a range keeps the canonical form. -/
theorem sclear_wf {c : Cells w} (h : swf d c = true) (lo hi : Nat) : swf d (sclear c lo hi) = true := filter_wf h _

/-- A read after a write to the same key gives the value written. -/
theorem sget_sput_same {c : Cells w} (h : swf d c = true) (k : Nat) (v : BitVec w) : sget d (sput d c k v) k = v := by
  have key (t : Cells w) (ht : ∀ p ∈ t, k < p.1) : sget d (scons d k v t) k = v := by
    unfold scons
    split
    · rw [sget_of_lt ht]; exact Eq.symm ‹_›
    · simp [sget]
  induction c with
  | nil => exact key [] (by simp)
  | cons q t ih =>
    obtain ⟨b, u⟩ := q
    obtain ⟨-, hb, ht⟩ := swf_cons.1 h
    simp only [sput]
    split
    · have h1 : b ≠ k := by omega
      have h2 : ¬k < b := by omega
      simp [sget, h1, h2, ih ht]
    · split
      · rename_i he
        exact key t (he ▸ hb)
      · refine key _ fun p hp => ?_
        rcases List.mem_cons.1 hp with rfl | hp
        · show k < b
          omega
        · have := hb p hp
          omega

theorem sget_scons_other {t : Cells w} {k j : Nat} {v : BitVec w} (hj : j ≠ k) (ht : ∀ p ∈ t, k < p.1) :
    sget d (scons d k v t) j = sget d t j := by
  unfold scons
  split
  · rfl
  · have h1 : k ≠ j := Ne.symm hj
    simp only [sget, h1, if_false]
    split
    · rw [sget_of_lt fun p hp => by have := ht p hp; omega]
    · rfl

/-- A write leaves every other key alone. -/
theorem sget_sput_other {c : Cells w} (h : swf d c = true) {k j : Nat} (v : BitVec w) (hj : j ≠ k) :
    sget d (sput d c k v) j = sget d c j := by
  induction c with
  | nil => exact sget_scons_other hj (by simp)
  | cons q t ih =>
    obtain ⟨b, u⟩ := q
    obtain ⟨-, hb, ht⟩ := swf_cons.1 h
    simp only [sput]
    split
    · simp only [sget, ih ht]
    · split
      · rename_i hn he
        subst he
        rw [sget_scons_other hj hb]
        have h1 : b ≠ j := Ne.symm hj
        simp only [sget, h1, if_false]
        split
        · rw [sget_of_lt fun p hp => by have := hb p hp; omega]
        · rfl
      · refine sget_scons_other hj fun p hp => ?_
        rcases List.mem_cons.1 hp with rfl | hp
        · show k < b
          omega
        · have := hb p hp
          omega

end Sys2Proof.Machine
end

