-- ==== Sys2Proof/Laws/Run.lean ====
section
/-! SUPPORT. Laws/Run.lean: how a meaning acts when its conditions hold: register writes, the data path, and engine
instructions of a core that is ready. -/
namespace Sys2Proof.Machine

theorem runM_eq (s : State) (f : Store → Mach → Mach) : s.runM f = .next { s with mach := f s.store s.mach } := rfl

theorem runMS_eq (s : State) (f : Store → Mach → Mach × Store) :
    s.runMS f = .next { s with mach := (f s.store s.mach).1, store := (f s.store s.mach).2 } := rfl

theorem whenRunning_eq {m : Mach} (h : m.running = true) (f : Mach → Mach) : m.whenRunning f = f m := by
  simp [Mach.whenRunning, h]

/-- A write that a register takes has its effect. -/
theorem regCmd_eq {s : State} {off : Nat} (h : Writable s off) (f : Mach → Mach) : s.mach.regCmd off f = f s.mach := by
  simp [Mach.regCmd, Mach.onWrite, h.1, h.2]

/-- A write that no register takes is discarded and counted (22 R546). -/
theorem regCmd_miss {m : Mach} {off : Nat} (ha : m.awake = true) (h : m.access off ≠ .live) (f : Mach → Mach) :
    m.regCmd off f = m.count Reg.JNK_CFG_MISS_CNT := by
  simp [Mach.regCmd, Mach.onWrite, ha, h, Mach.cfgMiss]

theorem wrongCode_clean {m : Mach} (h : m.ecc.otherCode = []) (store unit lo hi : Nat) :
    m.wrongCode store unit lo hi = none := by
  unfold Mach.wrongCode
  split <;> simp [h, lowestOf]

theorem codeWritten_clean {m : Mach} (h : m.ecc.otherCode = []) (store unit lo hi : Nat) :
    m.codeWritten store unit lo hi = m := by
  unfold Mach.codeWritten
  split <;> simp [h]

theorem injRead_clean {m : Mach} (h : m.ecc.bad = [] ∧ m.ecc.otherCode = []) (store unit lo hi : Nat) :
    m.injRead store unit lo hi = (.none, m) := by
  simp [Mach.injRead, wrongCode_clean h.2, Mach.badWords, h.1, lowestOf]

theorem hbmRead_clean {m : Mach} (h : m.ecc.bad = [] ∧ m.ecc.otherCode = []) (store addr n : Nat) :
    m.hbmRead store addr n = (.none, m) := injRead_clean h _ _ _ _

theorem takeResidue_clean {m : Mach} (h : m.flt.injections = []) (core unit : Nat) :
    m.takeResidue core unit = (false, m) := by
  simp [Mach.takeResidue, h]

theorem injWrite_clean {m : Mach} (h : Unspoiled m) (store unit lo hi : Nat) : m.injWrite store unit lo hi = m := by
  simp [Mach.injWrite, codeWritten_clean h.1.2, h.1.1, h.2]

theorem scrBad_clean {m : Mach} {k : Nat} (h : m.ecc.bad = [] ∧ m.ecc.otherCode = []) (hp : (m.core k).poisoned = []) (a n : Nat) :
    m.scrBad k a n = (false, m) := by
  simp [Mach.scrBad, injRead_clean h, hp]

theorem scrWrote_clean {m : Mach} {k : Nat} (h : Unspoiled m) (hp : (m.core k).poisoned = []) (a n : Nat) :
    m.scrWrote k a n = m := by
  simp [Mach.scrWrote, injWrite_clean h, hp]

theorem hbmWrote_clean {m : Mach} (h : Unspoiled m) (store addr n : Nat) : m.hbmWrote store addr n = m :=
  injWrite_clean h _ _ _ _

/-- Clean page-table entries give a command no error. -/
theorem fmTable_clean {m : Mach} (h : m.ecc.bad = [] ∧ m.ecc.otherCode = []) (c : FmCmd) :
    m.fmTable c .none = (.none, m) := by
  unfold Mach.fmTable
  generalize c.pages = l
  induction l with
  | nil => rfl
  | cons p l ih => simpa only [List.foldl_cons, hbmRead_clean h, orErr] using ih

/-- A fabric-memory command whose turn has come and that no early check refuses runs its body. -/
theorem fmRun_ready {s : State} {src : FmSrc} {opc : Nat} {flag : Bool} (h : FmReady s src opc flag)
    (body : FmCmd → HwErr → Mach → Store → Mach × Store) :
    s.mach.fmRun s.store src opc flag .none body = body (fmCmd src) .none s.mach s.store := by
  obtain ⟨hr, ht, hn, hf, hw, hg, hc⟩ := h
  have he : s.mach.fmEarly s.store (fmCmd src) = none := by
    have ho : (fmCmd src).w 0 / 2 ^ 28 ≤ 6 := by
      simp only [FmCmd.fieldOk, Bool.and_eq_true, decide_eq_true_eq] at hf
      omega
    have hopc : (fmCmd src).w 0 / 2 ^ 28 = opc := by
      simp only [FmCmd.names, Bool.or_eq_true, decide_eq_true_eq, Bool.and_eq_true, beq_iff_eq] at hn
      omega
    simp only [Mach.fmEarly, hg, hf, hopc]
    by_cases h3 : (opc = 3 ∨ opc = 4) ∧ (fmCmd src).ring = true
    · simp [hw h3.1 h3.2]
    · have : ((decide (opc = 3) || decide (opc = 4)) && (fmCmd src).ring) = false := by
        simpa [Bool.and_eq_true] using h3
      simp [this]
  simp [Mach.fmRun, hr, ht, hn, he, fmTable_clean hc.1]

/-- A table-update command whose descriptor has been taken acts. -/
theorem tuCmd_eq {m : Mach} {opc : Nat} {d : TuDesc} (hr : m.running = true) (ht : m.tuTaken opc d = true) (f : Mach → Mach) :
    m.tuCmd opc d f = f m.tuBegin := by
  simp [Mach.tuCmd, hr, ht]

theorem tuCmdS_eq {m : Mach} {st : Store} {opc : Nat} {d : TuDesc} (hr : m.running = true) (ht : m.tuTaken opc d = true)
    (f : Mach → Mach × Store) : m.tuCmdS st opc d f = f m.tuBegin := by
  simp [Mach.tuCmdS, hr, ht]

/-- What an instruction of a ready core does: its body decides, and nothing else disturbs it. -/
theorem engine_ready {s : State} {core : BitVec 5} {p : Start} (h : EngineReady s core.toNat p) {opc mode : Nat}
    {i : EngOp} (hl : engLegal opc mode i = true) (unit : Nat) (body : Eng → Mach → Store → EngRes) :
    s.engine core opc mode i .none unit body = .next
      (let r := Mach.engEnd ⟨core.toNat, p, s.mach.core core.toNat, i⟩ (engWord opc mode i)
        (body ⟨core.toNat, p, s.mach.core core.toNat, i⟩ s.mach s.store)
       { s with mach := r.1, store := r.2 }) := by
  obtain ⟨hr, hp, hw, hf, -, hc, hg⟩ := h
  have hi := injRead_clean hc.1 5 core.toNat (s.mach.core core.toNat).pc ((s.mach.core core.toNat).pc + 1)
  have ht (c : Nat) := takeResidue_clean hc.2 c unit
  simp only [State.engine, runMS_eq, hr, Mach.engRun, hp, hw, hf, hi, orErr, hl, hg, ht]
  generalize body ⟨core.toNat, p, s.mach.core core.toNat, i⟩ s.mach s.store = r
  cases r <;> by_cases hz : unit = 0 <;> simp [hz, Mach.engEnd]

/-- An instruction of a ready core that completes advances the pc. -/
theorem engine_done {s : State} {core : BitVec 5} {p : Start} (h : EngineReady s core.toNat p) {opc mode : Nat}
    {i : EngOp} (hl : engLegal opc mode i = true) {unit : Nat} {body : Eng → Mach → Store → EngRes} {m : Mach} {st : Store}
    (hb : body ⟨core.toNat, p, s.mach.core core.toNat, i⟩ s.mach s.store = .done m st) :
    s.engine core opc mode i .none unit body = .next (s.advance core.toNat m st) := by
  rw [engine_ready h hl, hb]; rfl

end Sys2Proof.Machine
end

