-- ==== Sys2Proof/Laws/Store.lean ====
section
/-! SUPPORT. Laws/Store.lean: every operation that writes an addressed memory keeps the canonical form (State.Inv). -/
namespace Sys2Proof.Machine

/-- What the canonical form of all memories says. -/
theorem memory_wf_iff (st : Store) : Memory.wf st = true ↔ swf zeroCell st.hbm = true ∧ swf zeroCell st.scratch = true ∧
    swf zeroCell st.vregs = true ∧ swf zeroCell st.xregs = true ∧ swf zeroCell st.prog = true ∧
    swf zeroCell st.expmap = true ∧ swf zeroCell st.route = true := by
  simp [Memory.wf, and_assoc]

theorem memory_wf_empty : Memory.wf {} = true := rfl

section
variable {st : Store} (h : Memory.wf st = true)
include h

theorem wf_hbm {c : Cells 8} (hc : swf zeroCell c = true) : Memory.wf { st with hbm := c } = true := by
  simp only [memory_wf_iff] at *; simp [h, hc]

theorem wf_scratch {c : Cells 8} (hc : swf zeroCell c = true) : Memory.wf { st with scratch := c } = true := by
  simp only [memory_wf_iff] at *; simp [h, hc]

theorem wf_vregs {c : Cells 32} (hc : swf zeroCell c = true) : Memory.wf { st with vregs := c } = true := by
  simp only [memory_wf_iff] at *; simp [h, hc]

theorem wf_xregs {c : Cells 32} (hc : swf zeroCell c = true) : Memory.wf { st with xregs := c } = true := by
  simp only [memory_wf_iff] at *; simp [h, hc]

theorem wf_prog {c : Cells 64} (hc : swf zeroCell c = true) : Memory.wf { st with prog := c } = true := by
  simp only [memory_wf_iff] at *; simp [h, hc]

theorem wf_expmap {c : Cells 32} (hc : swf zeroCell c = true) : Memory.wf { st with expmap := c } = true := by
  simp only [memory_wf_iff] at *; simp [h, hc]

theorem wf_route {c : Cells 128} (hc : swf zeroCell c = true) : Memory.wf { st with route := c } = true := by
  simp only [memory_wf_iff] at *; simp [h, hc]

theorem setX_wf (k r : Nat) (v : Word) : Memory.wf (st.setX k r v) = true := by
  unfold Store.setX
  split
  · exact h
  · exact wf_xregs h (sput_wf ((memory_wf_iff st).1 h).2.2.2.1 _ _)

theorem addX_wf (k r n : Nat) : Memory.wf (st.addX k r n) = true := setX_wf h _ _ _

theorem setV_wf (k r i : Nat) (ws : List Word) : Memory.wf (st.setV k r i ws) = true :=
  wf_vregs h (sputs_wf ((memory_wf_iff st).1 h).2.2.1 _)

theorem setScr_wf (k a : Nat) (bs : List Byte) : Memory.wf (st.setScr k a bs) = true :=
  wf_scratch h (sputs_wf ((memory_wf_iff st).1 h).2.1 _)

theorem hbmPut_wf (a : Nat) (bs : List Byte) : Memory.wf { st with hbm := sputs zeroCell st.hbm a bs } = true :=
  wf_hbm h (sputs_wf ((memory_wf_iff st).1 h).1 _)

theorem postInc_wf (k : Nat) (i : EngOp) (bytes : Nat) : Memory.wf (postInc k i bytes st) = true := by
  unfold postInc
  split
  · exact setX_wf h _ _ _
  · exact h

theorem warm_wf : Memory.wf st.warm = true := by
  simp only [memory_wf_iff] at *; simp [Store.warm, h, swf_nil]

end

theorem setXs_wf {st : Store} (h : Memory.wf st = true) (k d : Nat) (ws : List Word) : Memory.wf (st.setXs k d ws) = true := by
  unfold Store.setXs
  generalize ws.zipIdx = l
  induction l generalizing st with
  | nil => exact h
  | cons w t ih => exact ih (setX_wf h _ _ _)

theorem startRegs_wf {st : Store} (h : Memory.wf st = true) (k : Nat) (regs : List (Nat × Word)) :
    Memory.wf (st.startRegs k regs) = true := by
  have fold (l : List (Nat × Word)) (a : Store) (ha : Memory.wf a = true) :
      Memory.wf (l.foldl (fun a r => a.setX k r.1 r.2) a) = true := by
    induction l generalizing a with
    | nil => exact ha
    | cons r t ih => exact ih _ (setX_wf ha _ _ _)
  have h0 := (memory_wf_iff st).1 h
  have h1 := wf_xregs (wf_vregs h (sclear_wf h0.2.2.1 (k * 32768) (k * 32768 + 32768)))
    (sclear_wf h0.2.2.2.1 (k * 32) (k * 32 + 32))
  unfold Store.startRegs
  exact fold _ _ h1

theorem copyLines_wf {c : Cells 8} (h : swf zeroCell c = true) (src dst n i : Nat) :
    swf zeroCell (copyLines c src dst n i) = true := by
  induction n generalizing c i with
  | zero => exact h
  | succ n ih =>
    rw [copyLines]
    exact ih (sputs_wf h (dst + 64 * i)) (i + 1)

theorem foldl_sput_wf {w : Nat} {α : Type} {c : Cells w} (h : swf zeroCell c = true) (key : α → Nat) (val : α → BitVec w)
    (l : List α) : swf zeroCell (l.foldl (fun a e => sput zeroCell a (key e) (val e)) c) = true := by
  induction l generalizing c with
  | nil => exact h
  | cons e t ih => exact ih (sput_wf h _ _)

theorem copyBank_wf {c : Cells 128} (h : swf zeroCell c = true) (dst : Nat) : swf zeroCell (copyBank c dst) = true :=
  foldl_sput_wf (sclear_wf h _ _) _ _ _

theorem foldl_sclear_wf {w : Nat} {α : Type} {c : Cells w} (h : swf zeroCell c = true) (lo hi : α → Nat) (l : List α) :
    swf zeroCell (l.foldl (fun a x => sclear a (lo x) (hi x)) c) = true := by
  induction l generalizing c with
  | nil => exact h
  | cons e t ih => exact ih (sclear_wf h _ _)

theorem asleepStore_wf {st : Store} (h : Memory.wf st = true) (m : Mach) (k : Nat) :
    Memory.wf (m.asleepStore k st) = true := by
  have h0 := (memory_wf_iff st).1 h
  have hb : ∀ (l : List Nat) (c : Cells 8), swf zeroCell c = true → swf zeroCell
      (l.foldl (fun c s => if m.keeps k (8 + s) then c else sclear c (s * 2 ^ 36) ((s + 1) * 2 ^ 36)) c) = true := by
    intro l
    induction l with
    | nil => exact fun c hc => hc
    | cons s t ih =>
      intro c hc
      refine ih _ ?_
      show swf zeroCell (if _ then c else _) = true
      split
      · exact hc
      · exact sclear_wf hc _ _
  have e {w : Nat} {c : Cells w} (b : Bool) (hc : swf zeroCell c = true) : swf zeroCell (if b then c else []) = true := by
    cases b <;> simp [hc, swf_nil]
  exact (memory_wf_iff _).2
    ⟨hb _ _ h0.1, swf_nil, swf_nil, swf_nil, e _ h0.2.2.2.2.1, e _ h0.2.2.2.2.2.1, e _ h0.2.2.2.2.2.2⟩

theorem domainInit_wf {st : Store} (h : Memory.wf st = true) (m : Mach) (d : Nat) :
    Memory.wf (m.domainInit st d).2 = true := by
  have h0 := (memory_wf_iff st).1 h
  unfold Mach.domainInit
  split
  · exact h
  · split
    · simp [memory_wf_iff, h0, sclear_wf h0.2.1, sclear_wf h0.2.2.2.2.1]
    · split
      · exact wf_hbm h (sclear_wf h0.1 _ _)
      · exact h

end Sys2Proof.Machine
end

