-- ==== Sys2Proof/Machine/Leds.lean ====
section
/-! DEFINITION. Leds.lean: the LED outputs, as functions of the state: the pattern each shows (16 R441, 19 R486) and whether it is lit
now. -/
namespace Sys2Proof.Machine

/-- What an LED shows: dark, lit, a blink at a rate in Hz, a number of 100 ms flashes repeated after a period in ms, with the last part of
the period lit for `steadyMs`, or three 4 Hz flashes begun at a time of the always-on oscillator. -/
inductive LedPattern where
  | off | steady
  | blink (hz : Nat)
  | flashes (count periodMs steadyMs : Nat)
  | refused (since : Nat)
  deriving DecidableEq, Repr

/-- All sideband outputs float while the always-on domain is unpowered or held in reset: the LEDs are dark (21 R535). -/
def Mach.sidebandDark (m : Mach) : Bool := m.boot.resetN || m.pwr.lost

/-- LED_LG of lane group `n`: the first row of 16 R441 that applies; ports partly UP and partly DOWN meet no row (log 72). -/
def Mach.ledLg (m : Mach) (n : Nat) : LedPattern :=
  let ports := m.groupPorts n
  let some_ (q : PortState → Bool) : Bool := ports.any fun p => q p.state
  if m.sidebandDark then .off
  else if m.flag Reg.SVC_BEACON 30 && m.flag Reg.SVC_BEACON 28 && m.fld Reg.SVC_BEACON 9 5 == n then .blink 8
  else if m.flag Reg.SVC_ISO_DONE n then .flashes 2 2000 0
  else if some_ (· == .quarantine) then .blink 4
  else if some_ (fun s => s == .training || s == .degraded) then .blink 1
  else if !ports.isEmpty && ports.all (fun p => p.state == .up) then .steady
  else .off

/-- LED_BEACON: the three flashes of a refused press last 750 ms (16 R439, R441). -/
def Mach.ledBeacon (m : Mach) : LedPattern :=
  match m.boot.refusedAt with
  | some t => if m.sidebandDark then .off else if m.aon < t + 750000000 then .refused t
      else if m.flag Reg.SVC_BEACON 30 then .blink 1 else .off
  | none => if !m.sidebandDark && m.flag Reg.SVC_BEACON 30 then .blink 1 else .off

/-- An FC2 or FC3 fault is outstanding: an FSW group holds it. -/
def Mach.severeFault (m : Mach) : Bool := (List.range 63).any fun g => m.fsw g && (m.gclass g == 2 || m.gclass g == 3)

/-- LED_STATUS: safe state; a halt or WAITING; a running stage; from B9 by the faults outstanding (16 R441, 19 R486). -/
def Mach.ledStatus (m : Mach) : LedPattern :=
  if m.sidebandDark then .off
  else if m.flt.safe then .blink 4
  else if m.halted || m.boot.waitingImage then .flashes (m.stage + 1) (250 * (m.stage + 1) + 1000) 1000
  else if m.stage < 9 then .flashes (m.stage + 1) 3000 0
  else if m.severeFault then .blink 1
  else .steady

/-- The time that paces the LEDs: fabric time while LOCKED, else the always-on oscillator (16 R441). -/
def Mach.ledNs (m : Mach) : Nat := if m.timState = 2 then m.now else m.aon

/-- Flashes start every 250 ms; a flash is lit for 100 ms, a blink for half its period (log 72). -/
def LedPattern.lit (l : LedPattern) (aon ns : Nat) : Bool :=
  match l with
  | .off => false
  | .steady => true
  | .blink hz => ns * (2 * hz) / 1000000000 % 2 == 0
  | .flashes count periodMs steadyMs =>
    let ms := ns / 1000000 % periodMs
    decide (periodMs - steadyMs ≤ ms) || (decide (ms < 250 * count) && decide (ms % 250 < 100))
  | .refused since => decide ((aon - since) / 1000000 % 250 < 125)

/-- LED_LG of a lane group is lit now. -/
def Mach.ledLgLit (m : Mach) (n : Nat) : Bool := (m.ledLg n).lit m.aon m.ledNs

/-- LED_BEACON is lit now. -/
def Mach.ledBeaconLit (m : Mach) : Bool := m.ledBeacon.lit m.aon m.ledNs

/-- LED_STATUS is lit now. -/
def Mach.ledStatusLit (m : Mach) : Bool := m.ledStatus.lit m.aon m.ledNs

end Sys2Proof.Machine
end

