-- ==== Sys2Proof/WellFormed.lean ====
section
/-! DEFINITION. WellFormed.lean: the commands whose operands have the lengths and ranges the spec gives them. The machine runs
an ill-formed command too; a well-formed one is what a sender of the spec can send. -/
namespace Sys2Proof

/-- A packet carries LENGTH payload bytes and the trailer of its type (10 R282 to R285). -/
def Packet.wf (p : Packet) : Bool :=
  p.payload.length == p.length.toNat && p.trailer.length == Machine.trailerLen p.type.toNat

/-- A table-update descriptor has at most eight inline words (15 R409). -/
def TuDesc.wf (d : TuDesc) : Bool := decide (d.inline.length ≤ 8)

/-- A fabric-memory command is a packet, or a descriptor of 16 words with whole lines of data (07 R195, 15 R405). -/
def FmSrc.wf : FmSrc → Bool
  | .endpoint p => p.wf
  | .ring _ _ block data => block.length == 16 && data.length % 64 == 0

/-- The operands of a command are well formed. -/
def Instr.wf (i : Instr) : Bool :=
  match i with
  | .grpCreate d data => d.wf && d.len.toNat == 4 * data.length
  | .grpAdd d => d.wf
  | .grpRemove d => d.wf
  | .grpDestroy d => d.wf
  | .contrib _ pkt _ => pkt.wf
  | .partialIn _ pkt => pkt.wf
  | .resultFromSpine _ pkt => pkt.wf
  | .jmp _ mode _ _ => decide (mode.toNat ≤ 2)
  | .vad _ mode _ _ => decide (mode.toNat ≤ 1)
  | .vmu _ mode _ _ => decide (mode.toNat ≤ 1)
  | .vfm _ mode _ _ => decide (mode.toNat ≤ 1)
  | .vmx _ mode _ _ => decide (mode.toNat ≤ 3)
  | .layLoad d data => d.wf && d.len.toNat == 4 * data.length
  | .layExpmap d data => d.wf && d.len.toNat == 4 * data.length
  | .laySessionOpen d => d.wf
  | .laySessionClose d => d.wf
  | .laySessionCloseForce d => d.wf
  | .alloc src _ => src.wf
  | .allocZero src _ => src.wf
  | .incref src _ => src.wf
  | .decref src _ => src.wf
  | .fmRead src _ => src.wf
  | .readMcast src _ => src.wf
  | .fmWrite src _ => src.wf
  | .fmCopy src _ => src.wf
  | .attachBind src _ => src.wf
  | .attachUnbind src _ => src.wf
  | .wrFull _ data => data.length == 64
  | .wb _ data => data.length == 64
  | .cmpD _ _ data => data.length == 64
  | .cmpS _ _ data => data.length == 64
  | .snpRspd _ data => data.length == 64
  | .jnkLinkUp half => half != 3
  | .rngEnable set => decide (set.toNat ≤ 64)
  | .jnkInt set _ => decide (set.toNat ≤ 64)
  | .progStart _ _ words => words.length == 16
  | .galReset d => d.wf
  | .galResetPort d => d.wf
  | .mgmtSend d pkt => d.wf && pkt.wf
  | .mgmtSendRoute d pkt => d.wf && pkt.wf
  | .progLoad d data => d.wf && d.len.toNat == 4 * data.length
  | .rteLoad d data => d.wf && d.len.toNat == 4 * data.length
  | .rteSync d => d.wf
  | .dgtWeight d => d.wf
  | .dgtWeightClear d => d.wf
  | .flitRx _ flit _ _ => flit.length == 256
  | .linkFlit _ msg => msg.creditRet.length == 8
  | .ident _ msg => msg.credit.length == 8
  | .linkKey _ key => key.length == 64
  | .challenge _ nonce => nonce.length == 32
  | .response _ sig => sig.length == 64
  | .packetIngress _ pkt _ _ _ _ => pkt.wf
  | .snufferExpiry group => decide (group.toNat < 39)
  | .stageEnd rep fail => decide (rep.detail.length ≤ 8) && fail.positions.all fun p => decide (p.toNat < 40)
  | .agentTimeout agent => decide (agent.toNat < 564)
  | .pwrDomainOff word _ => word != 3
  | .domainOnDone domain => decide (domain.toNat < 88)
  | .levelStep die => decide (die.toNat < 6)
  | .contribTakeUp .. | .tileClose .. | .stragglerExpiry .. | .reformDone .. | .peerTakeUp .. | .spareCopyDone ..
  | .engSpareReq .. | .spareReqEngage .. | .queuedStart .. | .endProgram .. | .waitOp .. | .waitDma .. | .waitTime ..
  | .waitRelease .. | .barCore .. | .barDie .. | .barRelease .. | .loopDec .. | .tldScratch .. | .tldCrossbar ..
  | .tldSlot .. | .tldScratchX .. | .tldSlotX .. | .tldHbm .. | .tstScratch .. | .tstX .. | .tstHbm ..
  | .tstCrossbar .. | .dmaDone .. | .mma .. | .vrs .. | .vex .. | .vsm .. | .nrmSs .. | .nrmApply .. | .topk ..
  | .qnt .. | .dqtDecode .. | .dqtInt .. | .snd .. | .sndLast .. | .sndShort .. | .cmb .. | .dgs .. | .prefetchDone ..
  | .fmmChanRestart .. | .bpmRebuild .. | .rebuildDone .. | .rdOnce .. | .rdShared .. | .rdOwn .. | .evict ..
  | .cfgRd .. | .cfgWr .. | .snpInv .. | .cmp .. | .snpAck .. | .jnkErr .. | .jnkTimeout .. | .jnkLinkDown ..
  | .descTake .. | .tuDescTake .. | .parkedRelease .. | .rteSyncDone .. | .dgtProgGo .. | .progDigestDone ..
  | .nakRx .. | .quiesce .. | .resume .. | .downNotice .. | .ackTimeout .. | .identResend .. | .identTimeout ..
  | .authTimeout .. | .linkDone .. | .trlFiGo .. | .reorderTimeout .. | .signalDetect .. | .los .. | .trainingFrame ..
  | .trainTimeout .. | .width .. | .widthAck .. | .neww .. | .widthTimeout .. | .cmdLs1 .. | .cmdLs2 .. | .ls0Req ..
  | .ls1Req .. | .ls2Req .. | .lsExitTimeout .. | .laneRetrain .. | .laneCal .. | .calSlice .. | .laneDrop ..
  | .laneRejoin .. | .autoRejoin .. | .layoutApply .. | .prbsInjGo .. | .fillTake .. | .fillHeadWritten ..
  | .sumpWrite .. | .pick .. | .rehashHoldEnd .. | .flip .. | .flipCheckDone .. | .escape .. | .orderHoldEnd ..
  | .shaperRefill .. | .shaperWrite .. | .timSet .. | .timNowRead .. | .timPpsSecWrite .. | .ppsEdge .. | .sync ..
  | .pdelayReq .. | .pdelayResp .. | .syncSend .. | .pdelaySend .. | .sourceLoss .. | .calArm .. | .bankSwitch ..
  | .calEntryStart .. | .recheck .. | .accept .. | .quarantine .. | .planGrace .. | .locate .. | .isolate .. | .wake ..
  | .beaconTimeout .. | .svcIsolate .. | .isolationDrain .. | .isolationLanesOff .. | .scrLongApply ..
  | .eccSumpRestart .. | .eccDmaRestart .. | .eccLogPop .. | .retireAdd .. | .retireCommit .. | .retireCommitDone ..
  | .fswClear .. | .lanternRestart .. | .lanternVerifyDone .. | .wdogKick .. | .wdogExpiry .. | .fltInjGo ..
  | .resetAssert .. | .resetRelease .. | .warmResetRelease .. | .stageTimeout .. | .bstReq .. | .bistSlice ..
  | .bistEnd .. | .extend .. | .quote .. | .quoteDone .. | .arbAdvance .. | .fwPush .. | .pushPhaseDone ..
  | .pwrLevelReq .. | .thermalCap .. | .powerCap .. | .brakeAssert .. | .brakeRelease .. | .thermTrip ..
  | .stateReqM2 .. | .stateReqM3 .. | .wakeVin .. | .wakeTemp .. | .powerLoss .. | .vinReturn .. | .glbWinValid ..
  | .lockFeat .. | .lockInj .. | .lockJtag .. | .hbmRefresh .. | .lossOfAlignment .. | .groupAlignment ..
  | .uncorrectableCodeword .. | .portTrainTimeout .. | .layoutWrite .. | .calEnWrite .. | .prbsGenChk ..
  | .prbsCheckerLock .. | .powerOn .. | .pllLockLoss .. | .railOutOfRegulation .. | .d2dLinkFault .. | .pmbusCommand ..
  | .tapInstruction .. => true

end Sys2Proof
end

