-- ==== Sys2Proof/Tests/Slice0.lean ====
section
/-! SUPPORT. Slice0.lean: tests of the model. Ill-formed operands that WellFormed refuses; worked examples of the spec; for the
statements with hypotheses, states and operands that meet them (theorems test_meets_…). -/
namespace Sys2Proof.Tests
open Sys2Proof Sys2Proof.Machine

set_option Elab.async false

/-! ### Small states -/

/-- The machine after bring-up: stage B9. -/
def up : Mach := ({} : Mach).setFld Reg.BOOT_STATUS 31 28 9

/-- A state whose data path runs. -/
def on : State := { mach := up }

/-- The same with the Jionuk link up. -/
def jn : State := { mach := up.setFlag Reg.JNK_STATUS 31 true }

/-- A port that is UP. -/
def prt : Port := { first := 0, width := 1, mask := 1, state := .up, negRev := 3 }

/-- A state with a port that is UP. -/
def ported : State := { mach := { up with ports := [prt] } }

/-- A group of two present ranks with an operation of one segment. -/
def grp : Group :=
  { id := 5, gallery := 1, peer := false, tier := 0, arrival := false, leafSum := false, policy := .wait, nanMode := false,
    intWrap := false, allowMixed := false, cfmt := 0, rfmt := 0, func := 0, segTiles := 4, window := 2, arithRev := 1,
    flareSat := 1, flareFlush := 4, planes := 1, planeIndex := 0, stragglerNs := 0, redCores := 1, memberBase := 0,
    blockHi := 0, blockLo := 0, uplink := 0, parkKib := 0, slots := 0, dies := 1, state := .active,
    members := [⟨.present, 0, 7⟩, ⟨.present, 1, 8⟩] }

/-! ### Groups and reduction (03, 04) -/

/-- The machine with the state a command answers. -/
def after (o : Host.Outcome State Fault Refusal) : State := match o with
  | .next t => t
  | _ => {}

/-- The state at a time of the always-on clock. -/
def at_ (ns : Nat) (s : State) : State := { s with mach := { s.mach with aon := ns } }

/-- A state with a group. -/
def gs (g : Group) : State := { mach := { up.setFlag Reg.ENG_PRESENT 0 true with groups := [g] } }

/-- A descriptor that names the group; its member's rank is 1. -/
def td : TuDesc := { gallery := 1, arg0 := 5, arg1 := 1 }

/-- The state whose table-update ring has taken the descriptor, with its data there. -/
def tuOn (opc : Nat) (d : TuDesc) (s : State) : State :=
  let w : List Word := [BitVec.ofNat 32 (opc * 2 ^ 24 + d.gallery.toNat * 2 ^ 16 + d.tag.toNat), d.flags ++ d.arg0, d.arg1, d.count,
    d.src.setWidth 32, (d.src >>> 32).setWidth 32, d.len, d.rsvd]
  { s with mach := { s.mach with jnk := { s.mach.jnk with tu := some ⟨0, w ++ d.inline, true⟩ } } }

/-- The words of a group entry of 03 R60 with two members of R61. -/
def gw : List Word := [0x1005, 0x3101, 0x04400002, 0, 1, 0, 0, 0, 0, 0, 0, 0, 0, 0, 0, 0, 7, 0x10008]

/-- An operation of the group with its first segment open. -/
def op1 : Op := { seq := 3, kind := 0, segs := [{ num := 0, timer := some 0 }] }

/-- The group with the operation. -/
def grpOp : Group := { grp with ops := [op1] }

/-- A contribution of rank 0 for tile 0. -/
def con : Packet := { type := 8, vc := 2, gallery := 1, length := 4096, group := 5, opSeq := 3, rank := 0 }

/-- A leaf of a hierarchy whose uplink is port 0. -/
def leaf : Group := { grpOp with tier := 1 }

/-- The last result of its spine. -/
def res : Packet := { type := 10, vc := 3, gallery := 1, group := 5, opSeq := 3, trailer := [0, 0, 0, 0x08] ++ List.replicate 28 0 }

theorem test_create_descriptor_checks :
    let d := { td with len := 72, count := 2 }
    let g := (parseGroup (gw.take 16) (gw.drop 16)).reserved
    ({ mach := up.setFlag Reg.ENG_PRESENT 0 true } : State).mach.createFails {} d (gw.take 16) (gw.drop 16) g = none ∧
      (gs grp).mach.createFails {} d (gw.take 16) (gw.drop 16) g = some (.noSlot, .idInUse) := by decide

theorem test_create_adds_group :
    let d := { td with len := 72, count := 2 }
    let g := (after (exec (.grpCreate d gw) (tuOn 1 d { mach := up.setFlag Reg.ENG_PRESENT 0 true }))).mach.groups
    g.map (fun g => (g.id, g.segTiles, g.window, g.present.length, g.slots)) = [(5, 4, 2, 2, 8)] := by decide

theorem test_meets_groups :
    (gs grp).mach.running = true ∧ on.mach.groupOf? td = none ∧ up.feature 0 = true ∧
      (tuOn 4 td (gs grp)).mach.tuTaken 4 td = true ∧ (gs grp).mach.groupOf? td = some grp ∧ grp.outstanding = 0 ∧ grpOp.outstanding ≠ 0 ∧ tuBad td 0 = false ∧
      grp.members.find? (fun y => y.rank == td.arg1.toNat) = some ⟨.present, 1, 8⟩ ∧
      (∀ y ∈ grp.members, y.rank ≠ ({ td with arg1 := 9 } : TuDesc).arg1.toNat) := by decide

theorem test_meets_group_add :
    let g := { grp with members := [⟨.present, 0, 7⟩, ⟨.removed, 1, 8⟩] }
    let d := { td with inline := [0x10008] }
    let s := gs g
    tuBad d 0 = false ∧ memberBad g 0x10008 = false ∧ g.members.find? (fun y => y.rank == bits 0x10008 25 16) = some ⟨.removed, 1, 8⟩ ∧
      g.redCores ≠ 0 ∧ (s.mach.arithPorts s.store g ⟨.present, 1, 8⟩).any (s.mach.arithBreaks g) = false ∧
      (s.mach.portsBehind s.store g ⟨.present, 1, 8⟩).any (s.mach.featureBreaks g) = false ∧
      ({ s.mach with groups := [] } : Mach).reserveFails 1 1 8 24 = none ∧
      (after (exec (.grpAdd d) (tuOn 2 d s))).mach.groups.map (·.present.length) = [2] := by decide

theorem test_group_remove_and_destroy :
    (after (exec (.grpRemove td) (tuOn 3 td (gs grp)))).mach.groups.map (fun g => (g.state, g.present.length)) = [(.reforming, 1)] ∧
      (after (exec (.grpDestroy td) (tuOn 4 td (gs grp)))).mach.groups = [] ∧
      (after (exec (.grpDestroy td) (tuOn 4 td (gs grpOp)))).mach.groups = [grpOp] := by decide

theorem test_meets_fitting : Fitting grpOp 0 con :=
  { gallery := by decide, tier := by decide, member := ⟨⟨.present, 0, 7⟩, by decide⟩, clean := by decide, tile := by decide
    kind := by decide, root := by decide, fits := by decide, owner := by decide }

theorem test_meets_agrees : Agrees grpOp op1 con := by unfold Agrees; decide

theorem test_meets_contrib :
    (gs grpOp).mach.running = true ∧ (gs grpOp).mach.group? con.group.toNat = some grpOp ∧ grpOp.op? con.opSeq.toNat = some op1 ∧
      op1.segs.find? (fun x => x.num == con.segment.toNat) = some { num := 0, timer := some 0 } ∧
      (({ num := 0, timer := some 0 } : Segment).tile (tileIndex grpOp con)).closed = false ∧
      (({ num := 0, timer := some 0 } : Segment).tile (tileIndex grpOp con)).got = [] ∧
      on.mach.group? con.group.toNat = none := by decide

theorem test_unspoiled : Unspoiled (gs grpOp).mach := ⟨⟨rfl, rfl⟩, rfl⟩

theorem test_contrib_is_counted :
    let t := after (exec (.contrib 0 con .none) (gs grpOp))
    t.mach.groups.map (fun g => g.ops.map fun o => o.segs.map fun x => x.tiles.map fun t => t.got.map (·.rank)) = [[[[[0]]]]] ∧
      (after (exec (.contrib 0 con .none) t)).mach.rd Reg.RED_DUP_CNT = 1 := by decide

theorem test_meets_late_and_forming :
    let e : State := { mach := { (gs grp).mach with ended := [⟨5, 3, 0, .ok⟩] } }
    e.mach.group? 5 = some grp ∧ grp.gallery = con.gallery.toNat ∧ (con.type == 9) = (grp.tier == 2) ∧ grp.state ≠ .halted ∧
      e.mach.remembers grp.id 3 = true ∧ (∀ o ∈ grp.ops, o.seq ≠ 3) ∧ (gs grp).mach.remembers grp.id 3 = false := by decide

/-- The operation with contributions parked, or taken up from parking. -/
def opParked (l : GotLoc) (rs : List Nat) : Op :=
  { op1 with segs := [{ num := 0, tiles := [{ idx := 0, got := rs.map fun r => { rank := r, pkt := con, loc := l, kept := l == .taken } }] }] }

theorem test_take_up_and_close :
    let s := gs { grp with ops := [opParked .parked [0]] }
    let c := gs { grp with ops := [opParked .taken [0, 1]] }
    (after (exec (.contribTakeUp 5 3 0 .none) s)).mach.groups.map (·.ops) = [[opParked .taken [0]]] ∧
      (∀ sg ∈ (opParked .taken [0, 1]).segs, closable { grp with ops := [opParked .taken [0, 1]] } (opParked .taken [0, 1]) sg 0 = true) ∧
      (∀ sg ∈ (opParked .parked [0]).segs, closable grp (opParked .parked [0]) sg 0 = false) ∧
      c.mach.running = true := by decide

theorem test_reform_done :
    let g := { grp with state := .reforming, reforms := [(0, 0, 1, 1)] }
    (after (exec (.reformDone 5) (gs g))).mach.groups = [grp] ∧ after (exec (.reformDone 5) (gs grp)) = gs grp ∧
      after (exec (.peerTakeUp 5) (gs grp)) = gs grp := by decide

theorem test_straggler_policies :
    let s (p : Straggle) := gs { grpOp with policy := p }
    let run (p : Straggle) := (after (exec (.stragglerExpiry 5 3 0) (s p))).mach
    (run .wait).rd Reg.GRP_STRAG_CNT = 1 ∧ (run .wait).groups.map (fun g => g.ops.map fun o => o.segs.map (·.timer)) = [[[none]]] ∧
      (run .abort).groups.map (·.ops) = [[]] ∧ (run .abort).ended.map (·.status) = [.abortTimeout] ∧
      (run .exclude).rd Reg.GRP_STRAG_CNT = 1 := by decide

theorem test_meets_spine_result :
    (gs leaf).mach.group? res.group.toNat = some leaf ∧ leaf.tier = 1 ∧ leaf.uplink = 0 ∧ leaf.state = .active ∧
      (leaf.op? 3).isSome = true ∧ bits (leNat (res.trailer.take 4)) 31 28 < 12 ∧ bitOf (leNat (res.trailer.take 4)) 27 = true ∧
      (after (exec (.resultFromSpine 0 res) (gs leaf))).mach.ended.map (·.seq) = [3] := by decide

theorem test_spine_results_refused :
    let n (c : Nat) (p : Packet) (port : BitVec 9) (s : State) : Nat := ((after (exec (.resultFromSpine port p) s)).mach.rd c).toNat
    let tr (b : Byte) : Packet := { res with trailer := [0, 0, 0, b] ++ List.replicate 28 0 }
    let e : State := { gs { leaf with ops := [] } with mach := { (gs { leaf with ops := [] }).mach with ended := [⟨5, 3, 0, .ok⟩] } }
    n Reg.RED_POISON_CNT (tr 0xC8) 0 (gs leaf) = 1 ∧ n Reg.TRL_HOPS_CNT { res with hops := 31 } 0 (gs leaf) = 1 ∧
      n Reg.GRP_MISTILE_CNT res 4 (gs leaf) = 1 ∧ n Reg.GRP_LATE_DISCARD_CNT res 0 e = 1 ∧
      (after (exec (.resultFromSpine 0 { res with format := 20 }) (gs leaf))).mach.ended.map (·.status) = [.badFormat] ∧
      n Reg.RED_POISON_CNT (tr 0xB8) 0 (gs leaf) = 0 := by decide

theorem test_straggler_not_due :
    let g := { grpOp with stragglerNs := 5 }
    let at5 : State := { mach := { (gs g).mach with time := { adv := 5 * nsUnit } } }
    after (exec (.stragglerExpiry 5 3 0) (gs g)) = gs g ∧ (after (exec (.stragglerExpiry 5 3 0) at5)).mach.rd Reg.GRP_STRAG_CNT = 1 := by
  decide

theorem test_destroy_counts_waiting :
    (after (exec (.grpDestroy td) (tuOn 4 td (gs { grp with waiting := [(0, con)] })))).mach.rd Reg.GRP_MISTILE_CNT = 1 := by decide

/-! ### Engines (05) -/

/-- A program whose windows are all of scratch and 256 MiB of HBM. -/
def prog : Start := { entry := 0, gallery := 1, scrBase := 0, scrLimit := 131072, hbmBase := 0, hbmLimit := 1048576 }

/-- Core 0 runs the program; X1 is 256, X2 is 4,096, X3 is 1. -/
def es : State :=
  { mach := { up with cores := [{ core := 0, running := some prog }] }
    store := { xregs := [(1, 256), (2, 4096), (3, 1)], scratch := [(4096, 0x11), (4098, 0x22)] } }

/-- The same with a wait. -/
def ew (w : CoreWait) : State := { es with mach := { up with cores := [{ core := 0, running := some prog, wait := some w }] } }

theorem test_meets_legal : engTable.all (fun r => engLegal r.1 r.2.1 {}) = true := by decide

/-- The pc of core 0 after a command. -/
def pcOf (o : Host.Outcome State Fault Refusal) : Nat := ((after o).mach.core 0).pc

theorem test_meets_engine_ready : EngineReady es 0 prog :=
  { running := by decide, program := by decide, noWait := by decide, fetchOk := by decide, linesOk := by decide, clean := ⟨⟨rfl, rfl⟩, rfl⟩, legal := by decide }

theorem test_meets_in_scratch : InScratch prog 4096 (4096 * 16) 4 ∧ InScratch prog 0 4 64 := by unfold InScratch; decide

theorem test_meets_uses :
    Uses.ok { a := true, imm := 0x7FFF } { a := 3, imm := 0x7FFF } = true ∧ Uses.ok {} {} = true ∧
      Uses.ok { d := true, a := true } { d := 31, a := 1 } = true ∧ Uses.ok { imm := 0xFF } { imm := 0xFF } = true ∧
      Uses.ok { imm := 0xFFFFF } { imm := 0xFFFFF } = true ∧
      Uses.ok { d := true, a := true, cnt := true, imm := 0xC0FFFF } { d := 16, a := 2, cnt := 15, imm := 0xC0FFFF } = true ∧
      Uses.ok { d := true, a := true, cnt := true, imm := 0x800003 } { d := 16, a := 2, cnt := 15, imm := 0x800003 } = true ∧
      Uses.ok { a := true, b := true, c := true, imm := 0x8000FF } { a := 1, b := 2, c := 1, imm := 0x8000FF } = true := by decide

theorem test_loop_and_jumps :
    pcOf (exec (.loopDec 0 { a := 1, imm := 77 } .none) es) = 77 ∧ pcOf (exec (.loopDec 0 { a := 3, imm := 77 } .none) es) = 1 ∧
      ((after (exec (.loopDec 0 { a := 1, imm := 77 } .none) es)).store.x 0 1) = 255 ∧
      pcOf (exec (.jmp 0 0 { imm := 9 } .none) es) = 9 ∧ pcOf (exec (.jmp 0 1 { a := 4, imm := 9 } .none) es) = 9 ∧
      pcOf (exec (.jmp 0 2 { a := 4, imm := 9 } .none) es) = 1 ∧ pcOf (exec (.barCore 0 {} .none) es) = 1 := by decide

theorem test_waits_hold :
    ((after (exec (.waitOp 0 { a := 1, d := 2 } .none) es)).mach.core 0).wait = some (.op 256 0 2) ∧
      pcOf (exec (.waitDma 0 { imm := 3 } .none) es) = 1 ∧
      ((after (exec (.waitTime 0 { a := 1 } .none) es)).mach.core 0).wait = some (.time 256) ∧
      ((after (exec (.barDie 0 { imm := 0x10003 } .none) es)).mach.core 0).wait = some (.barDie 1 3) := by decide

theorem test_meets_waits :
    let e (d : List Dma) : State := { es with mach := { up with cores := [{ core := 0, running := some prog, dmas := d }] } }
    let o : State := { es with mach := { es.mach with ended := [⟨256, 0, 0, .ok⟩] } }
    o.mach.opEnded (bits 256 11 0) (bits 256 27 12) = some .ok ∧ es.mach.opEnded (bits 256 11 0) (bits 256 27 12) = none ∧
      ((e [{ tag := 3, hbm := 0, scr := 0, len := 256, toHbm := false }]).mach.core 0).dmas.filter (es.mach.dmaMine (es.mach.core 0) 3) ≠ [] ∧
      es.mach.reached 0 = true ∧ es.mach.reached 256 = false := by decide

theorem test_meets_release :
    let s := { ew (.barDie 1 1) with mach := (ew (.barDie 1 1)).mach }
    (s.mach.cores.map (·.core)).Nodup ∧ s.mach.barMet (s.mach.core 0) 1 1 = true ∧
      (∀ x ∈ es.mach.cores, ∀ c ∈ x.wait, c = .dma 0 0) ∧ pcOf (exec (.barRelease 0 1) s) = 1 ∧
      pcOf (exec (.waitRelease 0) (ew (.dma 3 0))) = 1 ∧ pcOf (exec (.waitRelease 0) (ew (.op 5 3 1))) = 0 ∧
      pcOf (exec (.waitRelease 0) (ew (.time 0))) = 1 := by decide

theorem test_scalar_load :
    let t := after (exec (.tldScratchX 0 { a := 2, d := 5, imm := 0x800000 } .none) es)
    t.store.x 0 5 = 0x00220011 ∧ t.store.x 0 2 = 4100 ∧ (t.mach.core 0).pc = 1 := by decide

theorem test_scalar_store :
    let t := after (exec (.tstX 0 { a := 1, d := 1, cnt := 2 } .none) es)
    t.store.scratch = [(257, 1), (261, 0x10), (264, 1), (4096, 0x11), (4098, 0x22)] ∧ (t.mach.core 0).pc = 1 := by decide

theorem test_meets_slots :
    let o : Op := { seq := 3, kind := 0, complete := true, results := [(0, { idx := 0, closed := true, slot := [7, 8, 9] })] }
    let s : State := { es with mach := { es.mach with groups := [{ grp with ops := [o] }] } }
    s.mach.keptOp 1 0x3005 = some o ∧ (o.slotWords 0 1).isSome = true := by decide

theorem test_meets_transfers :
    let d : Dma := { tag := 3, hbm := 256, scr := 0, len := 4, toHbm := false }
    let e : State := { mach := { up with cores := [{ core := 0, running := some prog, dmas := [d] }] }, store := { hbm := [(256, 9)] } }
    256 % 256 = 0 ∧ 256 ≤ 2 ^ 22 ∧ prog.hbmBase ≤ 1 ∧ 1 + 256 / 256 ≤ prog.hbmLimit ∧ es.mach.flag Reg.ECC_DMA_HALT 0 = false ∧
      es.mach.scrGuarded 0 4096 256 = false ∧ es.mach.hbmGuarded 256 256 = false ∧
      ((after (exec (.tldHbm 0 { a := 3, b := 2, c := 1, imm := 3 } .none) es)).mach.core 0).dmas.length = 1 ∧
      (e.mach.core 0).dmas.find? (fun x => x.tag == 3 && x.prefetch.isNone) = some d ∧ (e.mach.core 0).poisoned = [] ∧
      (after (exec (.dmaDone 0 3 .none) e)).store.scratch = [(0, 9)] := by decide

theorem test_failed_transfer_traps :
    let w := engWord 0x01 1 { imm := 3 }
    let e (w : Option CoreWait) (st : Status) : State :=
      { es with mach := { up with cores := [{ core := 0, running := some prog, wait := w, dmaEnds := [⟨3, st, 64, none⟩] }] } }
    ((after (exec (.waitDma 0 { imm := 3 } .none) (e none .uncorrectable))).mach.core 0).running = none ∧
      ((after (exec (.waitRelease 0) (e (some (.dma 3 w)) .badPointer))).mach.core 0).running = none ∧
      pcOf (exec (.waitRelease 0) (e (some (.dma 3 w)) .ok)) = 1 ∧ pcOf (exec (.waitRelease 0) (e (some (.dma 4 w)) .uncorrectable)) = 1 := by
  decide

theorem test_unlisted_opcode_traps :
    let s : State := { es with store := { es.store with prog := [(0, 0x3F00000000000000)] } }
    wordLegal (s.store.fetch 0 0) = false ∧ wordLegal (es.store.fetch 0 0) = true ∧
      ((after (exec (.loopDec 0 { a := 1, imm := 77 } .none) s)).mach.core 0).running = none ∧
      (after (exec (.loopDec 0 { a := 1, imm := 77 } .none) s)).store.x 0 1 = 256 := by decide

theorem test_dispatch_needs_a_choice :
    let hd : List (Nat × Byte) := (wordBytes [0x5E001000, 0xFFF20125, 0, 0, 0, 0, 0, 0]).zipIdx.map fun p => (4096 + p.2, p.1)
    let s : State := { es with store := { es.store with scratch := hd } }
    (pktOfHeader (s.store.scr 0 4096 32)).dest = 0xFFF2 ∧ (pktOfHeader (s.store.scr 0 4096 32)).type = 11 ∧
      (pktOfHeader (s.store.scr 0 4096 32)).vc = 6 ∧ ((after (exec (.snd 0 { fmt := 1, a := 2, c := 2 } .none) s)).mach.core 0).running = none := by
  decide +kernel

/-! ### Number formats (02) and checks: the spec's own examples -/

theorem test_conversions_of_R34 :
    (encScalar bf16 0x3F808000).code = 0x3F80 ∧ (encScalar bf16 0x3F818000).code = 0x3F82 ∧ (encScalar bf16 0x80000000).code = 0x8000 ∧
      encScalar fp16 0x477FEF00 = { code := 0x7BFF } ∧ encScalar fp16 0x477FF000 = { code := 0x7C00 } ∧
      encScalar fp16 0x387BA882 = { code := 0, flush := true } ∧ encScalar e4m3 1 = { code := 0, flush := true } ∧
      encScalar e4m3 0x3C7DF3B6 = { code := 0x08 } ∧ encScalar e4m3 0x43E80000 = { code := 0x7E } ∧
      encScalar e4m3 0x43FA0000 = { code := 0x7E, sat := true } ∧ encScalar e4m3 0x7F800000 = { code := 0x7E, sat := true } ∧
      encScalar e5m2 0x476FFF00 = { code := 0x7B } ∧ encScalar e5m2 0x47700000 = { code := 0x7C } ∧
      (encScalar bf16 0x7FC00001).code = 0x7FC0 ∧ (encScalar e5m2 0x7FC00001).code = 0x7E := by decide

/-- Block 5 of the flaring example of 02. -/
def flareBlock : List Word := [0x41600000, 0xC1680000, 0x41100000, 0x3EC00000] ++ List.replicate 28 0x3F800000

theorem test_block_example_mxfp4 :
    (encodeMxOf 9 flareBlock).scale = 0x80 ∧ (encodeMxOf 9 flareBlock).codes.take 5 = [7, 15, 6, 0, 1] ∧
      (encodeMxOf 9 flareBlock).sat = 2 ∧ (encodeMxOf 9 flareBlock).flush = 1 := by decide

theorem test_block_example_flared :
    (encodeAbf4Block 1 4 flareBlock).2 = true ∧ (encodeAbf4Block 1 4 flareBlock).1.scale = 0x7A ∧
      (encodeAbf4Block 1 4 flareBlock).1.codes.take 5 = [0x7E, 0xFE, 0x79, 0x54, 0x60] ∧ abf4Bytes 0x2021 = 596 := by decide

theorem test_integer_examples :
    (floatToInt 32 false 0x40200000).code = 2 ∧ (floatToInt 32 false 0xC0200000).code = 0xFFFFFFFE ∧
      (floatToInt 8 false 0x43480000).code = 0x7F ∧ (floatToInt 8 true 0x43480000).code = 0xC8 ∧
      (floatToInt 4 false 0x41100000).code = 7 ∧ (floatToInt 4 true 0x41100000).code = 9 := by decide

theorem test_mxint8_minus_two : (decMxInt 127 0x80).bits = 0xC0000000 ∧ (decMxInt 127 0x7F).bits = 0x3FFE0000 := by decide

theorem test_sums_round_once :
    (fAdd 0x3F800000 0x33800000).bits = 0x3F800000 ∧ (fAdd 0x3F800000 0x33800001).bits = 0x3F800001 ∧
      (fMul 0x3FC00000 0xC0000000).bits = 0xC0400000 ∧ (fFma 0x40000000 0x40400000 0xC0C00000).bits = 0 ∧
      (fAdd 0x7F800000 0xFF800000).bits = fNan := by decide

/-- The nine ASCII bytes "123456789" of R221 and R261. -/
def nine : List Byte := [0x31, 0x32, 0x33, 0x34, 0x35, 0x36, 0x37, 0x38, 0x39]

theorem test_crc64_R221 : crc64 nine = 0x62EC59E3F1A4F00A ∧ crc64 [] = 0 := by decide +kernel

theorem test_meets_engine_vectors :
    Uses.ok { d := true, a := true, b := true, cnt := true } { d := 24, a := 8, b := 16, cnt := 7 } = true ∧
      Uses.ok { d := true, a := true, b := true, c := true, cnt := true } { d := 0, a := 8, b := 16, c := 24, cnt := 7 } = true ∧
      Uses.ok { d := true, a := true, cnt := true } { d := 16, cnt := 15 } = true ∧ 24 + (7 + 1) ≤ 32 ∧
      Uses.ok { d := true, a := true, cnt := true, imm := 0x7FFF } { imm := 0x7FFF, d := 1 } = true ∧ (0x7FFF + 1 + 1023) / 1024 ≤ 32 ∧
      Uses.ok { d := true, a := true, b := true } { d := 30, a := 2, b := 9 } = true ∧ (es.store.x 0 9).toNat % 64 = 0 ∧
      pcOf (exec (.vad 0 0 { d := 24, a := 8, b := 16, cnt := 7 } .none) es) = 1 := by decide +kernel

theorem test_meets_conversions :
    Uses.ok { fmt := true, d := true, a := true, cnt := true } { fmt := 1, d := 1, a := 2, cnt := 3 } = true ∧
      fmtKnown 1 = true ∧ fmtFamily 1 ≠ .bitwise ∧
      Uses.ok { d := true, a := true, cnt := true, imm := 0x3FFFF } { d := 1, imm := 0x4001F } = false ∧
      Uses.ok { d := true, a := true, cnt := true, imm := 0x3FFFF } { d := 1, imm := 0x0081F } = true ∧ bits 0x0081F 16 15 ≠ 3 ∧
      es.mach.topkFits prog 0x0081F = true ∧
      Uses.ok { fmt := true, d := true, a := true, b := true, c := true, cnt := true, imm := 0x1FFF } { fmt := 3, imm := 0x1FFF } = true ∧
      fmtMmaOk 1 = true ∧ fmtMmaOk 2 = true ∧ fmtFamily 1 = fmtFamily 2 ∧ (32 * (31 + 1)) % 1024 = 0 ∧
      es.mach.scrGuarded 0 4096 4096 = false := by decide

theorem test_end_frees_core :
    ((after (exec (.endProgram 0 {} .none) es)).mach.core 0).running = none ∧ prog.session = none ∧ prog.cmd = none := by decide

/-- The header words of the worked example of 10: rank 37 sends tile 8 of operation 0x0051. -/
def hdr8 : List Byte := wordBytes [0x42006800, 0xFFF10125, 0x40, 0x00510008, 0x00084A00, 0, 0, 0]

theorem test_header_example :
    let p := pktOfHeader hdr8
    p.type = 8 ∧ p.vc = 2 ∧ p.gallery = 3 ∧ p.length = 0x800 ∧ p.dest = 0xFFF1 ∧ p.src = 0x125 ∧ p.group = 0x40 ∧ p.opSeq = 0x51 ∧
      p.tile = 8 ∧ p.format = 1 ∧ p.rank = 37 ∧ p.hops = 0 ∧ p.last = false := by decide

theorem test_meets_send :
    Uses.ok { fmt := true, a := true, c := true, cnt := true, imm := 0x1F } { fmt := 1, a := 2, c := 1, imm := 0x1F } = true ∧
      fmtDispatchOk 1 = true ∧ ¬((pktOfHeader hdr8).type = 11 ∧ (pktOfHeader hdr8).dest = 0xFFF2) := by decide

theorem test_meets_traps :
    2 < (3 : BitVec 4).toNat ∧ Uses.ok {} { a := 1 } = false ∧ ¬InScratch prog 257 4096 4 ∧
      pcOf (exec (.jmp 0 3 {} .none) es) = 0 ∧ ((after (exec (.barCore 0 { a := 1 } .none) es)).mach.core 0).running = none := by
  unfold InScratch; decide

/-! ### Starts, layers, programs, management (05, 06, 08, 15) -/

/-- Core 0 has a queued program and no running one. -/
def queued : State := { mach := { up with cores := [{ core := 0, queue := [{ prog with entry := 40, regs := [(3, 9)] }] }] } }

theorem test_queued_start :
    let t := after (exec (.queuedStart 0 .none) queued)
    (t.mach.core 0).running.map (·.entry) = some 40 ∧ (t.mach.core 0).pc = 40 ∧ (t.mach.core 0).queue = [] ∧ t.store.x 0 3 = 9 ∧
      queued.mach.loadParked 0 = false ∧ queued.mach.boot.bist = none ∧
      after (exec (.queuedStart 0 .none) es) = es := by decide

theorem test_spares :
    let ready := ((up.setFlag Reg.ENG_SPARE 0 true).setFlag Reg.ENG_PRESENT 2 true)
    let s : State := { mach := ready }
    let r : State := { mach := { ready with cores := [{ core := 2, spare := some .requested }] } }
    let c : State := { mach := { ready with cores := [{ core := 2, spare := some .copying }] } }
    Writable s Reg.ENG_SPARE_REQ ∧ s.mach.spareFree 0 = true ∧
      ((after (exec (.engSpareReq 0x22) s)).mach.core 2).spare = some .requested ∧
      (after (exec (.engSpareReq 0x23) s)).mach.fld Reg.ENG_TRAP_CNT 31 24 = 1 ∧
      ((after (exec (.spareReqEngage 2) r)).mach.core 2).spare = some .copying ∧
      ((after (exec (.spareCopyDone 2 true ⟨[5], []⟩) c)).mach.core 2).poisoned = [5] ∧
      (after (exec (.spareCopyDone 2 true ⟨[5], []⟩) c)).mach.flag Reg.ENG_SPARE 8 = true := by unfold Writable; decide

/-- A session of home core 0. -/
def ses : Session := { n := 0, gallery := 1, maxTok := 1, tp := 1, first := 5, home := 0, resBase := 64, scrBase := 0, scrLimit := 131072,
                       hbmBase := 0, hbmLimit := 1024 }

/-- A state with the session and core 0 present. -/
def layered : State := { mach := { up.setFlag Reg.ENG_PRESENT 0 true with sessions := [ses] }, store := { scratch := [(4096, 1), (8192, 2)] } }

theorem test_session_open_clears_its_range :
    let d : TuDesc := { arg0 := 1, gallery := 1, inline := [0x1000, 0x05000040, 0, 0x80] }
    let t := after (exec (.laySessionOpen d) (tuOn 0x12 d layered))
    t.mach.sessions.map (·.n) = [0, 1] ∧ t.store.scratch = [(8192, 2)] ∧ sessBadEntry d = false ∧ tuBad d 0 = false ∧
      layered.mach.feature 1 = true ∧ layered.mach.corePresent 0 = true := by decide

theorem test_session_close :
    (after (exec (.laySessionClose {}) (tuOn 0x13 {} layered))).mach.sessions = [] ∧ layered.mach.session? 0 = some ses ∧
      layered.mach.session? 1 = none ∧ layered.mach.sessionRuns ses = false ∧
      (after (exec (.laySessionCloseForce {}) (tuOn 0x13 { flags := 1 } layered))).mach.sessions = [] := by decide

theorem test_layer_program_ends :
    let q : Start := { prog with session := some 0 }
    let s : State := { mach := { up with sessions := [{ ses with rseq := 15 }], layers := [⟨5, [0, 0x07000000]⟩], cores := [{ core := 0, running := some q }] } }
    (s.mach.core 0).running = some q ∧
      ((after (exec (.endProgram 0 {} .none) s)).mach.sessions.map fun x => (x.rseq, x.cur)) = [(0, s.mach.nextLayer ses)] := by decide

theorem test_meets_layer_start :
    let q : Start := { prog with session := some 0 }
    let s : State := { mach := { up with sessions := [ses], cores := [{ core := 0, queue := [q] }] } }
    (s.mach.core 0).queue = [q] ∧ q.held = false ∧ s.mach.session? 0 = some ses ∧ s.mach.loadParked 0 = false ∧ Unspoiled s.mach := by
  unfold Unspoiled; decide

theorem test_spare_that_faulted :
    let ready := ((up.setFlag Reg.ENG_SPARE 0 true).setFlag Reg.ENG_PRESENT 2 true)
    let f : State := { mach := { ready with cores := [{ core := 2, spare := some (.fault .residue) }] } }
    let f2 := after (exec (.spareCopyDone 2 true ⟨[], [3]⟩) f)
    (f2.mach.core 2).badFetch = [24, 25, 26, 27, 28, 29, 30, 31] ∧
      (after (exec (.spareCopyDone 2 false {}) f)).mach.flag Reg.ENG_PRESENT 2 = false := by decide

theorem test_meets_taken_descriptors :
    ∀ opc ∈ [1, 2, 3, 4, 0x10, 0x11, 0x12, 0x13, 0x18, 0x20, 0x21, 0x28, 0x30, 0x38],
      (tuOn opc {} on).mach.tuTaken opc {} = true ∧ on.mach.tuTaken opc {} = false ∧
        (tuOn opc { flags := 1 } on).mach.tuTaken opc { flags := 1 } = true := by decide

theorem test_expert_map_words :
    let d : TuDesc := { count := 2, arg1 := 7, len := 8 }
    (after (exec (.layExpmap d [3, 4]) (tuOn 0x11 d on))).store.expmap = [(7, 3), (8, 4)] ∧ tuBad d 8 = false ∧ on.mach.mapBusy 7 9 = false ∧
      on.mach.tuBehind 0x11 d = false ∧ on.mach.layerBusy 5 = false ∧ on.mach.tuBehind 0x10 d = false := by decide

theorem test_layer_load_checks :
    let d : TuDesc := { arg0 := 5 }
    on.mach.layFails on.store d [] ≠ none := by decide

theorem test_program_load :
    let d : TuDesc := { count := 1, arg0 := 9, arg1 := 2, len := 8 }
    (after (exec (.progLoad d [5, 6]) (tuOn 0x28 d on))).store.prog = [(32777, 0x600000005)] ∧ tuBad d 8 = false ∧
      (∀ k ∈ setBitsOf 32 2, (on.mach.core k).running = none ∧ (on.mach.core k).badFetch = []) ∧
      on.mach.tuBehind 0x28 d = false := by decide

theorem test_meets_weights :
    let r : WeightRec := { layer := 5, core := 0, wd := [], scr := [], hbm := [] }
    let s : State := { mach := { layered.mach with layers := [⟨5, [0x80001000]⟩], dgt := { records := [r], busy := some 1 } } }
    let d : TuDesc := { gallery := 1, arg0 := 5 }
    tuBad d 0 = false ∧ s.mach.layerBusy 5 = false ∧ s.mach.tuBehind 0x18 d = false ∧ s.mach.feature 3 = true ∧
      bitOf (s.mach.layerWord 5 0) 31 = true ∧ s.mach.lay 5 0 17 12 = 1 ∧ s.mach.corePresent 0 = true ∧
      (after (exec (.dgtWeightClear { d with flags := 1 }) (tuOn 0x18 { d with flags := 1 } s))).mach.dgt.records = [] ∧
      s.mach.running = true ∧ s.mach.dgt.busy = some 1 := by decide

theorem test_program_digest_starts :
    Writable on Reg.DGT_PROG_CTL ∧ (after (exec (.dgtProgGo 0x83) on)).mach.dgt.busy = some 3 := by unfold Writable; decide

/-- A management packet on VC 1. -/
def mg : Packet := { type := 2, vc := 1 }

theorem test_management_send :
    let d : TuDesc := { arg0 := 0, len := 32 }
    tuBad d 32 = false ∧ (ported.mach.port? 0).isSome = true ∧ ported.mach.portUsable 0 = true ∧ on.mach.port? 0 = none ∧
      (after (exec (.mgmtSend d mg) (tuOn 0x30 d ported))).mach.sw.queues.map (fun q => (q.key, q.pkts.length)) = [(.port 0 1, 1)] ∧
      (after (exec (.mgmtSend d mg) (tuOn 0x30 d { mach := { up with ports := [{ prt with state := .down }] } }))).mach.rd Reg.SWC_UNREACH_CNT = 1 := by
  decide

theorem test_gallery_reset_ends_sessions :
    let d : TuDesc := { gallery := 1 }
    tuBad d 0 = false ∧ tuBad { d with flags := 1 } 0 = false ∧ layered.mach.resetHeld 1 = false ∧
      (after (exec (.galReset d) (tuOn 0x38 d layered))).mach.sessions = [] := by decide

/-! ### Fabric time (09) -/

theorem test_time_set_and_read :
    let s : State := { mach := (up.wr Reg.TIM_SET_NS_LO 1000).wr Reg.TIM_SET_NS_HI 1 }
    let t := after (exec (.timSet 0x80000000) s)
    Writable s Reg.TIM_CTL ∧ s.mach.runningEntry = none ∧ t.mach.now = 2 ^ 32 + 1000 ∧
      (after (exec .timNowRead t)).mach.rd Reg.TIM_NOW_NS_HI = 1 := by unfold Writable; decide

theorem test_pps_seconds_follow :
    let a := after (exec (.timPpsSecWrite 7) on)
    a.mach.time.lastPps = some 7 ∧ (after (exec (.timPpsSecWrite 8) a)).mach.time.lastPps = some 8 ∧
      (after (exec (.timPpsSecWrite 9) a)).mach.rd Reg.TIM_ERR_CNT = 1 ∧ Writable on Reg.TIM_PPS_SEC := by unfold Writable; decide

/-- Source 2 on port 0, with its peer delay known and a Pdelay_Req outstanding. -/
def timed : State :=
  { mach := { up.wr Reg.TIM_CTL 2 with
      ports := [prt, { prt with first := 4 }], time := { peerDelay := [(0, 5)], pdelaySent := [(0, 3)] } } }

theorem test_meets_time_sources :
    timed.mach.running = true ∧ timed.mach.timePort 0 = true ∧ timed.mach.isSource 0 = true ∧ timed.mach.isSource 4 = false ∧
      (0 : Byte).toNat = timed.mach.fld Reg.TIM_CTL 23 16 ∧ timed.mach.time.peerDelay.find? (fun x => x.1 == 0) = some (0, 5) ∧
      timed.mach.time.pdelaySent.find? (fun x => x.1 == 0) = some (0, 3) ∧ timed.mach.fld Reg.TIM_CTL 1 0 ≠ 0 ∧
      timed.mach.time.lost = false ∧ (up.wr Reg.TIM_CTL 1).fld Reg.TIM_CTL 1 0 = 1 ∧
      ({ timed.mach with regs := (timed.mach.wr (Reg.TIM_MASTER_W 0) 0x10).regs } : Mach).isMaster 4 = true := by decide

theorem test_replayed_time_packet :
    (after (exec (.sync 0 0 0x531 1 2 0 true) timed)).mach.rd Reg.TIM_ERR_CNT = 1 ∧
      (after (exec (.pdelayReq 0 9 0 1 2 true) timed)).mach.rd Reg.TIM_ERR_CNT = 1 ∧
      (after (exec (.pdelayResp 0 0 0x531 0 true) timed)).mach.time = timed.mach.time := by decide

theorem test_source_loss :
    let q : State := { timed with mach := { timed.mach with time := { timed.mach.time with adv := 4 * 10 ^ 9 * nsUnit } } }
    (after (exec .sourceLoss q)).mach.rd Reg.DGT_TEV_TIME = 1 ∧ (after (exec .sourceLoss q)).mach.timState = 1 ∧
      after (exec .sourceLoss timed) = timed ∧
      (after (exec (.pdelayResp 0 0 0x531 0 false) timed)).mach.time.pdelaySent = [] := by decide

theorem test_calendar_arms_and_switches :
    let a (sw : Nat) : State := { mach := { up with time := { arm := some ⟨3, 9, sw, 0⟩ } } }
    Writable on Reg.TIM_CAL_CTL ∧ on.mach.time.held = none ∧ (after (exec (.calArm 0x40000000) on)).mach.flag Reg.TIM_CAL_CTL 28 = true ∧
      (after (exec .bankSwitch (a 0))).mach.time.base = 9 ∧ (after (exec .bankSwitch (a 0))).mach.calActive = 1 ∧
      after (exec .bankSwitch (a 5)) = a 5 := by unfold Writable; decide

theorem test_meets_entry_start :
    let h : State := { mach := { up with time := { held := some (.set 5) } } }
    Unspoiled h.mach ∧ h.mach.running = true ∧ (after (exec (.calEntryStart .none) h)).mach.now = 5 ∧
      on.mach.calPermits 31 = true := by unfold Unspoiled; decide

theorem test_meets_running_entry :
    let a := (up.wr Reg.TIM_CAL_CTL 0x80000000).setFld Reg.TIM_CAL_CTL 25 13 1
    ((a.wr (Reg.TIM_CAL_BANK0 0) 1000).wr (Reg.TIM_CAL_BANK0 1) 0x10000000).runningEntry ≠ none := by decide

/-- The calendar of bank 0 runs: one entry of 1,000 ns in the cycle. -/
def entryMach : Mach := (((up.wr Reg.TIM_CAL_CTL 0x80000000).setFld Reg.TIM_CAL_CTL 25 13 1).wr (Reg.TIM_CAL_BANK0 0) 1000).wr (Reg.TIM_CAL_BANK0 1) 0x50000000

theorem test_steps_wait_for_the_entry :
    let h (e : Nat) : State := { mach := { entryMach with time := { held := some (.set 5), heldEnd := e } } }
    entryMach.runningEntry.isSome = true ∧ after (exec (.calEntryStart .none) (h 9)) = h 9 ∧
      (after (exec (.calEntryStart .none) (h 0))).mach.now = 5 ∧
      (after (exec (.timSet 0x80000000) { mach := entryMach })).mach.time.held.isSome = true := by decide

theorem test_meets_switch_boundary :
    entryMach.hasCycle entryMach.cal = true ∧ 0 < entryMach.calLen ∧ up.hasCycle up.cal = false ∧
      entryMach.switchNs ⟨3, 9, 1, 0⟩ = entryMach.calLen ∧ up.switchNs ⟨3, 9, 7, 0⟩ = 7 := by decide

theorem test_meets_silent_source :
    timed.mach.sourceSilent = false ∧ timed.mach.sourcePort 0 = true ∧ timed.mach.time.heard = 0 ∧
      (∃ d, timed.mach.time.peerDelay.find? (fun x => x.1 == 0) = some (0, d)) :=
  ⟨by decide, by decide, by decide, 5, by decide⟩

/-! ### Link and transport (10) -/

/-- A port that is UP with one flit sent and unacknowledged, and that has accepted SEQ 4. -/
def busy : Port :=
  { prt with rxNext := 5, rxAny := true, naking := true, fiHeld := [⟨{ type := 8, vc := 2 }, true, none⟩]
             replay := [{ seq := 9, poisoned := false, eop := true, vc := 2, payload := [], gal := 0 }] }

/-- A state of one port. -/
def withPort (p : Port) : State := { mach := { up with ports := [p] } }

/-- A DATA flit of SEQ n with its CRC-32. -/
def dataFlit (n : Nat) : List Byte :=
  let body := leBytes 4 (2 ^ 29 + n * 2 ^ 17 + 8) ++ List.replicate 248 0
  body ++ leBytes 4 (crc32 body)

theorem test_meets_link_flits :
    busy.linked = true ∧ (withPort busy).mach.running = true ∧ (withPort busy).mach.port? 0 = some busy ∧
      busy.replay.findIdx? (fun x => x.seq == 9) = some 0 ∧ (∀ x ∈ busy.replay, x.seq ≠ 10) ∧
      (∀ x ∈ busy.replay.drop 0, x.tries < max 1 ((withPort busy).mach.fld (Reg.TRL_REPLAY_CFG 0) 19 16)) ∧
      replayDepth 1 = 390 ∧ seqOld 390 5 4 = true ∧ seqOld 390 5 3711 = true ∧ seqOld 390 5 3710 = false ∧ seqOld 390 5 5 = false := by decide

theorem test_flit_accepted_then_old :
    let w := leNat ((dataFlit 5).take 4)
    leNat ((dataFlit 5).drop 252) = crc32 ((dataFlit 5).take 252) ∧ bits w 31 29 = 1 ∧ bits w 28 17 = 5 ∧ bitOf w 4 = false ∧
      (after (exec (.flitRx 0 (dataFlit 5) false []) (withPort busy))).mach.ports.map (·.rxNext) = [6] ∧
      after (exec (.flitRx 0 (dataFlit 4) false []) (withPort busy)) = withPort busy := by decide +kernel

/-- A port that exchanges identities with a valid partner, its challenge out. -/
def meeting : Port := { prt with state := .training, exchanging := true, ident := some { width := 1 }, authState := 3 }

theorem test_meets_exchange :
    meeting.usable = false ∧ (withPort meeting).mach.running = true ∧ (withPort meeting).mach.port? 0 = some meeting ∧
      identValid { width := 1 } = true ∧ identValid { width := 8 } = true ∧ identValid { width := 0 } = false ∧
      identValid { width := 9 } = false ∧ identValid { kind := 2, width := 1 } = false ∧ meeting.partnerSeen = false ∧
      ({ width := 1 } : Ident).peerSeen = false ∧ on.mach.flt.fences.contains 37 = false ∧ meeting.doneSent = false := by decide

theorem test_first_ident_and_bad_key :
    (after (exec (.ident 0 { width := 1, revMax := 3 }) (withPort { meeting with ident := none }))).mach.ports.map
        (fun p => (p.partnerSeen, p.negRev)) = [(true, 3)] ∧
      sm2Verify [] [] [] [] = false ∧ (sm3 [1]).take 16 ≠ uidBytes { width := 1 } ∧
      (sm3 [0x61, 0x62, 0x63]).take 16 = uidBytes { uid := 0xE2E410DC6BD4F2D1D9EDEE62F4F0C766 } ∧
      (after (exec (.authTimeout 0) (withPort meeting))).mach.ports.map (·.authState) ≠ [3] := by decide +kernel

theorem test_meets_injection :
    (Writable on (Reg.TRL_FI_CTL 0) → False) ∧ Writable (withPort busy) (Reg.TRL_FI_CTL 0) ∧
      bits (0x80000000 : Word).toNat 30 28 = 0 ∧ bits (0xD0000000 : Word).toNat 30 28 = 5 ∧ bits (0xC0000000 : Word).toNat 30 28 = 4 ∧
      (after (exec (.trlFiGo 0 0xC0000000) (withPort busy))).mach.ports.map (·.fiArmed) = [true] ∧
      (after (exec (.trlFiGo 0 0xD0000000) (withPort busy))).mach.fld (Reg.TRL_FI_CTL 0) 30 28 = 0 ∧
      (after (exec (.reorderTimeout 0) (withPort busy))).mach.ports.map (·.fiHeld) = [[]] := by unfold Writable; decide +kernel

theorem test_retry_limit_and_resends :
    let spent : Port := { busy with replay := busy.replay.map fun x => { x with tries := 15 } }
    let told : Port := { meeting with idSent := [(0, [1])] }
    (after (exec (.nakRx 0 9) (withPort spent))).mach.ports.map (·.state) = [.down] ∧
      (after (exec (.nakRx 0 9) (withPort busy))).mach.ports.map (·.state) = [.up] ∧
      (after (exec (.identResend 0) (withPort told))).mach.out.length = 1 ∧
      (after (exec (.quiesce 0) (withPort busy))).mach.ports.map (·.quiesced) = [true] ∧
      (after (exec (.quiesce 0) (withPort { busy with negRev := 2 }))).mach.ports.map (·.quiesced) = [false] := by decide +kernel

/-! ### Lanes (11) -/

/-- Lane 0 enabled, in LSTATE `st` and TRAIN_STEP `step`. -/
def laneAt (x : LaneX) (st step : Nat) : State := { mach := Mach.setLstate { up with lanes := [x] } 0 st step }

/-- An enabled lane. -/
def ln : LaneX := { lane := 0, en := true }

/-- The port with its lane. -/
def linked (x : LaneX) (p : Port) : State := { mach := { (laneAt x 0 0).mach with ports := [p] } }

theorem test_meets_lane_control :
    Writable (laneAt ln 0 0) (Reg.LNE_LANE_CTL 0) ∧ (laneAt ln 0 0).mach.domainOff 0 = false ∧
      (laneAt ln 0 0).mach.portOf? 0 = none ∧ (laneAt ln 0 0).mach.laneOn 0 = true ∧ (laneAt ln 0 0).mach.underTest 0 = false ∧
      (linked ln prt).mach.laneActive 0 = true ∧ (laneAt ln 0 0).mach.laneActive 0 = false ∧ (laneAt ln 0 0).mach.lstate 0 = 0 ∧
      ({ up.setFlag (Reg.PWR_DOMAIN_STAT_W 0) 0 true with lanes := [ln] } : Mach).domainOff 0 = true := by
  unfold Writable; decide +kernel

theorem test_lane_control_effects :
    (after (exec (.laneCal 0 0x40) (laneAt ln 0 0))).mach.lanes.map (·.calLeft) = [4000] ∧
      (after (exec (.ls1Req 0 1) (laneAt ln 0 0))).mach.lstate 0 = 1 ∧
      (after (exec (.ls2Req 0 2) (laneAt ln 0 0))).mach.lstate 0 = 2 ∧
      (after (exec (.laneRetrain 0 0x80) (laneAt ln 0 0))).mach.lstate 0 = 3 ∧
      (after (exec (.laneDrop 0 0x20) (linked ln prt))).mach.rd (Reg.LNE_DROP_CNT 0) = 1 := by decide +kernel

theorem test_meets_lane_training :
    let dark := (laneAt ln 3 0).mach
    LanesRun (laneAt ln 3 0) ∧ dark.sigDet 0 = false ∧ dark.domainOff 0 = false ∧ dark.lstate 0 = 3 ∧ (dark.lane 0).calLeft = 0 ∧
      dark.underTest 0 = false ∧ (laneAt ln 3 1).mach.trainStep 0 = 1 ∧ (laneAt ln 3 5).mach.trainStep 0 = 5 ∧
      (laneAt ln 3 3).mach.lposBad 0 0 = false ∧ bits ln.tcfg 15 12 = 3 ∧
      (after (exec (.signalDetect 0) (laneAt ln 3 0))).mach.sigDet 0 = true ∧
      (after (exec (.groupAlignment 0 9) (laneAt ln 3 6))).mach.lstate 0 = 0 := by unfold LanesRun; decide +kernel

theorem test_lane_training_timeouts :
    (after (exec (.trainTimeout 0) (laneAt { ln with restarts := 2 } 3 3))).mach.lanes.map (·.restarts) = [3] ∧
      (after (exec (.trainTimeout 0) (laneAt { ln with restarts := 3 } 3 3))).mach.fld (Reg.LNE_LANE_STATUS 0) 31 28 = 4 ∧
      (after (exec (.lsExitTimeout 0) (laneAt { ln with short := true } 3 2))).mach.lstate 0 = 3 ∧
      (after (exec (.cmdLs1 0) (laneAt ln 0 0))).mach.lstate 0 = 1 ∧
      (after (exec (.cmdLs2 0) (laneAt ln 1 0))).mach.lstate 0 = 2 := by decide +kernel

theorem test_meets_port_training :
    let s := linked ln { prt with state := .training }
    LanesRun s ∧ s.mach.port? 0 = some { prt with state := .training } ∧ s.mach.running = true ∧ s.mach.stage = 9 ∧
      s.mach.lstate 0 = 0 ∧ (after (exec (.portTrainTimeout 0) s)).mach.ports.map (·.exchanging) = [true] := by
  unfold LanesRun; decide +kernel

theorem test_meets_lane_failures :
    let cal := laneAt { ln with calLeft := 1 } 3 0
    let s := { (linked { ln with wantJoin := true } { prt with width := 2, mask := 2 }) with }
    cal.mach.calPermits 30 = true ∧ cal.mach.runningEntry = none ∧ (after (exec (.calSlice 0) cal)).mach.lanes.map (·.calLeft) = [0] ∧
      s.mach.portOf? 0 = some { prt with width := 2, mask := 2 } ∧ s.mach.flag Reg.TIM_CAL_CTL 31 = false ∧
      (s.mach.lane 0).wantJoin = true ∧ bitOf 2 0 = false ∧
      (after (exec (.lossOfAlignment 0) (laneAt ln 0 0))).mach.fld (Reg.LNE_LANE_STATUS 0) 31 28 = 2 ∧
      (after (exec (.los 0) (laneAt ln 0 0))).mach.fld (Reg.LNE_LANE_STATUS 0) 31 28 = 1 := by decide +kernel

theorem test_meets_codeword_limit :
    let s := linked { ln with ucfg := (up.rd Reg.LNE_TRAIN_CFG).toNat, uncorr := [0, 0, 0, 0, 0, 0, 0, 0] } prt
    let n := up.fld Reg.LNE_TRAIN_CFG 11 8
    LanesRun s ∧ n = 4 ∧ s.mach.laneActive 0 = true ∧
      (after (exec (.uncorrectableCodeword 0) s)).mach.fld (Reg.LNE_LANE_STATUS 0) 31 28 = 3 ∧
      (after (exec (.uncorrectableCodeword 0) (linked { ln with ucfg := (up.rd Reg.LNE_TRAIN_CFG).toNat, uncorr := [0, 0, 0] } prt))).mach.lstate 0 = 0 := by
  unfold LanesRun; decide +kernel

theorem test_meets_width_changes :
    let x : WidthX := { mask := 1, initiator := true }
    let w : State := linked ln { prt with width := 2, mask := 3 }
    let c : State := linked ln { prt with width := 2, mask := 3, widthX := some x }
    LanesRun w ∧ w.mach.minLanes prt = 1 ∧ maskWidth 1 = 1 ∧ maskWidth 0 = 0 ∧
      (after (exec (.width 0 1) w)).mach.ports.map (fun p => (p.mask, p.state)) = [(1, .degraded)] ∧
      (after (exec (.width 0 0) w)).mach.ports.map (·.state) ≠ [.up] ∧
      (after (exec (.widthAck 0 1) c)).mach.ports.map (·.mask) = [1] ∧ after (exec (.widthAck 0 2) c) = c ∧
      (after (exec (.neww 0 1) c)).mach.ports.map (fun p => p.widthX.map (·.gotNeww)) = [some true] := by
  unfold LanesRun; decide +kernel

theorem test_meets_layout :
    let s := linked ln { prt with state := .down, layoutHeld := true }
    Writable s (Reg.LNE_LANE_CFG 0) ∧ Writable s (Reg.LNE_PRBS_CTL 0) ∧ ({ prt with state := .down } : Port).takesLayout = true ∧
      prt.takesLayout = false ∧ (after (exec (.layoutWrite 0 0x2000) (linked ln prt))).mach.ports = [prt] ∧
      (after (exec (.layoutWrite 0 0) (linked ln prt))).mach.ports.map (·.layoutHeld) = [true] ∧
      (after (exec (.prbsGenChk 0 0x0C000000) (laneAt ln 0 0))).mach.lstate 0 = 3 ∧
      (after (exec (.prbsGenChk 0 0x0C000000) (linked ln prt))).mach.fld (Reg.LNE_PRBS_CTL 0) 27 24 = 0 := by
  unfold Writable; decide +kernel

theorem test_meets_checker :
    let s (ln : LaneX) : State := { mach := (laneAt ln 3 0).mach.setFld (Reg.LNE_PRBS_CTL 0) 25 24 1 }
    let met (l : List (BitVec 2)) : Mach := (after (exec (.prbsCheckerLock 0 9 l) (s { ln with chk := some { at_ := 5, locked := true } }))).mach
    (met (patternFrom 1 2 5)).rd (Reg.LNE_PRBS_SYM_ERR 0) = 0 ∧ (met ((patternFrom 1 2 5).map (3 - ·))).rd (Reg.LNE_PRBS_SYM_ERR 0) = 2 ∧
      ((after (exec (.prbsCheckerLock 0 9 (patternFrom 1 2 9)) (s ln))).mach.lane 0).chk.map (·.run) = some 2 := by decide +kernel

theorem test_meets_frames :
    readFrame (frameHead 0x80000 5) = some (false, 0x80000, 5) ∧ readFrame [] = none ∧
      LanesRun (laneAt ln 3 1) ∧ (linked ln prt).mach.lposBad 0 1 = true ∧ (laneAt ln 3 1).mach.lposBad 0 1 = false ∧
      (laneAt ln 3 1).mach.laneOn 0 = true ∧
      after (exec (.trainingFrame 0 [] true 0) (laneAt ln 3 1)) = laneAt ln 3 1 := by unfold LanesRun; decide +kernel

theorem test_late_port_starts_with_fewer :
    let p : Port := { prt with width := 2, mask := 0, state := .training }
    let s := linked ln { p with late := true }
    s.mach.minLanes p = 1 ∧ ((linked ln p).mach.tryExchange 0).ports.map (·.exchanging) = [false] ∧
      (s.mach.tryExchange 0).ports.map (·.exchanging) = [true] := by decide +kernel

theorem test_lane_lost_and_taken_back :
    let s (x : LaneX) := linked x { prt with width := 2, mask := 2 }
    (after (exec (.los 0) (laneAt ln 1 0))).mach.fld (Reg.LNE_LANE_STATUS 0) 31 28 = 0 ∧
      (s { ln with cfg := 64 }).mach.lane 0 = { ln with cfg := 64 } ∧
      ((after (exec (.autoRejoin 0) (s { ln with cfg := 64 }))).mach.ports.map fun p => p.widthX.isSome) = [true] ∧
      after (exec (.autoRejoin 0) (s { ln with cfg := 64, dropped := true })) = s { ln with cfg := 64, dropped := true } := by
  decide +kernel

theorem test_smaller_answer_is_followed :
    let x : WidthX := { mask := 3, initiator := true }
    let c : State := linked ln { prt with width := 2, mask := 3, widthX := some x }
    (after (exec (.widthAck 0 1) c)).mach.ports.map (fun p => (p.mask, p.widthX.isSome)) = [(1, true)] ∧
      (after (exec (.widthAck 0 0) c)).mach.ports.map (·.state) = [.down] ∧
      (after (exec (.neww 0 1) (linked ln prt))).mach.ports.map (·.rxMask) = [1] := by decide +kernel

theorem test_injection_starts_and_ends :
    let on_ := after (exec (.prbsInjGo 0 0x84480000) (laneAt ln 3 0))
    ((on_.mach.lane 0).inject.map (·.1)) = some 256 ∧
      ((after (exec (.prbsGenChk 0 0x04000000) on_)).mach.lane 0).inject = none := by decide +kernel

/-! ### Packet switch, routing, scheduling (12, 13, 14) -/

/-- A request of type 16 with nothing behind its header. -/
def rq : Packet := { type := 0x10, vc := 4, dest := 7, hops := 3 }

/-- A packet that waits in a queue. -/
def wait (loc : QLoc) (seq : Nat) : QPkt :=
  { pkt := rq, cells := 1, loc, chain := 1, gen := 0, seq, ingress := none, routed := true }

/-- A state whose queue of port 0, VC 4 holds the packets. -/
def queue4 (l : List QPkt) (pages : List Nat) : State :=
  { mach := { up.setFld (Reg.SWC_QCFG 0 4) 15 0 64 with ports := [prt], pools := [{ stack := 0, sumpPages := 100, spTop := 100 }], sw := { queues := [{ key := .port 0 4, pkts := l, pages }] } } }

theorem test_meets_ingress :
    let q := { prt with shared := true }
    prt.linked = true ∧ ({ prt with state := .down } : Port).linked = false ∧ headerBad prt rq = none ∧
      headerBad prt { rq with vc := 5 } = some Reg.TRL_MALFORMED_CNT ∧ headerBad prt { rq with gallery := 3 } = some Reg.TRL_XGAL_CNT ∧
      headerBad q { rq with gallery := 3 } = none ∧ headerBad prt { rq with length := 4097 } = some Reg.TRL_MALFORMED_CNT ∧
      quarantineBars prt rq = false ∧ quarantineBars { prt with state := .quarantine } rq = true ∧ on.mach.flt.galFences = [] ∧
      on.mach.flt.fences = [] := by decide

theorem test_ingress_counts :
    let cnt (p : Port) (m : Mach) (k : Packet) (fl : Byte) (c : Nat) : Nat :=
      ((after (exec (.packetIngress 0 k fl false false .none) { mach := { m with ports := [p] } })).mach.rd c).toNat
    cnt prt up { rq with vc := 5 } 1 Reg.TRL_MALFORMED_CNT = 1 ∧ cnt prt up rq (BitVec.ofNat 8 (pktFlits rq + 1)) Reg.TRL_MALFORMED_CNT = 1 ∧
      cnt { prt with state := .quarantine } up rq (BitVec.ofNat 8 (pktFlits rq)) Reg.SVC_QUAR_DROP_CNT = 1 ∧
      cnt prt { up with flt := { galFences := [0] } } rq (BitVec.ofNat 8 (pktFlits rq)) Reg.SWC_GFLUSH_CNT = 1 ∧
      cnt { prt with state := .down } up rq 9 Reg.TRL_MALFORMED_CNT = 0 := by decide +kernel

theorem test_meets_queues :
    let s := queue4 [wait .sump 0] [0]
    let q : Queue := { key := .port 0 4, pkts := [wait .sump 0], pages := [0] }
    s.mach.queue (qkey (.port 0 4)) = q ∧ q.oldestSump = some (wait .sump 0) ∧ s.mach.fillFits q (wait .sump 0) = true ∧
      s.mach.fillHalted q = false ∧ s.mach.fillBehind q (wait .sump 0) = false ∧ (on.mach.queue (qkey (.port 0 4))).oldestSump = none ∧
      (s.mach.fillTake q (wait .sump 0)).sw.queues.map (fun q => q.pkts.map (·.loc)) = [[.filling]] := by decide +kernel

theorem test_meets_sump_write :
    let s := queue4 [wait .staged 0] []
    let q : Queue := { key := .port 0 4, pkts := [wait .staged 0] }
    q.pkts.find? (fun x => x.loc == .staged) = some (wait .staged 0) ∧ q.newPages 1 = 1 ∧ q.newPages 15 = 1 ∧ q.newPages 16 = 2 ∧
      0 < s.mach.dieSumpFree 0 ∧ s.mach.fld (Reg.SWC_QCFG 0 4) 31 16 = 0 ∧
      (after (exec (.sumpWrite { q := .port 0 4 }) s)).mach.sw.queues.map (fun q => (q.pkts.map (·.loc), q.pages.length)) = [([.sump], 1)] := by
  decide +kernel

theorem test_holds_end :
    (after (exec (.rehashHoldEnd 0 4) (queue4 [{ wait .onDie 0 with held := true }] []))).mach.sw.queues.map
        (fun q => q.pkts.map (·.held)) = [[false]] ∧
      (after (exec (.fillHeadWritten (.port 0 4)) (queue4 [wait .filling 0] []))).mach.sw.queues.map (fun q => q.pkts.map (·.loc)) =
        [[.onDie]] ∧
      (after (exec (.orderHoldEnd 0 4) (queue4 [] []))).mach.sw.queues.all (fun q => !q.escape) = true := by decide +kernel

theorem test_meets_pick :
    let s : State := { mach := { (queue4 [wait .onDie 0] []).mach with ports := [{ prt with credit := [9, 9, 9, 9, 9, 9, 9, 9] }] } }
    (s.mach.port? 0).map Port.linked = some true ∧ (s.mach.pick { prt with credit := [9, 9, 9, 9, 9, 9, 9, 9] }).2.map (·.1) = some 4 ∧
      (on.mach.pick prt).2 = none ∧ ((queue4 [wait .onDie 0] []).mach.pick prt).2 = none ∧
      (after (exec (.pick 0 .none) s)).mach.sw.queues.all (fun q => q.pkts.isEmpty) = true := by decide +kernel

theorem test_meets_escape :
    let s : State := { mach := (queue4 [wait .onDie 0] []).mach.setFlag Reg.RTE_CTL 0 true }
    s.mach.flag Reg.RTE_CTL 0 = true ∧ (s.mach.queue (.port 0 4)).pkts = [wait .onDie 0] ∧
      prt.credit.getD 4 0 < pktFlits rq ∧ s.mach.vcOpenFor 4 (s.mach.flitTime prt (pktFlits rq)) = true ∧ flitNs false 100 8 = 64 ∧ flitNs true 1 4 = 3 ∧
      (4 : BitVec 3) ≠ 0 := by decide +kernel

theorem test_meets_route_load :
    let d : TuDesc := { count := 1, arg1 := 9, len := 16 }
    on.mach.sw.syncBusy = none ∧ on.mach.oldCnt = 0 ∧ on.mach.sw.flipBusy = false ∧ tuBad d 16 = false ∧
      (routeWords [0, 0, 0, 0]).zipIdx.any (fun p => on.mach.routeBad (9 + p.2) p.1.toNat) = false ∧ on.mach.tuBehind 0x20 d = false ∧
      tuBad {} 0 = false ∧ on.mach.tuBehind 0x21 {} = false ∧
      (after (exec (.rteSync {}) (tuOn 0x21 {} on))).mach.sw.syncBusy = some (on.mach.loadBank, {}) ∧
      ported.mach.routeBad 9 0x80000000 = false := by decide

theorem test_route_entry_lands_and_flips :
    let d : TuDesc := { count := 1, arg1 := 9, len := 16 }
    let t := after (exec (.rteLoad d [0x80000000, 0, 0, 0]) (tuOn 0x20 d ported))
    t.store.route = [(65536 * on.mach.loadBank + 9, 0x80000000)] ∧
      (after (exec .flipCheckDone { mach := { up with sw := { flipBusy := true } } })).mach.sw.stamp = true ∧
      ({ mach := { up with sw := { flipBusy := true } } } : State).mach.flipBad {} = [] ∧ Writable on Reg.RTE_CTL ∧
      (after (exec (.flip 4) on)).mach.sw.flipBusy = true ∧ (after (exec (.flip 1) on)).mach.sw.flipBusy = false := by
  unfold Writable; decide

theorem test_flip_refused :
    let q := { prt with leadsToSwitch := true, partnerSeen := true }
    let s : State := { mach := { up with ports := [q], sw := { flipBusy := true } },
                       store := { route := [(9, 0x80000000), (65545, 0x82000000)] } }
    s.mach.flipBad s.store = [9] ∧ (after (exec .flipCheckDone s)).mach.sw.flipRefused = true ∧
      (after (exec .rteSyncDone { mach := { up with sw := { syncBusy := some (1, {}) } }, store := { route := [(9, 5)] } })).store.route =
        [(9, 5), (65545, 5)] := by decide

theorem test_meets_shapers :
    let s : State := { mach := { ((up.wr (shpOffset 0 4 .cfg) 0x80000000).wr (shpOffset 0 4 .rate) 0x80008).wr (shpOffset 0 4 .cbs) 9 with
      shapers := [⟨4, 0, 0⟩], ports := [prt], time := { adv := 80 * nsUnit } } }
    Writable s (shpOffset 0 4 .cfg) ∧ Writable s (shpOffset 0 1 .cfg) ∧
      (after (exec (.shaperWrite 0 1 .cfg 0x80000000) s)).mach.rd Reg.SHP_CFG_ERR_CNT = 1 ∧
      (after (exec (.shaperWrite 0 2 .cfg 0x80000000) s)).mach.rd Reg.SHP_CFG_ERR_CNT = 0 ∧
      (after (exec (.shaperWrite 0 4 .cbs 7) s)).mach.shapers = [] ∧ (s.mach.cir 0 4 ≠ 0) ∧
      (after (exec .shaperRefill s)).mach.shapers ≠ [⟨4, 0, 0⟩] := by unfold Writable; decide +kernel

theorem test_ingress_strays_and_short_tails :
    let n (k : Packet) (fl : Byte) (left : Bool) (c : Nat) : Nat :=
      ((after (exec (.packetIngress 0 k fl false left .none) ported)).mach.rd c).toNat
    timeStrays { mg with type := 3, dest := 7 } = true ∧ timeStrays rq = false ∧
      n { rq with type := 3, vc := 1 } 1 false Reg.RTE_BADDEST_CNT = 1 ∧
      n rq (BitVec.ofNat 8 (pktFlits rq + 1)) true Reg.TRL_MALFORMED_CNT = 1 := by decide +kernel

theorem test_link_slot_on_an_idle_pick :
    (after (exec (.pick 0 .none) ported)).mach.out ≠ [] ∧ (after (exec (.pick 0 .none) (withPort { prt with state := .down }))).mach.out = [] := by
  decide +kernel

/-! ### Jionuk (15) -/

theorem test_meets_window_lines :
    let h : JnkHdr := { tag := 1, win := 1, addr := 64 }
    let s : State := { mach := { jn.mach with pools := [{ stack := 0, fmLimit := 1, fmFree := [0], fmTop := 1 }] }, store := { hbm := [(64, 7)] } }
    s.mach.jnkUp = true ∧ s.mach.flt.safe = false ∧ h.bad = false ∧ h.win = 1 ∧ h.addr.toNat % 64 = 0 ∧ s.mach.windowLine 64 = true ∧
      s.mach.windowLine 65535 = true ∧ s.mach.windowLine 65536 = false ∧ Unspoiled s.mach ∧
      (after (exec (.wrFull h (List.replicate 64 5)) s)).store.hbm.length = 64 ∧
      (after (exec (.wb { h with poison := true } (List.replicate 64 5)) s)).store.hbm = [(64, 7)] ∧
      (after (exec (.rdOwn h .none) s)).mach.jnk.held = [(1, true)] ∧
      (after (exec (.rdShared { h with bad := true } .none) s)).mach.rd Reg.JNK_ERR_SENT_CNT = 1 := by unfold Unspoiled; decide +kernel

theorem test_meets_configuration :
    let h (a : Quad) : JnkHdr := { tag := 1, addr := a }
    jn.mach.access Reg.BOOT_STATUS = .live ∧ jn.mach.access 0x3FFFFFC = .miss ∧ jn.mach.access (Reg.TRL_FI_CTL 0) = .empty ∧
      (after (exec (.cfgRd (h 0x3FFFFFC)) jn)).mach.rd Reg.JNK_CFG_MISS_CNT = 1 ∧
      (after (exec (.cfgRd (h 0x4000000)) jn)).mach.rd Reg.JNK_ERR_SENT_CNT = 1 ∧
      (after (exec (.cfgWr (h (BitVec.ofNat 64 Reg.TIM_SET_NS_LO)) 77) jn)).mach.rd Reg.TIM_SET_NS_LO = 77 ∧
      ({ mach := { jn.mach with flt := { safe := true } } } : State).mach.jnkUp = true ∧
      (JnkHdr.addr (h 0x10000)).toNat = 0x10000 ∧
      ({ jn.mach with regs := (jn.mach.setFld Reg.BOOT_STATUS 31 28 7).regs } : Mach).access Reg.TIM_SET_NS_LO = .shut := by decide +kernel

theorem test_meets_full_filter :
    let w : Mach := { jn.mach with pools := [{ stack := 0, fmLimit := 1, fmFree := [0], fmTop := 1 }] }
    let h : JnkHdr := { tag := 1, win := 1, addr := 64 }
    w.filterRoom 1 = true ∧ (after (exec (.evict h) { mach := { w with jnk := { held := [(1, true)] } } })).mach.jnk.held = [] := by
  decide +kernel

/-- 15 R393, 07 R207: a full snoop filter has no room for one more line. -/
theorem test_full_filter_has_no_room : ∃ l : List (Nat × Bool), ({ jn.mach with jnk := { held := l } } : Mach).filterRoom 1 = false := by
  have full : ∀ n, 1048576 ≤ n → ({ jn.mach with jnk := { held := List.replicate n (0, true) } } : Mach).filterRoom 1 = false := by
    intro n h
    have : ¬(n < 1048576) := by omega
    simp [Mach.filterRoom, this]
  exact ⟨_, full _ (Nat.le_refl _)⟩

/-- A state with one outstanding request of tag 5. -/
def asked (w : JnkWhy) : State := { mach := { jn.mach with jnk := { reqs := [⟨5, 1, 4096, w, 0⟩] } } }

theorem test_meets_answers :
    (asked (.doorbell 0)).mach.awake = true ∧ (asked (.doorbell 0)).mach.jnkUp = true ∧
      (asked (.snoop 3)).mach.jnk.reqs.find? (fun r => r.tag == (5 : BitVec 12).toNat) = some ⟨5, 1, 4096, .snoop 3, 0⟩ ∧
      (∀ r ∈ (asked (.snoop 3)).mach.jnk.reqs, r.tag ≠ (6 : BitVec 12).toNat) ∧
      (after (exec (.jnkErr 5) (asked (.snoop 3)))).mach.rd Reg.JNK_ERR_RSP_CNT = 1 ∧
      (after (exec (.jnkTimeout 5) (at_ 4000000 (asked (.cmdData 0 0))))).mach.rd Reg.JNK_TIMEOUT_CNT = 1 ∧
      (after (exec (.snpRspd 5 (List.replicate 64 1)) (asked (.snoop 3)))).store.hbm.length = 64 ∧
      (after (exec (.cmpD 5 true []) (asked (.desc 2 0)))).mach.flag (ringReg 2 0) 30 = true ∧
      (after (exec (.cmpS 5 true []) (asked (.doorbell 64)))).mach.flag (ringReg 64 0) 30 = true ∧
      ((after (exec (.cmp 5) (asked (.record 2 true 0 true)))).mach.ring 2).unsignalled = [none, some 0] := by decide +kernel

theorem test_answers_of_other_requests :
    let t : State := { (asked (.tuData 0)) with mach := { (asked (.tuData 0)).mach with
      jnk := { (asked (.tuData 0)).mach.jnk with tu := some ⟨0, [], false⟩ } } }
    (after (exec (.cmpD 5 false []) t)).mach.jnk.tu.map (·.ready) = some true ∧
      (after (exec (.cmpD 5 true []) t)).mach.flag (ringReg 64 0) 30 = true ∧
      after (exec (.jnkTimeout 5) (asked (.cmdData 0 0))) = asked (.cmdData 0 0) ∧
      (after (exec (.cmp 5) (asked (.record 2 true 0 false)))).mach.jnk.reqs = [] ∧
      (after (exec (.cmp 5) (asked (.audit 0)))).mach.jnk.reqs = [] := by decide +kernel

theorem test_interrupt_not_due :
    let r : RingSt := { set := 3, arm := 1, unsignalled := [some 0, none] }
    let m : Mach := { (jn.mach.setFld (ringReg 3 0) 31 31 1).wr (ringReg 3 0x0C) 2 with jnk := { rings := [r] } }
    after (exec (.jnkInt 3 false) { mach := m }) = { mach := m } ∧
      (after (exec (.jnkInt 3 false) { mach := { m with time := { adv := 128 * nsUnit } } })).mach.out ≠ [] := by decide +kernel

/-- Registers of ring set `k` as a companion writes them: 64 entries each, at 4096, 8192, 12288, doorbell at 16384. -/
def ringSet (k : Nat) : State :=
  { mach := (((((((up.wr Reg.GLB_WIN_CTL 0x80000000).wr Reg.GLB_CFG_BASE_HI 1).wr Reg.GLB_FMW_BASE_HI 2).wr (ringReg k 4) 0x060606).wr (ringReg k 0x10) 4096).wr (ringReg k 0x18) 8192).wr
      (ringReg k 0x20) 12288).wr (ringReg k 0x28) 16384 }

theorem test_meets_ring_enable :
    Writable (ringSet 3) (ringReg 3 0) ∧ Writable (ringSet 64) (ringReg 64 0) ∧ (ringSet 3).mach.ringEn 3 = false ∧
      ((ringSet 3).mach.ringCheck 3).isNone = true ∧ ((ringSet 64).mach.ringCheck 64).isNone = true ∧ (on.mach.ringCheck 3).isSome = true ∧
      (after (exec (.rngEnable 3) (ringSet 3))).mach.ringOpen 3 = true ∧ (after (exec (.rngEnable 64) (ringSet 64))).mach.ringOpen 64 = true ∧
      (after (exec (.rngEnable 3) on)).mach.ringOpen 3 = false := by unfold Writable; decide +kernel

theorem test_meets_link_state :
    (after (exec (.jnkLinkUp 1) on)).mach.jnkUp = true ∧ on.mach.mstate = 0 ∧ on.mach.jnkUp = false ∧
      (after (exec .jnkLinkDown jn)).mach.rd Reg.JNK_LINK_DOWN_CNT = 1 ∧
      (let r : RingSt := { set := 3, arm := 1, unsignalled := [some 0, none] }
       let s : State := { mach := { jn.mach.setFld (ringReg 3 0) 31 31 1 with jnk := { rings := [r] } } }
       s.mach.ringEn 3 = true ∧ s.mach.ring 3 = r ∧ r.unsignalled.getD 0 none = some 0 ∧ r.intSent.getD 0 false = false ∧
         bitOf r.arm 0 = true ∧ (after (exec (.jnkInt 3 false) s)).mach.out.length = 2 ∧ (after (exec (.jnkInt 3 true) s)) = s) := by
  decide +kernel

/-- Ring set `k` open with one new descriptor. -/
def newDesc (k : Nat) : State :=
  { mach := { (after (exec (.jnkLinkUp 0) (after (exec (.rngEnable (BitVec.ofNat 7 k)) (ringSet k))))).mach with
      jnk := { rings := [{ set := k, prod := 1, cplCons := 0 }] } } }

theorem test_meets_descriptors :
    (newDesc 3).mach.running = true ∧ (newDesc 3).mach.jnkUp = true ∧ (newDesc 3).mach.ringOpen 3 = true ∧
      ((newDesc 3).mach.rd (ringReg 3 0x30)).toNat = 0 ∧ ((newDesc 3).mach.ring 3).prod = 1 ∧ (newDesc 3).mach.jnk.taken = [] ∧
      0 + ahead ((newDesc 3).mach.rd (ringReg 3 0x34)).toNat 0 + 1 ≤ (newDesc 3).mach.ringSize 3 1 ∧
      (newDesc 3).mach.flt.galFences = [] ∧ (newDesc 3).mach.resetParked 3 = false ∧
      (newDesc 64).mach.ringOpen 64 = true ∧ (newDesc 64).mach.jnk.reqs = [] ∧ (newDesc 64).mach.jnk.parked = [] ∧
      (after (exec .tuDescTake (newDesc 64))).mach.jnk.reqs.map (·.addr) = [4096] ∧
      (after (exec (.descTake 3) (newDesc 3))).mach.jnk.reqs.map (·.addr) = [4096] := by decide +kernel

/-- Ring set 1 has taken the command of index 0 with its words. -/
def tookCmd (m : Mach) (w : List Word) : State :=
  { mach := { m.setFlag Reg.JNK_STATUS 31 true with jnk := { taken := [{ set := 1, index := 0, words := w }] } } }

theorem test_meets_program_start :
    let w : List Word := [0xF0000005, 77, 0, 0, 0, 0, 0, 0, 11, 12, 0, 0, 0, 0, 0, 18]
    let c := up.setFlag Reg.ENG_PRESENT 0 true
    let st : Start := { entry := 0, gallery := 0, scrBase := 0, scrLimit := 0, hbmBase := 0, hbmLimit := 0 }
    let full : Mach := { c with cores := [{ core := 0, queue := List.replicate 16 st }] }
    (tookCmd c w).mach.running = true ∧ (tookCmd c w).mach.coreGone 0 = false ∧ (tookCmd up w).mach.coreGone 0 = true ∧
      ((tookCmd full w).mach.core 0).queue.length = 16 ∧ ((tookCmd c w).mach.taken? 1 0).isSome = true ∧
      ((after (exec (.progStart 1 0 w) (tookCmd c w))).mach.core 0).queue.map (fun q => (q.entry, q.gallery, q.regs.take 2)) =
        [(77, 1, [(1, 11), (2, 12)])] := by decide +kernel

theorem test_meets_parked :
    let p : State := { mach := { jn.mach with jnk := { parked := [⟨0x10, { len := 8, count := 2 }, [3, 4]⟩] } } }
    jn.mach.jnk.parked[0]? = none ∧
      (Mach.rerun { p.mach with jnk := { p.mach.jnk with parked := [] } } p.store ⟨0x10, { len := 8, count := 2 }, [3, 4]⟩).1.jnk.parked = [] ∧
      (after (exec (.parkedRelease 0) p)).mach.jnk.parked = [] := by decide +kernel

/-! ### Fabric memory (07) -/

/-- A command block from its words 0 to 8. -/
def blk (w : List Word) : FmSrc := .ring 1 0 (w ++ List.replicate (16 - w.length) 0) []

/-- Ring 1 has taken a command; stack 0 has four pages, of which page 0 is allocated to gallery 1. -/
def fm (quota : Word) (src : FmSrc) : State :=
  { mach := { ((tookCmd ((up.setFlag Reg.BPM_CTL 2 true).wr (Reg.FMM_QUOTA_G 1) quota) (fmCmd src).words).mach) with
      pools := [{ stack := 0, fmLimit := 4, fmTop := 4 }], pages := [{ page := 0, alloc := true, gallery := 1, refcnt := 1 }] } }

/-- ALLOC of one page, any stack; INCREF and DECREF of page 0. -/
def alloc1 : FmSrc := blk [0x03C10000]
def allocZ : FmSrc := blk [0x07C10000]
def incr : FmSrc := blk [0x10010000, 0, 0, 0, 0, 0, 0, 0, 0]
def decr : FmSrc := blk [0x20010000, 0, 0, 0, 0, 0, 0, 0, 0]

theorem test_meets_alloc : FmReady (fm 9 alloc1) alloc1 0 false ∧ FmReady (fm 9 allocZ) allocZ 0 true ∧
    (fm 9 alloc1).mach.feature 2 = true := by
  refine ⟨⟨?_, ?_, ?_, ?_, ?_, ?_, ⟨⟨rfl, rfl⟩, rfl⟩⟩, ⟨?_, ?_, ?_, ?_, ?_, ?_, ⟨⟨rfl, rfl⟩, rfl⟩⟩, ?_⟩ <;> decide +kernel

theorem test_alloc_effects :
    let pages (s : State) : List Nat := (s.mach.pages.filter fun x => x.alloc).map (·.page)
    pages (after (exec (.alloc alloc1 .none) (fm 9 alloc1))) = [3, 0] ∧ pages (after (exec (.alloc alloc1 .none) (fm 0 alloc1))) = [0] ∧
      (after (exec (.alloc alloc1 .none) (fm 0 alloc1))).mach.rd Reg.FMM_REFUSE_CNT = 1 ∧
      (after (exec (.allocZero allocZ .none) { fm 9 allocZ with store := { hbm := [(200000, 1), (262144, 2)] } })).store.hbm =
        [(262144, 2)] := by decide +kernel

theorem test_meets_references : FmReady (fm 9 incr) incr 1 false ∧ FmReady (fm 9 decr) decr 2 false ∧
    (fmCmd incr).list.any (fm 9 incr).mach.chanHalted = false ∧ (fm 9 incr).mach.checkHandle 1 0 0 0 = .none ∧
    (fm 9 incr).mach.checkHandle 2 0 0 0 ≠ .none ∧
    (after (exec (.incref incr .none) (fm 9 incr))).mach.pages.map (·.refcnt) = [2] ∧
    (after (exec (.decref decr .none) (fm 9 decr))).mach.pages.map (·.alloc) = [false] := by
  refine ⟨⟨?_, ?_, ?_, ?_, ?_, ?_, ⟨⟨rfl, rfl⟩, rfl⟩⟩, ⟨?_, ?_, ?_, ?_, ?_, ?_, ⟨⟨rfl, rfl⟩, rfl⟩⟩, ?_, ?_, ?_, ?_, ?_⟩ <;> decide +kernel

/-- READ of one line of page 0 to companion address 64; COPY of one line to line 1. -/
def read1 : FmSrc := blk [0x30000000, 0, 0x00010000, 0, 0, 0, 0x40]
def copy1 : FmSrc := blk [0x50000000, 0, 0x00010000, 0, 1]

/-- WRITE of one line, in an endpoint's packet. -/
def writePkt : Packet :=
  { rq with gallery := 1, payload := wordBytes [0x40000000, 0, 0x00010000] ++ List.replicate 52 0 ++ List.replicate 64 7 }

/-- The command it carries. -/
def write1 : FmSrc := .endpoint writePkt

/-- The same state with that packet at the head of the FMEM queue. -/
def fmW : State :=
  { mach := { (fm 9 write1).mach with sw := { queues := [{ key := .fmem 0, pkts := [{ wait .onDie 0 with pkt := writePkt }] }] } } }

theorem test_meets_data : FmReady (fm 9 read1) read1 3 false ∧ FmReady fmW write1 4 false ∧
    FmReady (fm 9 copy1) copy1 5 false := by
  refine ⟨⟨?_, ?_, ?_, ?_, ?_, ?_, ⟨⟨rfl, rfl⟩, rfl⟩⟩, ⟨?_, ?_, ?_, ?_, ?_, ?_, ⟨⟨rfl, rfl⟩, rfl⟩⟩,
    ⟨?_, ?_, ?_, ?_, ?_, ?_, ⟨⟨rfl, rfl⟩, rfl⟩⟩⟩ <;> decide +kernel

theorem test_data_moves :
    (fm 9 read1).mach.fmCheck (fmCmd read1) = .none ∧ (fm 9 read1).mach.jnk.held = [] ∧
      (after (exec (.fmWrite write1 .none) fmW)).store.hbm.map (·.1) = List.range 64 ∧
      (after (exec (.fmCopy copy1 .none) { fm 9 copy1 with store := { hbm := [(5, 1)] } })).store.hbm = [(5, 1), (69, 1)] := by
  decide +kernel

theorem test_meets_multicast_read :
    let b := blk [0x38000000, 0, 0x00010000, 0, 0, 0, 0x40]
    FmReady (fm 9 b) b 3 true ∧ (after (exec (.readMcast b .none) (fm 9 b))).mach.rd Reg.FMM_REFUSE_CNT = 1 ∧
      ((fm 9 b).mach.page 0).bound = false := by
  refine ⟨⟨?_, ?_, ?_, ?_, ?_, ?_, ⟨⟨rfl, rfl⟩, rfl⟩⟩, ?_, ?_⟩ <;> decide +kernel

theorem test_meets_attach :
    let s (b : FmSrc) : State := { mach := { (fm 9 b).mach with groups := [grp] } }
    let b := blk [0x60000000, 0, 0, 0, 0, 0x1005]
    let u := blk [0x60000000, 0, 0, 0, 0, 0]
    (FmReady (s b) b 6 true ∧ FmReady (s u) u 6 false) ∧ (s b).mach.setOk 1 5 = true ∧ (s b).mach.setOk 1 6 = false ∧
      (after (exec (.attachBind b .none) (s b))).mach.pages.map (fun x => (x.bound, x.set_, x.refcnt)) = [(true, 5, 2)] ∧
      (after (exec (.attachUnbind u .none) (s u))).mach.pages.map (·.bound) = [false] := by
  refine ⟨⟨⟨?_, ?_, ?_, ?_, ?_, ?_, ⟨⟨rfl, rfl⟩, rfl⟩⟩, ⟨?_, ?_, ?_, ?_, ?_, ?_, ⟨⟨rfl, rfl⟩, rfl⟩⟩⟩, ?_, ?_, ?_, ?_⟩ <;> decide +kernel

theorem test_meets_rebuild :
    Writable on Reg.BPM_CTL ∧ on.mach.rebuildRefused = false ∧ (fm 9 incr).mach.rebuildRefused = true ∧
      (after (exec .bpmRebuild on)).mach.pools.length = 8 ∧ (after (exec .bpmRebuild (fm 9 incr))).mach.flag Reg.BPM_CTL 1 = true ∧
      (after (exec .rebuildDone (after (exec .bpmRebuild on)))).mach.flag Reg.BPM_CTL 2 = true ∧ Writable on Reg.FMM_CHAN_RESTART ∧
      (after (exec (.fmmChanRestart 1) { mach := up.wr Reg.FMM_CHAN_HALT 3 })).mach.rd Reg.FMM_CHAN_HALT = 2 := by
  unfold Writable; decide +kernel

theorem test_held_lines_are_recalled :
    let s : State := { mach := { (fm 9 copy1).mach with jnk := { (fm 9 copy1).mach.jnk with held := [(1, true)] } } }
    s.mach.heldLines 64 1 false ≠ [] ∧ s.mach.heldLines 0 1 true = [] ∧
      (after (exec (.fmCopy copy1 .none) s)).mach.jnk.recalls.length = 1 ∧
      (after (exec (.fmCopy copy1 .none) s)).store.hbm = [] := by decide +kernel

/-! ### Fabric management (16) -/

theorem test_meets_port_control :
    Writable ported (Reg.SVC_PORT_CTL 0) ∧ prt.usable = true ∧ ({ prt with state := .down } : Port).usable = false ∧
      (after (exec (.quarantine 0 0x20000000) ported)).mach.ports.map (fun p => (p.state, p.cause)) = [(.quarantine, 6)] ∧
      (after (exec (.quarantine 0 0) ported)).mach.ports = [prt] ∧
      (after (exec (.accept 0 0x40000000) ported)).mach.ports.map (·.first) = [0] ∧
      (after (exec (.recheck 0 0x80000000) ported)).mach.ports.map (·.first) = [0] := by unfold Writable; decide +kernel

theorem test_meets_plan_grace :
    let s : State := { mach := { up.wr (Reg.SVC_PLAN_W0 0) 0x80000000 with ports := [{ prt with state := .down }] } } |> at_ (10 ^ 6 * 0xFFFF)
    s.mach.planned 0 = true ∧ (after (exec (.planGrace 0) s)).mach.ports.map (·.missing) = [true] ∧
      (after (exec (.planGrace 0) s)).mach.fld Reg.SVC_PLAN_MISSING 9 0 = 1 ∧ after (exec (.planGrace 0) ported) = ported := by
  decide +kernel

theorem test_meets_buttons :
    on.mach.awake = true ∧ on.mach.flag Reg.SVC_BEACON 30 = false ∧ on.mach.portGroups = [] ∧ ported.mach.portGroups = [0] ∧
      (after (exec .locate on)).mach.flag Reg.SVC_BEACON 30 = true ∧ (after (exec .locate on)).mach.fld Reg.SVC_BUTTON 31 24 = 1 ∧
      (after (exec .locate (after (exec .locate ported)))).mach.flag Reg.SVC_BEACON 28 = true ∧
      (after (exec .beaconTimeout (at_ (600 * 10 ^ 9) (after (exec .locate on))))).mach.flag Reg.SVC_BEACON 30 = false ∧
      (after (exec .isolate on)).mach.rd Reg.SVC_BTN_REFUSE_CNT = 1 := by decide +kernel

theorem test_isolate_by_button :
    let c : State := after (exec .locate (after (exec .locate ported)))
    let pr : State := { mach := c.mach.setFlag Reg.SVC_PROTECT 0 true }
    c.mach.fld Reg.SVC_BEACON 9 5 = 0 ∧ (after (exec .isolate c)).mach.ports.map (·.isoStep) = [1] ∧
      (after (exec .isolate pr)).mach.rd Reg.SVC_BTN_REFUSE_CNT = 1 ∧
      (after (exec .locate { mach := up.setFlag Reg.SVC_BEACON 29 true })).mach.flag Reg.SVC_BEACON 28 = true := by decide +kernel

/-- 17 R446: a word of a block whose code has changed is uncorrectable until it is written; the next block is not touched. -/
theorem test_wrong_code :
    let m := on.mach.setLong (Reg.ECC_SCR_LONG_C 0 0) 1
    (m.injRead 4 0 8 16).1 = .ue 4 0 8 ∧ (m.injRead 3 0 8192 8193).1 = .none ∧
      ((m.codeWritten 4 0 8 16).injRead 4 0 8 16).1 = .none ∧
      ((m.codeWritten 4 0 8 16).injRead 4 0 15 17).1 = .ue 4 0 16 ∧
      (m.setLong (Reg.ECC_SCR_LONG_C 0 0) 0).ecc.otherCode = [] := by decide

theorem test_meets_isolation :
    let i := after (exec (.svcIsolate 1) ported)
    Writable ported Reg.SVC_ISOLATE ∧ i.mach.ports.map (·.isoStep) = [1] ∧
      (after (exec (.isolationDrain 0) i)).mach.ports.map (·.isoStep) = [2] ∧
      (after (exec (.isolationLanesOff 0) (at_ 1000 (after (exec (.isolationDrain 0) i))))).mach.ports.map (·.state) = [.isolated] ∧
      i.mach.running = true := by unfold Writable; decide +kernel

/-! ### Stored data and faults (17, 18) -/

theorem test_meets_held_masks :
    let s : State := { mach := { up with cores := [{ core := 3, longHeld := [(Reg.ENG_SPARE, 7)] }] } }
    (s.mach.core 3).running = none ∧ (s.mach.core 3).longHeld ≠ [] ∧ (∀ q ∈ (s.mach.core 3).queue, q.held = true) ∧
      (after (exec (.scrLongApply 3) s)).mach.rd Reg.ENG_SPARE = 7 ∧ after (exec (.scrLongApply 4) s) = s := by decide

theorem test_meets_restarts_and_logs :
    let e : EccEntry := ⟨0, 0, 0, 0, 1, 0, 0⟩
    let s : State := { mach := { up.wr Reg.ECC_DMA_HALT 6 with ecc := { logs := [[e], [e]] } } }
    let h (r : Nat) : State := { mach := { up.wr r 3 with sw := { queues := [{ key := .port 0 4, pkts := [{ wait .sump 0 with failed := true }], pages := [2 ^ 24] }] } } }
    Writable s Reg.ECC_DMA_RESTART ∧ Writable s Reg.ECC_SUMP_RESTART ∧ Writable s Reg.ECC_LOG_CTL ∧
      (after (exec (.eccDmaRestart 2) s)).mach.rd Reg.ECC_DMA_HALT = 4 ∧
      (after (exec (.eccLogPop 0xC0000000) s)).mach.ecc.logs = [[e], []] ∧
      (after (exec (.eccSumpRestart 2) (h Reg.ECC_SUMP_HALT))).mach.rd Reg.ECC_SUMP_HALT = 1 ∧
      (after (exec (.eccSumpRestart 2) (h Reg.ECC_SUMP_HALT))).mach.sw.queues.map (fun q => q.pkts.map (·.failed)) = [[false]] := by
  unfold Writable; decide +kernel

theorem test_meets_retirement :
    let s : State := { mach := { up.wr Reg.ECC_RETIRE_ENTRY 0x40000003 with flt := { lanternReset := false } } }
    let b := after (exec (.retireCommit 0x40000000) (after (exec (.retireAdd 0x80000000) s)))
    Writable s Reg.ECC_RETIRE_CTL ∧ (after (exec (.retireAdd 0x80000000) s)).mach.ecc.retire = [(1, 3)] ∧ b.mach.ecc.busy = true ∧
      after (exec (.retireAdd 0x80000000) b) = b ∧ (after (exec (.retireCommitDone true) b)).mach.ecc.flash = [(1, 3)] ∧
      (after (exec (.retireCommitDone false) b)).mach.ecc.flash = [] ∧
      (after (exec (.retireAdd 0x80000000) { mach := s.mach.wr Reg.ECC_RETIRE_ENTRY 0x40000005 })).mach.flag Reg.ECC_RETIRE_CTL 28 = true := by
  unfold Writable; decide +kernel

/-- Group 20 latched at FC2 with its timer running. -/
def latched2 (pins : List Pin) : State :=
  { mach := { (up.setFsw 20 true).setGclass 20 2 with flt := { timers := [(20, 0)], pins, latched := [(20, 0, 0)], lanternReset := false } } }

theorem test_meets_escalation :
    (∃ t ∈ (latched2 []).mach.flt.timers, t.1 = 20) ∧ (latched2 []).mach.gclass 20 = 2 ∧ (latched2 []).mach.awake = true ∧
      (after (exec (.snufferExpiry 20) (latched2 []))).mach.gclass 20 = 3 ∧
      (after (exec (.snufferExpiry 20) (latched2 []))).mach.flt.fences = [20] ∧
      (after (exec (.snufferExpiry 20) (at_ (10 ^ 9) (after (exec (.snufferExpiry 20) (latched2 [])))))).mach.flt.safe = true ∧
      after (exec (.snufferExpiry 21) (latched2 [])) = latched2 [] := by decide +kernel

theorem test_meets_fault_clear :
    Writable (latched2 []) Reg.FLT_FSW_LO ∧ Writable (latched2 []) Reg.FLT_FSW_HI ∧ (latched2 []).mach.fsw 20 = true ∧
      (after (exec (.fswClear false 0x100000) (latched2 []))).mach.fsw 20 = false ∧
      (after (exec (.fswClear false 0x100000) (latched2 [⟨20, 2, 0, 0⟩]))).mach.fsw 20 = true ∧
      (after (exec (.fswClear false 0x100000) (latched2 [⟨20, 2, 0, 0⟩]))).mach.rd Reg.FLT_CLR_REFUSE_CNT = 1 ∧
      after (exec (.fswClear false 1) (latched2 [])) = latched2 [] := by unfold Writable; decide +kernel

theorem test_meets_watchdog :
    Writable on Reg.FLT_WDOG ∧ (after (exec (.wdogKick 0x80000000) on)).mach.flt.wdogMs = 1 ∧
      (after (exec (.wdogKick 0x80003FFF) on)).mach.flt.wdogMs = 16383 ∧
      (after (exec .wdogExpiry (at_ (10 ^ 12) (latched2 [])))).mach.flt.lanternReset = true ∧ after (exec .wdogExpiry on) = on ∧
      Writable on Reg.FLT_CTL ∧ (after (exec (.lanternRestart 0x08000000) on)).mach.flt.lanternVerify = true ∧
      (after (exec (.lanternVerifyDone false) { mach := { up with flt := { lanternVerify := true } } })).mach.flt.lanternReset = true := by
  unfold Writable; decide +kernel

theorem test_meets_injection_arming :
    let s : State := { mach := up.setFlag Reg.FLT_CTL 29 true }
    Writable s Reg.FLT_INJ ∧ (after (exec (.fltInjGo 0x80000000) s)).mach.flt.injections = [(0, 0, 0, 0, 1)] ∧
      (after (exec (.fltInjGo 0x80000000) on)).mach.flt.injections = [] ∧ (after (exec (.fltInjGo 0xE0000000) s)).mach.flt.safe = false ∧
      (after (exec (.fltInjGo 0xE0000000) { mach := s.mach.setFlag Reg.FLT_CTL 28 true })).mach.flt.safe = true := by
  unfold Writable; decide +kernel

/-! ### Resets and bring-up (19) -/

/-- The module at a bring-up stage. -/
def atStage (n : Nat) : State := { mach := ({} : Mach).setFld Reg.BOOT_STATUS 31 28 n }

theorem test_meets_resets :
    let s : State := { mach := up.setFlag Reg.BOOT_STATUS 23 true, store := { hbm := [(7, 1)], scratch := [(7, 1)] } }
    let r := after (exec (.resetAssert false) s)
    let w := after (exec (.resetAssert true) s)
    r.mach.boot.resetN = true ∧ r.store = {} ∧ w.mach.boot.warmN = true ∧ w.store = { hbm := [(7, 1)] } ∧
      (after (exec (.resetAssert true) on)).store = {} ∧ (after (exec (.resetRelease 0) r)).mach.boot.resetN = false ∧
      (after (exec (.resetRelease 0x2A) r)).mach.rd Reg.SVC_STRAPS = 0x2A ∧ r.mach.pwr.lost = false ∧
      (after (exec (.warmResetRelease 0) w)).mach.flag Reg.BOOT_STATUS 24 = true ∧ w.mach.flag Reg.BOOT_STATUS 23 = true := by
  decide +kernel

theorem test_power_on_and_safe_state :
    let safe : State := { mach := { up with flt := { safe := true } } }
    after (exec (.resetAssert false) safe) = safe ∧ (after (exec .powerOn on)).mach.boot.resetN = true ∧
      after (exec (.resetRelease 0) on) = on ∧ after (exec (.warmResetRelease 0) on) = on := by decide +kernel

theorem test_meets_stages :
    let ok : StageRep := {}
    let bad : StageRep := { result := 3, cause := 5 }
    let next (n : Nat) (r : StageRep) : Nat := (after (exec (.stageEnd r {}) (atStage n))).mach.stage
    (atStage 0).mach.staging = true ∧ on.mach.staging = false ∧ next 1 ok = 2 ∧ next 5 ok = 6 ∧
      next 3 ok = 4 ∧ next 4 ok = 5 ∧ next 6 ok = 7 ∧ (after (exec (.stageEnd bad {}) (atStage 0))).mach.halted = true ∧
      (after (exec (.stageEnd bad {}) (atStage 4))).mach.halted = true ∧
      (after (exec (.stageEnd ok {}) { mach := (atStage 1).mach.wr Reg.SVC_STRAPS 0x3000 })).mach.halted = true := by decide +kernel

theorem test_stage_waits_and_times_out :
    (imgFails 0 []).isSome = true ∧ (after (exec (.stageEnd {} {}) (atStage 2))).mach.boot.waitingImage = true ∧
      (after (exec .stageTimeout (at_ 60000000 (atStage 3)))).mach.halted = true ∧ after (exec .stageTimeout (at_ 59999999 (atStage 3))) = at_ 59999999 (atStage 3) ∧
      (after (exec (.stageEnd {} {}) { mach := { (atStage 7).mach with boot := { agentsFailed := [552] } } })).mach.halted = true := by
  decide +kernel

theorem test_meets_agents :
    let s (l : List (Nat × Nat)) : State := { mach := { (atStage 7).mach with boot := { resends := l } } }
    (after (exec (.agentTimeout 9) (s []))).mach.boot.resends = [(9, 1)] ∧
      (after (exec (.agentTimeout 9) (s [(9, 1)]))).mach.boot.resends = [(9, 2)] ∧
      (after (exec (.agentTimeout 9) (s [(9, 2)]))).mach.boot.agentsFailed = [9] ∧
      (after (exec (.agentTimeout 563) (s []))).mach.boot.resends = [(563, 1)] ∧
      after (exec (.agentTimeout 564) (s [])) = s [] := by decide +kernel

/-- Core 0 present, with a power budget for its test. -/
def testable : Mach :=
  { (up.setFlag Reg.ENG_PRESENT 0 true).setFld Reg.BST_BUDGET 19 10 38 with flt := { lanternReset := false } }

theorem test_meets_bist :
    Writable on Reg.BST_REQ ∧ testable.bistBar 44 = none ∧ (testable.setFld Reg.BST_BUDGET 19 10 37).bistBar 44 = some (10, 0) ∧
      testable.bistBar 45 = some (4, 0) ∧ testable.bistBar 35 = some (0, 0) ∧ testable.bistBar 76 = some (0, 0) ∧
      (after (exec (.bstReq 0x8000002C) { mach := testable })).mach.boot.bist = some 44 ∧
      (after (exec (.bstReq 0x8000002D) { mach := testable })).mach.rd Reg.BST_REFUSE_CNT = 1 := by unfold Writable; decide +kernel

theorem test_bist_slices_and_end :
    let b (n : Nat) : State := { mach := { (testable.setFld Reg.BST_STATUS 20 7 n) with boot := { bist := some 44 } },
                                 store := { scratch := [(5, 1), (8388608, 2)], prog := [(1, 1)] } }
    (after (exec .bistSlice (b 3))).mach.fld Reg.BST_STATUS 20 7 = 2 ∧ after (exec .bistSlice (b 0)) = b 0 ∧
      (b 3).mach.calPermits 29 = true ∧ (b 3).mach.runningEntry = none ∧
      (after (exec (.bistEnd true 0) (b 0))).store = { scratch := [(8388608, 2)] } ∧
      (after (exec (.bistEnd false 0) (b 0))).mach.boot.bist = none ∧ after (exec (.bistEnd true 0) (b 1)) = b 1 := by decide +kernel

/-! ### Identity, firmware, power (20, 21) -/

theorem test_meets_security :
    let q : State := { mach := { up with sec := { quoting := true } } }
    Writable on Reg.SEC_CTL ∧ Writable on Reg.SEC_FW_CTL ∧ (after (exec (.extend 0x80000005) on)).mach.rd Reg.SEC_ERR_CNT = 1 ∧
      (after (exec (.extend 0x80000006) q)).mach.sec.extends_ = [6] ∧ (after (exec (.quote 0x40000000) on)).mach.sec.quoting = true ∧
      (after (exec (.quote 0x40000000) q)).mach.flag Reg.SEC_CTL 27 = true ∧
      (after (exec (.arbAdvance 0x20000000) on)).mach.flag Reg.SEC_CTL 26 = true ∧ q.mach.awake = true ∧
      after (exec .quoteDone on) = on := by unfold Writable; decide +kernel

theorem test_meets_push :
    let r : State := { mach := { up with flt := { lanternReset := false } } }
    let p := after (exec (.fwPush 0x80000000) r)
    r.mach.flag Reg.SEC_FW_CTL 30 = false ∧ r.mach.ownWindow 0 0 = false ∧ p.mach.flag Reg.SEC_FW_CTL 30 = true ∧
      p.mach.fld Reg.SEC_FW_CTL 26 24 = 1 ∧ imgFails 0 [] ≠ none ∧
      (after (exec (.pushPhaseDone .fetch []) p)).mach.flag Reg.SEC_FW_CTL 30 = false ∧
      (after (exec (.fwPush 0x80000000) { mach := r.mach.wr Reg.SEC_FW_ADDR_LO 1 })).mach.free = 1 ∧
      (after (exec (.fwPush 0x80000000) on)).mach.flag Reg.SEC_FW_CTL 30 = false ∧ on.mach.flt.lanternReset = true := by decide +kernel

theorem test_meets_levels :
    let t (d : BitVec 3) (x : Byte) : State := after (exec (.thermalCap d x) on)
    Writable on Reg.PWR_LEVEL_REQ ∧ on.mach.pwr.brake = false ∧ (t 4 106).mach.pwr.thermal = [0, 0, 0, 0, 1, 0] ∧
      (t 4 105).mach.pwr.thermal = [0, 0, 0, 0, 0, 0] ∧ (t 0 106).mach.pwr.thermal = [1, 0, 0, 0, 0, 0] ∧
      (t 4 115).mach.flt.pins = [] ∧ (t 4 116).mach.flt.pins.map (·.group) = [33] ∧
      (after (exec (.thermalCap 4 99) (t 4 106))).mach.pwr.thermal = [0, 0, 0, 0, 0, 0] ∧
      (after (exec .brakeAssert on)).mach.effLevel 4 = 3 ∧ (after (exec .brakeRelease (after (exec .brakeAssert on)))).mach.effLevel 4 = 0 ∧
      (after (exec .thermTrip on)).mach.pwr.thermTrip = true := by unfold Writable; decide +kernel

theorem test_meets_power_caps_and_steps :
    let cap : Mach := up.setFld Reg.PWR_CAP 10 0 1000
    let run (a b : Nat) : Mach := { up with pwr := { brake := true, run := [0, 0, 0, 0, a, 0], volt := [0, 0, 0, 0, b, 0] } }
    (cap.powerMove 950).pwr.above = 0 ∧ (cap.powerMove 1001).pwr.power = 1 ∧
      (Mach.powerMove { cap with pwr := { above := 9 } } 1001).pwr.power = 0 ∧
      (Mach.powerMove { cap with pwr := { above := 10, power := 5 } } 1001).rd Reg.PWR_CAP_MISS_CNT = 1 ∧
      (after (exec (.powerCap 1001 0) { mach := cap })).mach.pwr.samples = [1001] ∧
      (after (exec (.levelStep 4) { mach := run 0 0 })).mach.pwr.step = [0, 0, 0, 0, 1, 0] ∧
      (after (exec (.levelStep 4) { mach := run 3 0 })).mach.pwr.volt = [0, 0, 0, 0, 3, 0] ∧
      (after (exec (.levelStep 4) { mach := run 4 4 })).mach.pwr.volt = [0, 0, 0, 0, 3, 0] := by decide +kernel

theorem test_meets_domains :
    let off := after (exec (.pwrDomainOff 1 0x1000) on)
    let back := after (exec (.pwrDomainOff 1 0) off)
    Writable on (Reg.PWR_DOMAIN_OFF_W 1) ∧ up.domainOff 44 = false ∧ up.domainBar 44 = none ∧ up.domainBar 76 = some (9, 76) ∧
      off.mach.domainOff 44 = true ∧ back.mach.pwr.starting = [44] ∧
      (after (exec (.domainOnDone 44) back)).mach.domainOff 44 = false ∧ after (exec (.domainOnDone 45) back) = back ∧
      (after (exec (.pwrDomainOff 1 0x1000) { mach := { up with cores := [{ core := 0, running := some prog }] } })).mach.rd
        Reg.PWR_REFUSE_CNT = 1 := by unfold Writable; decide +kernel

theorem test_meets_module_states :
    let m2 := after (exec (.stateReqM2 0x80000002) on)
    let asleep : State := { mach := { up.setFld Reg.PWR_STATUS 31 30 2 with pwr := { wakeCfg := 2 ^ 31 } } }
    Writable on Reg.PWR_STATE_REQ ∧ up.entryBar 2 = none ∧ layered.mach.entryBar 2 = some (4, 44) ∧
      m2.mach.pwr.entering = some ⟨2, 0, 1⟩ ∧ after (exec (.stateReqM3 0x00000003) on) = on ∧
      (after (exec (.stateReqM2 0x80000002) layered)).mach.rd Reg.PWR_REFUSE_CNT = 1 ∧ asleep.mach.awake = false ∧
      asleep.mach.mstate = 2 ∧ (after (exec .wake asleep)).mach.mstate ≠ 2 ∧
      (after (exec .wake on)).mach.fld Reg.SVC_BUTTON 15 8 = 1 := by unfold Writable; decide +kernel

theorem test_meets_supply :
    let lost := after (exec (.powerLoss 9) on)
    let cfg : State := { mach := { up with pwr := { wakeCfg := 2 ^ 30 + 4 * 2 ^ 8 } } }
    lost.mach.pwr.lost = true ∧ lost.mach.fld Reg.PWR_VIN 15 0 = 9 ∧ after (exec (.powerLoss 8) lost) = lost ∧
      (after (exec (.vinReturn 3) lost)).mach.pwr.lost = false ∧ after (exec (.vinReturn 3) on) = on ∧
      (after (exec (.wakeVin 1000) cfg)).mach.fld Reg.PWR_VIN 15 0 = 1000 ∧
      (after (exec (.wakeTemp 0 5) on)).mach.temp 0 = 5 := by decide +kernel

/-! ### Register map and board (22, 23) -/

theorem test_meets_windows_and_locks :
    let w : State := { mach := up.wr Reg.GLB_FMW_BASE_HI 0x80 }
    Writable on Reg.GLB_WIN_CTL ∧ Writable on Reg.GLB_LOCK ∧ (after (exec (.glbWinValid 0x80000000) w)).mach.flag Reg.GLB_WIN_CTL 31 = true ∧
      (after (exec (.glbWinValid 0x80000000) on)).mach.flag Reg.GLB_WIN_CTL 30 = true ∧
      (after (exec (.lockFeat 1) on)).mach.rd Reg.GLB_LOCK = 1 ∧ (after (exec (.lockJtag 4) on)).mach.rd Reg.GLB_LOCK = 4 ∧
      (after (exec (.lockInj 2) { mach := { up.setFlag Reg.FLT_CTL 29 true with flt := { injections := [(0, 0, 0, 0, 1)] } } })).mach.flt.injections
        = [] := by unfold Writable; decide +kernel

theorem test_meets_board_faults :
    on.mach.stage = 9 ∧ after (exec .pllLockLoss (atStage 1)) = atStage 1 ∧
      on.mach.boot.resetN = false ∧ after (exec (.railOutOfRegulation 0) { mach := { up with pwr := { lost := true } } }) =
        { mach := { up with pwr := { lost := true } } } ∧
      (after (exec (.pmbusCommand 0x98) on)).mach.out = [.pmbus (some 0x33)] ∧
      (after (exec (.pmbusCommand 0x77) on)).mach.out = [.pmbus none] := by decide

theorem test_tap :
    (after (exec (.tapInstruction .bypass 5) on)).mach.out = [.tap .bypass 10] ∧
      (after (exec (.tapInstruction .preload 5) on)).mach.tap = 5 ∧
      after (exec (.tapInstruction (.test 3) 5) { mach := up.wr Reg.GLB_LOCK 4 }) = { mach := up.wr Reg.GLB_LOCK 4 } ∧
      (match exec (.tapInstruction (.test 3) 5) on with
        | .refused r => r == .tapPrivate
        | _ => false) = true ∧ isTestTap (.tapInstruction (.test 3) 5) = true ∧ isTestTap (.tapInstruction .idcode 5) = false := by
  decide

/-! ### The machine as a whole -/

theorem test_meets_replay : timed.mach.timePort 0 = true ∧ timed.mach.rd Reg.TIM_ERR_CNT = 0 ∧
    (after (exec (.sync 0 0 0x531 1 2 0 true) { mach := timed.mach.wr Reg.TIM_ERR_CNT 0xFFFFFFFF })).mach.rd Reg.TIM_ERR_CNT =
      0xFFFFFFFF := by decide

theorem test_meets_holes :
    (regDesc? 0x240000).isNone = true ∧ (regDesc? 0x23FFFF).isNone = true ∧ (regDesc? (Reg.TRL_FI_CTL 0)).map (·.port) = some true ∧
      jn.mach.port? 0 = none ∧ regDomain (Reg.LNE_LANE_CTL 0) ≠ none ∧ (regDesc? (Reg.LNE_LANE_CTL 0)).isSome = true ∧
      (up.setFlag (Reg.PWR_DOMAIN_STAT_W 0) 0 true).domainOff 0 = true := by decide +kernel

theorem test_meets_step : step { on with pending := [.thermTrip, .locate] } = exec .thermTrip { on with pending := [.locate] } ∧
    step on = .next on.tick := ⟨rfl, rfl⟩

theorem test_meets_invariant : on.Inv ∧ layered.Inv ∧ ¬({ store := { hbm := [(1, 0)] } } : State).Inv ∧
    ¬({ store := { hbm := [(2, 1), (1, 1)] } } : State).Inv := by
  unfold State.Inv; decide

theorem test_table_words_give_no_bits : decodeTableWord 8 5 = none ∧ on.withFetchWord 8 5 = on := ⟨rfl, rfl⟩

/-! ### Ill-formed commands -/

theorem test_ill_formed_packets :
    let p := { rq with length := 1 }
    rq.wf = true ∧ p.wf = false ∧ (Instr.contrib 0 p .none).wf = false ∧ (Instr.partialIn 0 p).wf = false ∧
      (Instr.resultFromSpine 0 p).wf = false ∧ (Instr.packetIngress 0 p 1 false false .none).wf = false ∧
      (Instr.mgmtSend {} p).wf = false ∧ (Instr.mgmtSendRoute {} p).wf = false ∧ ({ res with trailer := [] } : Packet).wf = false ∧
      (FmSrc.endpoint p).wf = false ∧ (FmSrc.ring 0 0 [] []).wf = false ∧ (blk []).wf = true ∧
      (FmSrc.ring 0 0 (List.replicate 16 0) [1]).wf = false := by decide

theorem test_ill_formed_descriptors :
    let d : TuDesc := { inline := List.replicate 9 0 }
    (Instr.grpCreate {} []).wf = true ∧ (Instr.grpCreate {} [1]).wf = false ∧ (Instr.layLoad {} [1]).wf = false ∧
      (Instr.layExpmap {} [1]).wf = false ∧ (Instr.progLoad {} [1]).wf = false ∧ (Instr.rteLoad {} [1]).wf = false ∧
      (∀ c ∈ [Instr.grpAdd d, .grpRemove d, .grpDestroy d, .laySessionOpen d, .laySessionClose d, .laySessionCloseForce d, .galReset d,
        .galResetPort d, .rteSync d, .dgtWeight d, .dgtWeightClear d, .mgmtSend d mg, .grpCreate d []], c.wf = false) := by decide

theorem test_ill_formed_fabric_memory :
    let f := FmSrc.ring 0 0 [] []
    ∀ c ∈ [Instr.alloc f .none, .allocZero f .none, .incref f .none, .decref f .none, .fmRead f .none, .readMcast f .none,
      .fmWrite f .none, .fmCopy f .none, .attachBind f .none, .attachUnbind f .none], c.wf = false := by decide

theorem test_ill_formed_engines :
    (Instr.jmp 0 3 {} .none).wf = false ∧ (Instr.vad 0 2 {} .none).wf = false ∧ (Instr.vmu 0 2 {} .none).wf = false ∧
      (Instr.vfm 0 2 {} .none).wf = false ∧ (Instr.jmp 0 2 {} .none).wf = true ∧ (Instr.vmx 0 3 {} .none).wf = true ∧
      (Instr.progStart 0 0 []).wf = false := by decide

theorem test_ill_formed_messages :
    (∀ c ∈ [Instr.wrFull {} [], .wb {} [], .cmpD 0 false [], .cmpS 0 false [], .snpRspd 0 [], .flitRx 0 [] false [], .linkFlit 0 {},
      .ident 0 {}, .linkKey 0 [], .challenge 0 [], .response 0 []], c.wf = false) ∧
      (Instr.jnkLinkUp 3).wf = false ∧ (Instr.rngEnable 65).wf = false ∧ (Instr.rngEnable 64).wf = true ∧ (Instr.jnkInt 65 true).wf = false := by
  decide

theorem test_ill_formed_numbers :
    (Instr.snufferExpiry 39).wf = false ∧ (Instr.snufferExpiry 38).wf = true ∧ (Instr.agentTimeout 564).wf = false ∧
      (Instr.agentTimeout 563).wf = true ∧ (Instr.pwrDomainOff 3 0).wf = false ∧ (Instr.domainOnDone 88).wf = false ∧
      (Instr.domainOnDone 87).wf = true ∧ (Instr.levelStep 6).wf = false ∧ (Instr.levelStep 5).wf = true ∧
      (Instr.stageEnd { detail := List.replicate 9 0 } {}).wf = false ∧ (Instr.stageEnd {} { positions := [40] }).wf = false := by decide

end Sys2Proof.Tests
end

/-! PROOFS. Every step keeps the canonical form of the memories: first the shapes that the model's meanings share (a guard, the
data path, an engine instruction, a fabric-memory command, a window line), then each command that writes a memory. -/
namespace Sys2Proof.Machine

/-! ### Outcomes, and results of a machine with its memories -/

/-- The memories of a result are canonical. -/
def ResWf (r : Mach × Store) : Prop := Memory.wf r.2 = true

/-- The memories of every state that an outcome goes on to are canonical. -/
def OutcomeInv (o : Host.Outcome State Fault Refusal) : Prop := ∀ t, o = .next t → t.Inv

theorem next_inv {t : State} (h : t.Inv) : OutcomeInv (.next t) := by
  rintro _ ⟨⟩
  exact h

theorem runM_inv {s : State} (h : s.Inv) (f : Store → Mach → Mach) : OutcomeInv (s.runM f) := next_inv h

theorem runMS_inv {s : State} {f : Store → Mach → Mach × Store} (h : ResWf (f s.store s.mach)) : OutcomeInv (s.runMS f) :=
  next_inv h

/-- A guard: the proofs below give the branches of a meaning in its own order, `h` where it leaves the memories alone. -/
theorem resWf_ite {c : Prop} [Decidable c] {a b : Mach × Store} (ha : ResWf a) (hb : ResWf b) : ResWf (if c then a else b) := by
  split
  · exact ha
  · exact hb

/-! ### Engine instructions -/

/-- The memories that an instruction leaves, whichever way it ends. -/
def EngRes.store : EngRes → Store
  | .done _ st | .jump _ st _ | .stay _ st | .trap _ st _ _ _ => st

/-- The memories that an instruction leaves are canonical. -/
def EngRes.Wf (r : EngRes) : Prop := Memory.wf r.store = true

theorem engResWf_ite {c : Prop} [Decidable c] {a b : EngRes} (ha : a.Wf) (hb : b.Wf) : (if c then a else b).Wf := by
  split
  · exact ha
  · exact hb

theorem engEnd_wf {r : EngRes} (h : r.Wf) (e : Eng) (word : Nat) : ResWf (Mach.engEnd e word r) := by
  cases r <;> exact h

theorem wf_of_engEnd_eq {r : EngRes} (h : r.Wf) {e : Eng} {word : Nat} {m : Mach} {st : Store}
    (he : Mach.engEnd e word r = (m, st)) : Memory.wf st = true := by
  have hr := engEnd_wf h e word
  rw [he] at hr
  exact hr

section
variable {st : Store} (h : Memory.wf st = true)
include h

/-- Whatever the fetch finds, a stop before the body leaves the memories alone, and otherwise the body decides them. -/
theorem engRun_wf {m : Mach} {core : BitVec 5} {opc mode : Nat} {i : EngOp} {err : HwErr} {unit : Nat}
    {body : Eng → Mach → Store → EngRes} (hb : ∀ e m, (body e m st).Wf) :
    ResWf (m.engRun st core opc mode i err unit body) := by
  unfold Mach.engRun
  dsimp only
  split
  · exact h
  · refine resWf_ite h (resWf_ite h ?_)
    split
    · refine resWf_ite h (resWf_ite h (resWf_ite h ?_))
      split
      · rename_i heq
        exact engEnd_wf (heq ▸ hb _ _) _ _
      · exact h
    · refine resWf_ite h (resWf_ite h ?_)
      split
      · rename_i heq
        exact engEnd_wf (heq ▸ hb _ _) _ _
      · refine resWf_ite h ?_
        split
        · rename_i heq _
          exact wf_of_engEnd_eq (hb _ _) heq
        · exact engEnd_wf (hb _ _) _ _

end

theorem engine_inv {s : State} (h : s.Inv) {core : BitVec 5} {opc mode : Nat} {i : EngOp} {err : HwErr} {unit : Nat}
    {body : Eng → Mach → Store → EngRes} (hb : ∀ e m, (body e m s.store).Wf) :
    OutcomeInv (s.engine core opc mode i err unit body) :=
  runMS_inv (resWf_ite (engRun_wf h hb) h)

/-! ### What the bodies of engine instructions share -/

section
variable {st : Store} (h : Memory.wf st = true)
include h

theorem moved_wf (e : Eng) (m : Mach) (bytes : Nat) (loaded : Bool) : (e.moved m st bytes loaded).Wf := by
  have hp : ResWf (e.postInc m st bytes loaded) :=
    resWf_ite h (resWf_ite (setX_wf h _ _ _) (setX_wf h _ _ _))
  exact hp

theorem loadV_wf (e : Eng) (m : Mach) (src : Nat) : (e.loadV m st src).Wf := by
  refine engResWf_ite h (engResWf_ite h ?_)
  split
  · exact h
  · exact moved_wf (setV_wf h _ _ _ _) _ _ _ _

theorem storeV_wf (e : Eng) (m : Mach) (dst : Nat) : (e.storeV m st dst).Wf :=
  engResWf_ite h (engResWf_ite h (moved_wf (setScr_wf h _ _ _) _ _ _ _))

theorem startDma_wf (e : Eng) (m : Mach) (toHbm : Bool) : (e.startDma m st toHbm).Wf := by
  refine engResWf_ite h (engResWf_ite h (engResWf_ite h ?_))
  split
  · exact h
  · exact moved_wf h _ _ _ _

theorem waitOpDone_wf (m : Mach) (k d : Nat) (status : Status) : (m.waitOpDone st k d status).Wf := setX_wf h _ _ _

theorem dmaReport_wf (m : Mach) (c : Core) (tag : Nat) : (m.dmaReport st c tag).Wf := by
  unfold Mach.dmaReport
  dsimp only
  split
  · exact h
  · exact engResWf_ite h h

theorem vecOut_wf (e : Eng) (m : Mach) (d off : Nat) (rs : List VRes) : (e.vecOut m st d off rs).Wf := setV_wf h _ _ _ _

theorem scalarOut_wf (e : Eng) (m : Mach) (xs : List Word) (r : VRes) : (e.scalarOut m st xs r).Wf := by
  have hx := setX_wf h e.k e.i.d.toNat r.bits
  unfold Eng.scalarOut
  dsimp only
  split
  · exact hx
  · split
    · exact hx
    · exact hx

theorem foldl_setScr_wf {α : Type} (k : Nat) (addr : α → Nat) (bs : α → List Byte) (l : List α) :
    Memory.wf (l.foldl (fun a x => a.setScr k (addr x) (bs x)) st) = true :=
  List.foldlRecOn (motive := fun a => Memory.wf a = true) l _ h fun _ ha _ _ => setScr_wf ha _ _ _

theorem binary_wf (e : Eng) (m : Mach) (scalar : Bool) (f : Word → Word → VRes) : (e.binary m st scalar f).Wf :=
  engResWf_ite h (vecOut_wf h _ _ _ _ _)

theorem unary_wf (e : Eng) (m : Mach) (f : Word → VRes) : (e.unary m st f).Wf := engResWf_ite h (vecOut_wf h _ _ _ _ _)

theorem send_wf (e : Eng) (m : Mach) (mode : Nat) : (e.send m st mode).Wf := by
  refine engResWf_ite h (engResWf_ite h ?_)
  split
  · exact h
  · refine engResWf_ite h ?_
    split
    · exact h
    · exact h

end

/-! ### Engine instructions with a body of their own (05 R130) -/

section
variable {s : State} (h : s.Inv) (core : BitVec 5) (i : EngOp) (err : HwErr)
include h

theorem execWaitOp_inv : OutcomeInv (execWaitOp core i err s) := by
  refine engine_inv h fun e m => ?_
  dsimp only
  split
  · exact waitOpDone_wf h _ _ _ _
  · exact h

theorem execTldScratchX_inv : OutcomeInv (execTldScratchX core i err s) := by
  refine engine_inv h fun e m => engResWf_ite h (engResWf_ite h ?_)
  split
  · exact h
  · exact moved_wf (setXs_wf h _ _ _) _ _ _ _

theorem execTldSlot_inv : OutcomeInv (execTldSlot core i err s) := by
  refine engine_inv h fun e m => ?_
  dsimp only
  split
  · exact h
  · exact engResWf_ite h (moved_wf (setV_wf h _ _ _ _) _ _ _ _)

theorem execTldSlotX_inv : OutcomeInv (execTldSlotX core i err s) := by
  refine engine_inv h fun e m => ?_
  dsimp only
  split
  · exact h
  · exact engResWf_ite h (moved_wf (setXs_wf h _ _ _) _ _ _ _)

theorem execDgs_inv : OutcomeInv (execDgs core i err s) := by
  refine engine_inv h fun e m => engResWf_ite h (engResWf_ite h ?_)
  split
  · exact h
  · exact setX_wf (setX_wf h _ _ _) _ _ _

theorem execQnt_inv : OutcomeInv (execQnt core i err s) :=
  engine_inv h fun _ _ => engResWf_ite h (engResWf_ite h (engResWf_ite h
    (addX_wf (addX_wf (foldl_setScr_wf h _ _ _ _) _ _ _) _ _ _)))

theorem execDqtDecode_inv : OutcomeInv (execDqtDecode core i err s) := by
  refine engine_inv h fun e m => engResWf_ite h (engResWf_ite h (engResWf_ite h ?_))
  split
  · exact h
  · exact setV_wf h _ _ _ _

theorem execMma_inv : OutcomeInv (execMma core i err s) := by
  refine engine_inv h fun e m => engResWf_ite h (engResWf_ite h (engResWf_ite h (engResWf_ite h ?_)))
  split
  · exact h
  · split
    · exact h
    · exact setV_wf h _ _ _ _

end

/-! ### Commands of the cores outside an instruction -/

section
variable {st : Store} (h : Memory.wf st = true) (m : Mach)
include h

theorem dmaEnd_wf (k : Nat) (d : Dma) (err : HwErr) : ResWf (m.dmaEnd st k d err) := by
  refine resWf_ite h ?_
  split
  · exact h
  · exact resWf_ite (hbmPut_wf h _ _) (setScr_wf h _ _ _)

theorem startLayer_wf (k : Nat) (q : Start) (x : Session) : ResWf (m.startLayer st k q x) := by
  unfold Mach.startLayer
  split
  · split
    · exact h
    · exact startRegs_wf h _ _
  · exact startRegs_wf h _ _

end

section
variable {s : State} (h : s.Inv)
include h

theorem execWaitRelease_inv (core : BitVec 5) : OutcomeInv (execWaitRelease core s) := by
  refine runMS_inv ?_
  dsimp only
  split
  · refine resWf_ite h ?_
    split
    · split
      · exact engEnd_wf (waitOpDone_wf h _ _ _ _) _ _
      · exact h
    · exact resWf_ite h (engEnd_wf (dmaReport_wf h _ _ _) _ _)
    · exact resWf_ite h h
    · exact h
  · exact h

theorem execQueuedStart_inv (core : BitVec 5) (err : HwErr) : OutcomeInv (execQueuedStart core err s) := by
  refine runMS_inv ?_
  dsimp only
  split
  · exact h
  · refine resWf_ite h ?_
    split
    · exact startRegs_wf h _ _
    · split
      · exact h
      · exact startLayer_wf h _ _ _ _
      · exact startLayer_wf h _ _ _ _

theorem execBistEnd_inv (pass : Bool) (signature : Quad) : OutcomeInv (execBistEnd pass signature s) := by
  obtain ⟨-, hscratch, -, -, hprog, -, -⟩ := (memory_wf_iff s.store).1 h
  refine runMS_inv ?_
  split
  · exact h
  · exact resWf_ite h (resWf_ite h (resWf_ite (wf_prog (wf_scratch h (sclear_wf hscratch _ _)) (sclear_wf hprog _ _)) h))

end

/-! ### Layers, programs and route banks (06, 08 R226, 13 R354) -/

section
variable {st : Store} (h : Memory.wf st = true) (m : Mach) (d : TuDesc) (data : List Word)
include h

theorem tuCmdS_wf {m : Mach} {opc : Nat} {d : TuDesc} {f : Mach → Mach × Store} (hf : ∀ m, ResWf (f m)) :
    ResWf (m.tuCmdS st opc d f) :=
  resWf_ite (hf _) h

theorem layExpmap_wf : ResWf (m.layExpmap st d data) := by
  obtain ⟨-, -, -, -, -, hexpmap, -⟩ := (memory_wf_iff st).1 h
  exact resWf_ite h (resWf_ite h (wf_expmap h (sputs_wf hexpmap _)))

theorem sessionOpen_wf : ResWf (m.sessionOpen st d) := by
  obtain ⟨-, hscratch, -⟩ := (memory_wf_iff st).1 h
  exact resWf_ite h (resWf_ite h (resWf_ite h (resWf_ite h (wf_scratch h (sclear_wf hscratch _ _)))))

theorem progLoad_wf : ResWf (m.progLoad st d data) := by
  obtain ⟨-, -, -, -, hprog, -, -⟩ := (memory_wf_iff st).1 h
  exact resWf_ite h (resWf_ite h (wf_prog h
    (List.foldlRecOn (motive := fun c => swf zeroCell c = true) _ _ hprog fun _ hc _ _ => sputs_wf hc _)))

theorem rteLoad_wf : ResWf (m.rteLoad st d data) := by
  obtain ⟨-, -, -, -, -, -, hroute⟩ := (memory_wf_iff st).1 h
  exact resWf_ite h (resWf_ite h (resWf_ite h (wf_route h (sputs_wf hroute _))))

theorem galReset_wf (g : Nat) : ResWf (m.galReset st g) := by
  obtain ⟨-, hscratch, -⟩ := (memory_wf_iff st).1 h
  exact wf_scratch h (foldl_sclear_wf hscratch _ _ _)

theorem galResetCmd_wf : ResWf (m.galResetCmd st d) := resWf_ite h (resWf_ite h (galReset_wf h m _))

/-- A parked command runs again as it would have run when it was taken. -/
theorem rerun_wf (w : TuWait) : ResWf (m.rerun st w) :=
  resWf_ite h (resWf_ite (layExpmap_wf h _ _ _) (resWf_ite h (resWf_ite (rteLoad_wf h _ _ _)
    (resWf_ite h (resWf_ite (progLoad_wf h _ _ _) (resWf_ite (galResetCmd_wf h _ _) h))))))

end

section
variable {s : State} (h : s.Inv)
include h

theorem execParkedRelease_inv (index : BitVec 3) : OutcomeInv (execParkedRelease index s) := by
  refine runMS_inv ?_
  split
  · exact h
  · have hr := fun m => rerun_wf h m
    exact resWf_ite h (resWf_ite (hr _ _) (hr _ _))

theorem execRteSyncDone_inv : OutcomeInv (execRteSyncDone s) := by
  obtain ⟨-, -, -, -, -, -, hroute⟩ := (memory_wf_iff s.store).1 h
  refine runMS_inv ?_
  split
  · exact h
  · exact resWf_ite h (wf_route h (copyBank_wf hroute _))

end

/-! ### Fabric memory (07) and the lines of the module's window -/

section
variable {st : Store} (h : Memory.wf st = true) (m : Mach)
include h

theorem fmRun_wf {m : Mach} {src : FmSrc} {opc : Nat} {flag : Bool} {err : HwErr}
    {body : FmCmd → HwErr → Mach → Store → Mach × Store} (hb : ∀ c e m, ResWf (body c e m st)) :
    ResWf (m.fmRun st src opc flag err body) := by
  refine resWf_ite h ?_
  split
  · exact h
  · exact hb _ _ _

theorem whenRecalled_wf {m : Mach} {src : FmSrc} {wr rd : Nat × Nat} {f : Mach × Store} (hf : ResWf f) :
    ResWf (m.whenRecalled st src wr rd f) := resWf_ite hf h

theorem foldl_clearPage_wf (l : List Nat) :
    Memory.wf (l.foldl (fun a p => { a with hbm := sclear a.hbm (p * 65536) (p * 65536 + 65536) }) st) = true :=
  List.foldlRecOn (motive := fun a => Memory.wf a = true) l _ h fun a ha _ _ =>
    wf_hbm ha (sclear_wf ((memory_wf_iff a).1 ha).1 _ _)

theorem alloc_wf (src : FmSrc) (zero : Bool) (err : HwErr) : ResWf (m.alloc st src zero err) :=
  fmRun_wf h fun _ _ _ => resWf_ite h (resWf_ite h (resWf_ite h (resWf_ite h (foldl_clearPage_wf h _))))

theorem fmReadCmd_wf (src : FmSrc) (mcast : Bool) (err : HwErr) : ResWf (m.fmReadCmd st src mcast err) := by
  refine fmRun_wf h fun c e m => ?_
  dsimp only
  split
  · exact h
  · refine resWf_ite h (whenRecalled_wf h ?_)
    split <;> exact h
  · exact h

theorem attach_wf (src : FmSrc) (bind : Bool) (err : HwErr) : ResWf (m.attach st src bind err) := by
  refine fmRun_wf h fun c e m => ?_
  dsimp only
  split
  · exact h
  · exact resWf_ite h (resWf_ite h (resWf_ite h (resWf_ite h (resWf_ite h (resWf_ite h h)))))
  · exact h

theorem lineReq_wf {m : Mach} {hdr : JnkHdr} {f : Mach → Mach × Store} (hf : ∀ m, ResWf (f m)) : ResWf (m.lineReq st hdr f) :=
  resWf_ite h (resWf_ite h (resWf_ite h (resWf_ite h (resWf_ite h (hf _)))))

theorem lineRead_wf (hdr : JnkHdr) (hold : Option Bool) (err : HwErr) : ResWf (m.lineRead st hdr hold err) := by
  refine lineReq_wf h fun m => ?_
  split
  · exact resWf_ite h h
  · exact h

theorem lineWrite_wf (hdr : JnkHdr) (data : List Byte) : ResWf (m.lineWrite st hdr data) :=
  lineReq_wf h fun _ => resWf_ite h (hbmPut_wf h _ _)

end

section
variable {s : State} (h : s.Inv)
include h

theorem execFmWrite_inv (src : FmSrc) (err : HwErr) : OutcomeInv (execFmWrite src err s) := by
  refine runMS_inv (fmRun_wf h fun c e m => ?_)
  dsimp only
  split
  · exact h
  · exact whenRecalled_wf h (hbmPut_wf h _ _)
  · exact h

theorem execFmCopy_inv (src : FmSrc) (err : HwErr) : OutcomeInv (execFmCopy src err s) := by
  obtain ⟨hhbm, -⟩ := (memory_wf_iff s.store).1 h
  refine runMS_inv (fmRun_wf h fun c e m => ?_)
  dsimp only
  split
  · exact h
  · refine resWf_ite h (whenRecalled_wf h ?_)
    split <;> exact wf_hbm h (copyLines_wf hhbm _ _ _ _)
  · exact h
  · exact h

theorem execSnpRspd_inv (tag : BitVec 12) (data : List Byte) : OutcomeInv (execSnpRspd tag data s) := by
  refine runMS_inv (resWf_ite h ?_)
  split
  · split
    · exact hbmPut_wf h _ _
    · exact h
  · exact h

end

/-! ### Faults, domains, sleep, reset and the clock -/

section
variable {st : Store} (h : Memory.wf st = true) (m : Mach)
include h

theorem fc3Effects_wf (g : Nat) : ResWf (m.fc3Effects st g) :=
  resWf_ite h (resWf_ite h (resWf_ite h (resWf_ite
    (List.foldlRecOn (motive := ResWf) _ _ (b := (m, st)) h fun r hr x _ => galReset_wf hr r.1 x)
    (resWf_ite h (resWf_ite h h)))))

theorem snufferExpiry_wf (g : Nat) : ResWf (m.snufferExpiry st g) := resWf_ite (fc3Effects_wf h _ _) h

theorem resetAssert_wf (warm : Bool) : ResWf (m.resetAssert st warm) := by
  have hkept (c : Prop) [Decidable c] : Memory.wf (if c then st.warm else {}) = true := by
    split
    · exact warm_wf h
    · exact memory_wf_empty
  exact resWf_ite h (resWf_ite (hkept _) memory_wf_empty)

theorem entryTick_wf : ResWf (m.entryTick st) := by
  unfold Mach.entryTick
  split
  · exact h
  · exact resWf_ite h (resWf_ite h (resWf_ite h (resWf_ite (asleepStore_wf h _ _) (resWf_ite h h))))

theorem wakeUp_wf (source : Nat) : ResWf (m.wakeUp st source) := by
  refine resWf_ite h (resWf_ite h ?_)
  split
  · exact h
  · exact resWf_ite (asleepStore_wf h _ _) h

theorem safeTick_wf : ResWf (m.safeTick st) := resWf_ite memory_wf_empty (resWf_ite h h)

end

section
variable {s : State} (h : s.Inv)
include h

theorem execDomainOnDone_inv (domain : BitVec 7) : OutcomeInv (execDomainOnDone domain s) :=
  runMS_inv (resWf_ite h (domainInit_wf h _ _))

theorem execWake_inv : OutcomeInv (execWake s) := by
  have hw : ResWf (if bitOf s.mach.pwr.wakeCfg 31 then s.mach.wakeUp s.store 1 else (s.mach, s.store)) :=
    resWf_ite (wakeUp_wf h _ _) h
  exact runMS_inv hw

theorem tick_inv : s.tick.Inv := safeTick_wf (entryTick_wf h _) _

end

theorem execTapInstruction_inv {s : State} (h : s.Inv) (instr : TapInstr) (data : BitVec 66) :
    OutcomeInv (execTapInstruction instr data s) := by
  unfold execTapInstruction
  split
  · split
    · exact next_inv h
    · rintro _ ⟨⟩
  · exact runM_inv h _

/-! ### Every command, and every step -/

/-- The commands that write a memory, each by operations that keep its form; the last line covers those that write none. -/
theorem exec_inv {s : State} (h : s.Inv) (i : Sys2Proof.Instr) : OutcomeInv (exec i s) := by
  cases i <;> unfold exec
  case endProgram | barCore | barDie => exact engine_inv h fun _ _ => h
  case loopDec => exact engine_inv h fun _ _ => engResWf_ite (setX_wf h _ _ _) (setX_wf h _ _ _)
  case jmp | waitTime => exact engine_inv h fun _ _ => engResWf_ite h h
  case waitDma => exact engine_inv h fun _ _ => engResWf_ite h (dmaReport_wf h _ _ _)
  case tldScratch | tldCrossbar => exact engine_inv h fun _ _ => loadV_wf h _ _ _
  case tstScratch | tstCrossbar => exact engine_inv h fun _ _ => storeV_wf h _ _ _
  case tstX => exact engine_inv h fun _ _ => engResWf_ite h (engResWf_ite h (moved_wf (setScr_wf h _ _ _) _ _ _ _))
  case tldHbm | tstHbm => exact engine_inv h fun _ _ => startDma_wf h _ _ _
  case vad | vmu | vmx => exact engine_inv h fun _ _ => binary_wf h _ _ _ _
  case vrs | vex | dqtInt => exact engine_inv h fun _ _ => unary_wf h _ _ _
  case vfm | nrmApply | cmb => exact engine_inv h fun _ _ => engResWf_ite h (vecOut_wf h _ _ _ _ _)
  case vsm | nrmSs => exact engine_inv h fun _ _ => engResWf_ite h (scalarOut_wf h _ _ _ _)
  case topk => exact engine_inv h fun _ _ => engResWf_ite h (engResWf_ite h (setV_wf h _ _ _ _))
  case snd | sndLast | sndShort => exact engine_inv h fun _ _ => send_wf h _ _ _
  case waitOp => exact execWaitOp_inv h _ _ _
  case tldScratchX => exact execTldScratchX_inv h _ _ _
  case tldSlot => exact execTldSlot_inv h _ _ _
  case tldSlotX => exact execTldSlotX_inv h _ _ _
  case dgs => exact execDgs_inv h _ _ _
  case qnt => exact execQnt_inv h _ _ _
  case dqtDecode => exact execDqtDecode_inv h _ _ _
  case mma => exact execMma_inv h _ _ _
  case waitRelease => exact execWaitRelease_inv h _
  case dmaDone | prefetchDone =>
    refine runMS_inv ?_
    split
    · exact resWf_ite (dmaEnd_wf h _ _ _ _) h
    · exact h
  case queuedStart => exact execQueuedStart_inv h _ _
  case bistEnd => exact execBistEnd_inv h _ _
  case layExpmap => exact runMS_inv (tuCmdS_wf h fun _ => layExpmap_wf h _ _ _)
  case laySessionOpen => exact runMS_inv (tuCmdS_wf h fun _ => sessionOpen_wf h _ _)
  case progLoad => exact runMS_inv (tuCmdS_wf h fun _ => progLoad_wf h _ _ _)
  case rteLoad => exact runMS_inv (tuCmdS_wf h fun _ => rteLoad_wf h _ _ _)
  case rteSyncDone => exact execRteSyncDone_inv h
  case parkedRelease => exact execParkedRelease_inv h _
  case galReset | galResetPort => exact runMS_inv (tuCmdS_wf h fun _ => galResetCmd_wf h _ _)
  case alloc | allocZero => exact runMS_inv (alloc_wf h _ _ _ _)
  case incref | decref =>
    refine runMS_inv (fmRun_wf h fun _ _ _ => ?_)
    split <;> exact h
  case fmRead | readMcast => exact runMS_inv (fmReadCmd_wf h _ _ _ _)
  case fmWrite => exact execFmWrite_inv h _ _
  case fmCopy => exact execFmCopy_inv h _ _
  case attachBind | attachUnbind => exact runMS_inv (attach_wf h _ _ _ _)
  case rdOnce | rdShared | rdOwn => exact runMS_inv (lineRead_wf h _ _ _ _)
  case wrFull | wb => exact runMS_inv (lineWrite_wf h _ _ _)
  case evict => exact runMS_inv (lineReq_wf h fun _ => h)
  case snpRspd => exact execSnpRspd_inv h _ _
  case snufferExpiry => exact runMS_inv (resWf_ite (snufferExpiry_wf h _ _) h)
  case resetAssert => exact runMS_inv (resetAssert_wf h _ _)
  case domainOnDone => exact execDomainOnDone_inv h _
  case wake => exact execWake_inv h
  case wakeVin | wakeTemp => exact runMS_inv (resWf_ite (wakeUp_wf h _ _) h)
  case vinReturn => exact runMS_inv (resWf_ite h (resWf_ite h memory_wf_empty))
  case powerOn => exact runMS_inv memory_wf_empty
  case tapInstruction => exact execTapInstruction_inv h _ _
  all_goals exact runM_inv h _

/-- A step is the command at the front of the queue, or a clock edge (log 1). -/
theorem step_inv {s : State} (h : s.Inv) : OutcomeInv (step s) := by
  unfold step
  split
  · exact next_inv (tick_inv h)
  · rename_i c rest _
    exact exec_inv (s := { s with pending := rest }) h c

/-- Settles O59, over the meanings of all commands: each leaves the memories alone or writes them by an operation that keeps
their form. -/
theorem everyStepKeepsTheMemoriesCanonical : Obligations.EveryStepKeepsTheMemoriesCanonical := by
  unfold Obligations.EveryStepKeepsTheMemoriesCanonical
  exact fun _ t h hstep => step_inv h t hstep

end Sys2Proof.Machine

/-! PROOFS. Commands and events of a collective group (03): the four group commands, what becomes of a contribution or partial
that arrives, the expiry of a straggler timer, and what a leaf does with a result of its spine. -/
namespace Sys2Proof.Machine

/-! ### Group commands of the table-update ring (03 R69 to R73, R84) -/

/-- A group command whose descriptor has been taken acts, and marks its gallery's program digest stale (08 R229). -/
theorem groupCmd_taken {s : State} {opc : Nat} {d : TuDesc} (hr : s.mach.running = true) (ht : s.mach.tuTaken opc d = true)
    (f : Store → Mach → Mach) :
    s.runM (fun st m => m.tuCmd opc d fun m => (f st m).markStale (some d.gallery.toNat)) =
      .next { s with mach := (f s.store s.mach.tuBegin).markStale (some d.gallery.toNat) } := by
  rw [runM_eq, tuCmd_eq hr ht]

section
variable {m : Mach} {st : Store} {d : TuDesc}

theorem grpCreate_of_fails {data : List Word} {status : Status} {r : Reason}
    (h : m.createFails st d (data.take 16) (data.drop 16) (parseGroup (data.take 16) (data.drop 16)).reserved = some (status, r)) :
    m.grpCreate st d data = m.tuDone 0x01 d status (reasonCode r) 0 := by
  simp only [Mach.grpCreate, h]

theorem grpCreate_of_passes {data : List Word}
    (h : m.createFails st d (data.take 16) (data.drop 16) (parseGroup (data.take 16) (data.drop 16)).reserved = none) :
    let g := (parseGroup (data.take 16) (data.drop 16)).reserved
    let m1 : Mach := { m with groups := m.groups ++ [g], ended := m.ended.filter fun e => e.group != g.id }
    m.grpCreate st d data = (m1.unfence fun f => f == .group g.id).tuDone 0x01 d .ok 0 g.word28 := by
  simp only [Mach.grpCreate, h]

theorem grpAdd_notFound (hf : m.feature 0 = true) (hg : m.groupOf? d = none) :
    m.grpAdd st d = m.tuRefuse 0x02 d .notFound := by
  simp [Mach.grpAdd, hf, hg]

theorem grpRemove_notFound (hg : m.groupOf? d = none) : m.grpRemove st d = m.tuRefuse 0x03 d .notFound := by
  simp only [Mach.grpRemove, hg]

theorem grpDestroy_notFound (hg : m.groupOf? d = none) : m.grpDestroy d = m.tuRefuse 0x04 d .notFound := by
  simp only [Mach.grpDestroy, hg]

variable {g : Group} (hg : m.groupOf? d = some g)
include hg

theorem grpAdd_busy (hf : m.feature 0 = true) (ho : g.outstanding ≠ 0) : m.grpAdd st d = m.tuRefuse 0x02 d .busy := by
  simp [Mach.grpAdd, hf, hg, ho]

theorem grpDestroy_busy (ho : g.outstanding ≠ 0) : m.grpDestroy d = m.tuRefuse 0x04 d .busy := by
  simp only [Mach.grpDestroy, hg, if_pos ho]

/-- Destroying an idle group drops it, what is remembered of it, and the contributions that wait for it. -/
theorem grpDestroy_idle (ho : g.outstanding = 0) (hd : tuBad d 0 = false) :
    let m1 : Mach := { m with
      groups := m.groups.filter fun h => h.id != g.id
      ended := m.ended.filter fun e => e.group != g.id }
    m.grpDestroy d =
      (g.waiting.foldl (fun a w => (a.takeEngine w.2).count Reg.GRP_MISTILE_CNT) m1).tuDone 0x04 d .ok 0 0 := by
  simp [Mach.grpDestroy, hg, ho, hd, Mach.discardIn]

/-- Removing a listed rank re-forms the group when the member is present, and answers OK either way. -/
theorem grpRemove_listed (hd : tuBad d 0 = false) {y : Member}
    (hy : g.members.find? (fun y => y.rank == d.arg1.toNat) = some y) :
    m.grpRemove st d =
      (if y.mstate = .present then m.reform st g.id [y.rank] .removed 1 else m).tuDone 0x03 d .ok 0 0 := by
  by_cases hp : y.mstate = .present <;> simp [Mach.grpRemove, hg, hd, hy, hp]

theorem grpRemove_unlisted (hd : tuBad d 0 = false) (hm : ∀ y ∈ g.members, y.rank ≠ d.arg1.toNat) :
    m.grpRemove st d = m.tuRefuse 0x03 d .notFound := by
  have hy : g.members.find? (fun y => y.rank == d.arg1.toNat) = none := by simpa using hm
  simp [Mach.grpRemove, hg, hd, hy]

section
variable (hf : m.feature 0 = true) (ho : g.outstanding = 0) (hd : tuBad d 0 = false)
  (hb : memberBad g (d.inline.getD 0 0) = false) {y : Member}
  (hy : g.members.find? (fun y => y.rank == bits (d.inline.getD 0 0).toNat 25 16) = some y)
include hf ho hd hb hy

theorem grpAdd_rankConflict (hp : y.mstate = .present) : m.grpAdd st d = m.tuRefuse 0x02 d .rankConflict := by
  have hp' : (y.mstate == .present) = true := by simp [hp]
  simp only [Mach.grpAdd, hf, hg, ho, hd, hb, hy, hp', Bool.not_true, Bool.or_self, Bool.false_eq_true, if_false, ne_eq,
    not_true_eq_false, if_true]

/-- A member that is no longer present is filled in again, and the reservation never shrinks (03 R64). -/
theorem grpAdd_fills (hp : y.mstate ≠ .present) :
    let new : Member := ⟨.present, bits (d.inline.getD 0 0).toNat 25 16, bits (d.inline.getD 0 0).toNat 15 0⟩
    let g1 := Group.reserved { g with members := g.members.map fun z => if z.rank == new.rank then new else z }
    let g2 : Group := { g1 with parkKib := max g.parkKib g1.parkKib }
    let others : Mach := { m with groups := m.groups.filter fun h => h.id != g.id }
    g.redCores ≠ 0 → (m.arithPorts st g new).any (m.arithBreaks g) = false →
      (m.portsBehind st g new).any (m.featureBreaks g) = false →
      others.reserveFails g.gallery g.dies g2.slots g2.parkKib = none →
      m.grpAdd st d = (m.modGroup g.id fun _ => g2).tuDone 0x02 d .ok 0 g2.word28 := by
  intro new g1 g2 others hc ha hft hres
  have hp' : (y.mstate == .present) = false := by simpa using hp
  simp only [others, g2, g1, new] at ha hft hres
  simp only [Mach.grpAdd, hf, hg, ho, hd, hb, hy, hp', hc, ha, hft, hres, Bool.not_true, Bool.or_self, Bool.false_eq_true,
    if_false, ne_eq, not_true_eq_false, g2, g1, new]

end
end

/-- Settles O1, over the cases of the four group commands. -/
theorem groupCommandsChangeOneGroup : Obligations.GroupCommandsChangeOneGroup := by
  unfold Obligations.GroupCommandsChangeOneGroup
  intro s d hr m taken goes
  have create (ht : taken 0x01) (data : List Word) : exec (.grpCreate d data) s = goes (m.grpCreate s.store d data) :=
    groupCmd_taken hr ht fun st m => m.grpCreate st d data
  have add (ht : taken 0x02) : exec (.grpAdd d) s = goes (m.grpAdd s.store d) :=
    groupCmd_taken hr ht fun st m => m.grpAdd st d
  have remove (ht : taken 0x03) : exec (.grpRemove d) s = goes (m.grpRemove s.store d) :=
    groupCmd_taken hr ht fun st m => m.grpRemove st d
  have destroy (ht : taken 0x04) : exec (.grpDestroy d) s = goes (m.grpDestroy d) :=
    groupCmd_taken hr ht fun _ m => m.grpDestroy d
  refine ⟨fun ht data => ⟨fun st r h => ?_, fun h => ?_⟩, fun hg => ⟨fun ht hf => ?_, fun ht => ?_, fun ht => ?_⟩,
    fun g hg => ⟨fun ho => ⟨fun ht => ?_, fun ht hf => ?_⟩, fun ht ho hd => ?_,
      fun ht hd => ⟨fun y hy => ?_, fun hm => ?_⟩, fun ht hf ho hd hb y hy => ⟨fun hp => ?_, fun hp => ?_⟩⟩⟩
  · rw [create ht, grpCreate_of_fails h]
  · rw [create ht, grpCreate_of_passes h]
  · rw [add ht, grpAdd_notFound hf hg]
  · rw [remove ht, grpRemove_notFound hg]
  · rw [destroy ht, grpDestroy_notFound hg]
  · rw [destroy ht, grpDestroy_busy hg ho]
  · rw [add ht, grpAdd_busy hg hf ho]
  · rw [destroy ht, grpDestroy_idle hg ho hd]
  · rw [remove ht, grpRemove_listed hg hd hy]
  · rw [remove ht, grpRemove_unlisted hg hd hm]
  · rw [add ht, grpAdd_rankConflict hg hf ho hd hb hy hp]
  · intro new g1 g2 others hc ha hft hres
    rw [add ht, grpAdd_fills hg hf ho hd hb hy hp hc ha hft hres]

/-! ### A contribution or partial arrives (03 R76, R82, R85; 04 R115; order of log 23) -/

/-- A packet of an operation that is not remembered as ended, or that runs, is not late (03 R82). -/
theorem not_late {m : Mach} {g : Group} {seq : Nat} (h : m.remembers g.id seq = false ∨ g.op? seq ≠ none) :
    (m.remembers g.id seq && (g.op? seq).isNone) = false := by
  rcases h with h | h
  · rw [h, Bool.false_and]
  · rw [Option.isNone_eq_false_iff.mpr (Option.isSome_iff_ne_none.mpr h), Bool.and_false]

/-- Nothing spoils the group table: a CONTRIB goes to the checks as it came. -/
theorem exec_contrib_unspoiled {s : State} (hr : s.mach.running = true) (hu : Unspoiled s.mach) (port : BitVec 9) (p : Packet) :
    exec (.contrib port p .none) s = .next { s with mach := s.mach.intake s.store port.toNat p } := by
  show execContrib port p .none s = _
  simp only [execContrib, runM_eq, whenRunning_eq hr, injRead_clean hu.1, orErr]
  cases s.mach.group? p.group.toNat <;> rfl

theorem exec_partialIn {s : State} (hr : s.mach.running = true) (port : BitVec 9) (p : Packet) :
    exec (.partialIn port p) s = .next { s with mach := s.mach.intake s.store port.toNat p } := by
  show execPartialIn port p s = _
  simp only [execPartialIn, runM_eq, whenRunning_eq hr]

section
variable {m : Mach} {st : Store} {port : Nat} {p : Packet}

theorem intake_noGroup (hg : m.group? p.group.toNat = none) :
    m.intake st port p = (m.takeEngine p).count Reg.GRP_MISTILE_CNT := by
  simp only [Mach.intake, hg, Mach.discardIn]

variable {g : Group} (hg : m.group? p.group.toNat = some g)
include hg

theorem intake_foreign_or_halted (h : g.gallery ≠ p.gallery.toNat ∨ g.state = .halted) :
    m.intake st port p = (m.takeEngine p).count Reg.GRP_MISTILE_CNT := by
  have hc : (g.gallery != p.gallery.toNat || g.state == .halted) = true := by simpa using h
  simp only [Mach.intake, hg, hc, Bool.true_or, if_true, Mach.discardIn]

section
variable (hgal : g.gallery = p.gallery.toNat) (ht : (p.type == 9) = (g.tier == 2)) (hs : g.state ≠ .halted)
include hgal ht hs

omit hg in
/-- A group that is not halted admits the packets of its gallery and of its tier. -/
theorem intake_admits : (g.gallery != p.gallery.toNat || g.state == .halted || (p.type == 9) != (g.tier == 2)) = false := by
  rw [hgal, ht]
  simp [hs]

theorem intake_ended (hm : m.remembers g.id p.opSeq.toNat = true) (ho : g.op? p.opSeq.toNat = none) :
    m.intake st port p = (m.takeEngine p).count Reg.GRP_LATE_DISCARD_CNT := by
  simp only [Mach.intake, hg, intake_admits hgal ht hs, hm, ho, Option.isNone_none, Bool.and_self, Bool.false_eq_true, if_false,
    if_true, Mach.discardIn]

/-- Unless its operation has ended, a packet for a group that re-forms waits in its cells. -/
theorem intake_reforming (hr : g.state = .reforming)
    (hm : m.remembers g.id p.opSeq.toNat = false ∨ g.op? p.opSeq.toNat ≠ none) : m.intake st port p = m.waitIn g.id port p := by
  have hforms : (g.state == .reforming) = true := by simp [hr]
  simp only [Mach.intake, hg, intake_admits hgal ht hs, not_late hm, hforms, Bool.false_eq_true, if_false, if_true]

end

/-- A packet that passes the checks of its group and of its open operation is a duplicate, or is counted (04 R99, R115). -/
theorem intake_of_fitting (hs : g.state = .active) (hf : Fitting g port p) {o : Op} (ho : g.op? p.opSeq.toNat = some o)
    (ha : Agrees g o p) {sg : Segment} (hsg : o.segs.find? (fun x => x.num == p.segment.toNat) = some sg) :
    let t := sg.tile (tileIndex g p)
    m.intake st port p =
      if t.closed || t.got.any (fun y => y.rank == p.rank.toNat) then (m.takeEngine p).count Reg.RED_DUP_CNT
      else m.countIn st g p := by
  obtain ⟨hgal, htier, ⟨x, hx, hxp, hxt⟩, ⟨hpoison, hstatus⟩, htile, ⟨hkind, hmax⟩, hroot, hfits, howner, hrootRank⟩ := hf
  obtain ⟨hexcl, hcount, hop, hlast⟩ := ha
  have hadmit := intake_admits hgal htier (by simp [hs] : g.state ≠ .halted)
  have hforms : (g.state == .reforming) = false := by simp [hs]
  have hthere : (x.mstate != .present) = false := by simp [hxp]
  have hport : ((p.type == 9) && x.target != port) = false := by
    simpa using hxt
  have hspoilt : (p.poison || ((p.type == 9) && decide (12 ≤ bits (leNat (p.trailer.take 4)) 31 28))) = false := by
    simpa [hpoison] using hstatus
  have hkinds : (!kindOk g (p.flow.toNat / 2 ^ 17) || (p.flow.toNat / 2 ^ 17 == 6 && g.rfmt != 0 && g.rfmt != 11)) = false := by
    rw [hkind, Bool.not_true, Bool.false_or, Bool.and_assoc, Bool.and_eq_false_imp]
    intro h6
    rcases hmax (eq_of_beq h6) with h | h <;> rw [h] <;> simp
  have hroots : ((p.flow.toNat / 2 ^ 17 == 3 || p.flow.toNat / 2 ^ 17 == 5) &&
      !g.present.any (fun y => y.rank == bits p.flow.toNat 16 7)) = false := by
    simpa using hroot
  have howners : ((p.flow.toNat / 2 ^ 17 == 2 && g.owner (p.tile.toNat / g.planes) != p.rank.toNat) ||
      (p.flow.toNat / 2 ^ 17 == 3 && bits p.flow.toNat 16 7 != p.rank.toNat)) = false := by
    simpa using ⟨howner, hrootRank⟩
  have hopen (q : Mach) : q.openIn st g port p = q.countIn st g p := by simp [Mach.openIn, ho]
  have hidx : (if p.flow.toNat / 2 ^ 17 = 4 || p.flow.toNat / 2 ^ 17 = 7 then 0 else p.tile.toNat / g.planes) -
      p.segment.toNat * g.segTiles = tileIndex g p := by
    simp [tileIndex]
  simp only [Mach.intake, hg, hadmit, hforms, hx, hthere, ho, hport, hspoilt, hexcl, hkinds, htile, hroots, hfits, hop, howners, hlast,
    hcount, hsg, hopen, hidx, Option.isNone_some, Bool.and_false, Bool.not_true, Bool.or_self, Bool.false_eq_true, if_false,
    Mach.discardIn]

end

/-- Settles O2, over the checks that a contribution or partial meets, in the order of log 23. -/
theorem contributionsAreCountedOnce : Obligations.ContributionsAreCountedOnce := by
  unfold Obligations.ContributionsAreCountedOnce
  intro s port p hr hu run hrun m seq dropped
  have hin : run = .next { s with mach := m.intake s.store port.toNat p } := by
    simp only [List.mem_cons, List.not_mem_nil, or_false] at hrun
    rcases hrun with rfl | rfl
    · exact exec_contrib_unspoiled hr hu port p
    · exact exec_partialIn hr port p
  refine ⟨fun hg => ?_, fun g hg => ⟨fun h => ?_, fun hgal ht hs => ⟨fun hm ho => ?_, fun hm hform => ?_⟩,
    fun hs hf o ho ha sg hsg => ?_⟩⟩
  · rw [hin, intake_noGroup hg]
  · rw [hin, intake_foreign_or_halted hg h]
  · rw [hin, intake_ended hg hgal ht hs hm ho]
  · rw [hin, intake_reforming hg hgal ht hs hform hm]
    rfl
  · rw [hin, intake_of_fitting hg hs hf ho ha hsg]
    refine ⟨fun h => ?_, fun hclosed hnew => ?_⟩
    · rw [if_pos (by simpa using h)]
    · rw [if_neg (by simpa [hclosed] using hnew)]

/-! ### A straggler timer runs out (03 R78 to R80) -/

theorem exec_stragglerExpiry {s : State} (hr : s.mach.running = true) (group : BitVec 12) (opSeq : BitVec 16) (segment : BitVec 8) :
    exec (.stragglerExpiry group opSeq segment) s =
      .next { s with mach := s.mach.straggle s.store group.toNat opSeq.toNat segment.toNat } := by
  show execStragglerExpiry group opSeq segment s = _
  simp only [execStragglerExpiry, runM_eq, whenRunning_eq hr]

theorem expired_eq_false_iff (s : Segment) (g : Group) (m : Mach) :
    s.expired g m = false ↔ s.timer = none ∨ ∃ t, s.timer = some t ∧ m.advNs < t + g.stragglerNs := by
  cases h : s.timer <;> simp [Segment.expired, h]

theorem expired_of_timer {s : Segment} {g : Group} {m : Mach} {t : Nat} (ht : s.timer = some t)
    (hle : t + g.stragglerNs ≤ m.advNs) : s.expired g m = true := by
  simpa [Segment.expired, ht] using hle

section
variable {m : Mach} {st : Store} {gid seq seg : Nat} {g : Group} {o : Op} {sg : Segment} (hg : m.group? gid = some g)
  (ho : g.op? seq = some o) (hs : o.segs.find? (fun x => x.num == seg) = some sg)
include hg ho hs

theorem straggle_not_expired (h : sg.expired g m = false) : m.straggle st gid seq seg = m := by
  simp only [Mach.straggle, hg, ho, hs, h, Bool.not_false, if_true]

/-- An expiry stops the timer and counts; the rest is the group's policy (03 R80). -/
theorem straggle_expired (h : sg.expired g m = true) :
    let rs := missingRanks g o sg
    let m1 := (m.modGroup gid fun h => h.modOp seq fun x => x.modSeg seg fun y => { y with timer := none }).count
      Reg.GRP_STRAG_CNT
    (g.policy = .wait → m.straggle st gid seq seg = m1.groupEvent g 0x02 seg seq rs.length (rs.headD 0) 0) ∧
      (g.policy = .abort → m.straggle st gid seq seg = m1.endOps st gid .abortTimeout) ∧
      (g.policy = .exclude →
        let m2 := rs.foldl (fun a r => a.groupEvent g 0x03 seg seq 1 r 0) m1
        m.straggle st gid seq seg = if rs = [] then m2 else m2.exclude st gid seq seg rs) := by
  refine ⟨fun hp => ?_, fun hp => ?_, fun hp => ?_⟩ <;>
    simp only [Mach.straggle, hg, ho, hs, h, hp, Bool.not_true, Bool.false_eq_true, if_false, List.isEmpty_iff]

end

/-! ### A leaf receives a result of its spine (04 R101, R113) -/

theorem exec_resultFromSpine {s : State} (hr : s.mach.running = true) (port : BitVec 9) (p : Packet) :
    exec (.resultFromSpine port p) s = .next { s with mach := s.mach.fromSpine s.store port.toNat p } := by
  show execResultFromSpine port p s = _
  simp only [execResultFromSpine, runM_eq, whenRunning_eq hr]

/-- A packet comes from the spine of an active leaf of its gallery: on the leaf's uplink. -/
def Group.FromSpine (g : Group) (port : Nat) (p : Packet) : Prop :=
  g.gallery = p.gallery.toNat ∧ g.tier = 1 ∧ g.uplink = port ∧ g.state = .active

section
variable {m : Mach} {st : Store} {port : Nat} {p : Packet} {g : Group} (hg : m.group? p.group.toNat = some g)
include hg

theorem fromSpine_stray (h : ¬g.FromSpine port p) : m.fromSpine st port p = (m.takeEngine p).count Reg.GRP_MISTILE_CNT := by
  have hc : (g.gallery != p.gallery.toNat || g.tier != 1 || g.uplink != port || g.state != .active) = true := by
    simpa only [Group.FromSpine, Decidable.not_and_iff_or_not, Bool.or_eq_true, bne_iff_ne, ne_eq, or_assoc] using h
  simp only [Mach.fromSpine, hg, hc, if_true, Mach.discardIn]

variable (hmine : g.FromSpine port p)
include hmine

omit hg in
theorem fromSpine_admits :
    (g.gallery != p.gallery.toNat || g.tier != 1 || g.uplink != port || g.state != .active) = false := by
  obtain ⟨hgal, htier, hup, hs⟩ := hmine
  simp [hgal, htier, hup, hs]

theorem fromSpine_ended (hm : m.remembers g.id p.opSeq.toNat = true) (ho : g.op? p.opSeq.toNat = none) :
    m.fromSpine st port p = (m.takeEngine p).count Reg.GRP_LATE_DISCARD_CNT := by
  simp only [Mach.fromSpine, hg, fromSpine_admits hmine, hm, ho, Option.isNone_none, Bool.and_self, Bool.false_eq_true, if_false,
    if_true, Mach.discardIn]

section
variable (hlate : (m.remembers g.id p.opSeq.toNat && (g.op? p.opSeq.toNat).isNone) = false)
include hlate

theorem fromSpine_spoilt (h : 12 ≤ bits (leNat (p.trailer.take 4)) 31 28) :
    m.fromSpine st port p = (m.endOrRefuse st g p .uncorrectable).count Reg.RED_POISON_CNT := by
  simp only [Mach.fromSpine, hg, fromSpine_admits hmine, hlate, h, Bool.false_eq_true, if_false, if_true]

variable (hok : bits (leNat (p.trailer.take 4)) 31 28 < 12)
include hok

theorem fromSpine_badFormat (h : fmtKnown p.format.toNat = false) :
    m.fromSpine st port p = m.endOrRefuse st g p .badFormat := by
  simp only [Mach.fromSpine, hg, fromSpine_admits hmine, hlate, Nat.not_le.mpr hok, h, Bool.not_false, Bool.false_eq_true, if_false,
    if_true]

variable (hfmt : fmtKnown p.format.toNat = true)
include hfmt

theorem fromSpine_hops (h : 31 ≤ p.hops.toNat) : m.fromSpine st port p = (m.takeEngine p).count Reg.TRL_HOPS_CNT := by
  simp only [Mach.fromSpine, hg, fromSpine_admits hmine, hlate, Nat.not_le.mpr hok, hfmt, Nat.lt_succ_of_le h, Bool.not_true,
    Bool.false_eq_true, if_false, if_true, Mach.discardIn]

/-- A sound result goes to every present member with one hop more; CLOSE ends the operation, else it counts towards its
segment (04 R113). -/
theorem fromSpine_forwards (h : p.hops.toNat < 31) :
    let w0 := leNat (p.trailer.take 4)
    let seq := p.opSeq.toNat
    let m1 := (m.takeEngine p).multicast st (g.copiesTo g.present { p with hops := p.hops + 1 }) (g.coreOf p.tile.toNat / 16)
    let m3 := (m1.dropEngine fun x => x.group.toNat == g.id && x.opSeq.toNat == seq).modGroup g.id fun h =>
      { h with ops := eraseFirst (fun x => x.seq == seq && !x.complete) h.ops }
    let add (x : Segment) : Segment := { x with forwarded := x.forwarded + w0 % 128 }
    m.fromSpine st port p =
      if bitOf w0 27 then
        { m3 with ended := ⟨g.id, seq, m3.now, (statusOf? (bits w0 31 28)).getD .uncorrectable⟩ :: m3.ended }
      else
        (m1.modGroup g.id fun h => h.modOp seq fun o => { o.modSeg p.segment.toNat add with
          status := worst o.status ((statusOf? (bits w0 31 28)).getD .ok) }).settleSeg st g.id seq p.segment.toNat := by
  have hhops : ¬31 < p.hops.toNat + 1 := by omega
  simp only [Mach.fromSpine, hg, fromSpine_admits hmine, hlate, Nat.not_le.mpr hok, hfmt, hhops, Bool.not_true, Bool.false_eq_true,
    if_false]

end
end

/-- Settles O4: the expiry by the timer and the policy, the spine's result by the leaf's checks in their order. -/
theorem stragglersAndSpineResultsEndAsConfigured : Obligations.StragglersAndSpineResultsEndAsConfigured := by
  unfold Obligations.StragglersAndSpineResultsEndAsConfigured
  intro s hr m st
  constructor
  · intro group opSeq segment g o sg hg ho hs seq seg rs m1 run
    have hrun : run = .next { s with mach := m.straggle st group.toNat seq seg } := exec_stragglerExpiry hr group opSeq segment
    refine ⟨fun h => ?_, fun t ht hle => ?_⟩
    · rw [hrun, straggle_not_expired hg ho hs ((expired_eq_false_iff sg g m).mpr h)]
    · obtain ⟨hwait, habort, hexclude⟩ := straggle_expired (st := st) hg ho hs (expired_of_timer ht hle)
      refine ⟨fun hp => ?_, fun hp => ?_, fun hp => ?_⟩
      · rw [hrun, hwait hp]
      · rw [hrun, habort hp]
      · rw [hrun, hexclude hp]
  · intro port p g hg w0 seq mine run
    have hrun : run = .next { s with mach := m.fromSpine st port.toNat p } := exec_resultFromSpine hr port p
    refine ⟨fun h => ?_, fun h hm ho => ?_, fun h hl => ⟨fun hst => ?_, fun hst hfmt => ?_, fun hst hfmt hh => ?_⟩,
      fun h hl hst hfmt hh => ?_⟩
    · rw [hrun, fromSpine_stray hg h]
    · rw [hrun, fromSpine_ended hg h hm ho]
    · rw [hrun, fromSpine_spoilt hg h (not_late hl) hst]
    · rw [hrun, fromSpine_badFormat hg h (not_late hl) hst hfmt]
    · rw [hrun, fromSpine_hops hg h (not_late hl) hst hfmt hh]
    · rw [hrun, fromSpine_forwards hg h (not_late hl) hst hfmt hh]
      refine ⟨fun hclose => ?_, fun hopen => ?_⟩
      · rw [if_pos hclose]
      · rw [if_neg (by rw [hopen]; exact Bool.false_ne_true)]

end Sys2Proof.Machine

/-! PROOFS. In-network reduction (04) after a contribution is counted: it is taken up in its turn, its tile closes, and the
packets that wait for their group are tried again. -/
namespace Sys2Proof.Machine

/-! ### The tile that a command names (04 R102) -/

section
variable {m : Mach} {group opSeq tile : Nat}

theorem tileAt_noGroup (hg : m.group? group = none) : m.tileAt group opSeq tile = none := by
  rw [Mach.tileAt, hg, Option.bind_none]

/-- A global tile of an open segment stands at its local index; the kinds 4 and 7 have one tile only. -/
theorem tileAt_of_open {g : Group} {o : Op} {sg : Segment} {j : Nat} (hg : m.group? group = some g) (ho : g.op? opSeq = some o)
    (hj : j = if o.kind = 4 ∨ o.kind = 7 then 0 else tile / g.planes)
    (hs : o.segs.find? (fun x => x.num == j / g.segTiles) = some sg) : m.tileAt group opSeq tile = some (g, o, sg, j) := by
  subst hj
  simp only [Mach.tileAt, hg, ho, Option.bind_some, Bool.or_eq_true, decide_eq_true_eq, hs, Option.map_some]

end

section
variable {s : State} (hr : s.mach.running = true) {group : BitVec 12} {opSeq tile : BitVec 16}
include hr

theorem exec_contribTakeUp_noTile (err : HwErr) (h : s.mach.tileAt group.toNat opSeq.toNat tile.toNat = none) :
    exec (.contribTakeUp group opSeq tile err) s = .next s := by
  show execContribTakeUp group opSeq tile err s = _
  simp only [execContribTakeUp, runM_eq, whenRunning_eq hr, h]

theorem exec_tileClose_noTile (err : HwErr) (h : s.mach.tileAt group.toNat opSeq.toNat tile.toNat = none) :
    exec (.tileClose group opSeq tile err) s = .next s := by
  show execTileClose group opSeq tile err s = _
  simp only [execTileClose, runM_eq, whenRunning_eq hr, h]

variable {g : Group} {o : Op} {sg : Segment} {j : Nat} (h : s.mach.tileAt group.toNat opSeq.toNat tile.toNat = some (g, o, sg, j))
include h

theorem exec_contribTakeUp_at (err : HwErr) :
    exec (.contribTakeUp group opSeq tile err) s = .next { s with mach := s.mach.takeUpAt s.store g o sg j err } := by
  show execContribTakeUp group opSeq tile err s = _
  simp only [execContribTakeUp, runM_eq, whenRunning_eq hr, h]

theorem exec_tileClose_at (err : HwErr) :
    exec (.tileClose group opSeq tile err) s = .next { s with mach := s.mach.closeAt s.store g o sg j err } := by
  show execTileClose group opSeq tile err s = _
  simp only [execTileClose, runM_eq, whenRunning_eq hr, h]

end

/-! ### Taking up in turn and closing (04 R103 to R108, R115) -/

/-- The parked contribution of local tile `i` whose turn it is (04 R107). -/
def Group.nextTurn (g : Group) (o : Op) (sg : Segment) (i : Nat) : Option Got :=
  let cs := g.contributors o (sg.num * g.segTiles + i)
  (sg.tile i).got.find? fun x => x.loc == .parked && cs.contains x.rank && takeable g cs (sg.tile i) x.rank

section
variable {m : Mach} {st : Store} {g : Group} {o : Op} {sg : Segment} {i j : Nat}

theorem takeUp_noTurn (h : g.nextTurn o sg i = none) : m.takeUp g o sg i = m := by
  unfold Group.nextTurn at h
  simp only [Mach.takeUp, h]

theorem takeUp_turn {x : Got} (h : g.nextTurn o sg i = some x) :
    m.takeUp g o sg i = (m.modTile g.id o.seq sg.num i fun t => { t with
      got := t.got.map fun y => if y.rank == x.rank then { y with loc := .taken, kept := true } else y }).parkPeak := by
  unfold Group.nextTurn at h
  simp only [Mach.takeUp, h]

/-- Out of arrival mode a tile that is not the open one takes nothing up (04 R105). -/
theorem takeUpAt_notOpen (err : HwErr) (ha : g.arrival = false) (ht : sg.openTile ≠ j % g.segTiles) :
    m.takeUpAt st g o sg j err = m := by
  have hc : (g.arrival || sg.openTile == j % g.segTiles) = false := by simp [ha, ht]
  simp only [Mach.takeUpAt, hc, Bool.not_false, if_true]

theorem takeUpAt_open (hu : Unspoiled m) (h : g.arrival = true ∨ sg.openTile = j % g.segTiles) :
    m.takeUpAt st g o sg j .none = m.takeUp g o sg (j % g.segTiles) := by
  have hc : (g.arrival || sg.openTile == j % g.segTiles) = true := by simpa using h
  simp only [Mach.takeUpAt, hc, takeResidue_clean hu.2, Bool.not_true, Bool.false_eq_true, if_false]

theorem closeAt_not_closable (err : HwErr) (h : closable g o sg (j % g.segTiles) = false) : m.closeAt st g o sg j err = m := by
  simp only [Mach.closeAt, h, Bool.not_false, if_true]

theorem closeAt_closable (hu : Unspoiled m) (h : closable g o sg (j % g.segTiles) = true) :
    m.closeAt st g o sg j .none = m.closeTile st g o sg (j % g.segTiles) := by
  simp only [Mach.closeAt, h, injWrite_clean hu, injRead_clean hu.1, orErr, Bool.not_true, Bool.false_eq_true, if_false]

end

/-! ### Waiting packets are tried again (03 R84, R85; 04 R104) -/

section
variable {m : Mach} {st : Store} {gid : Nat}

theorem retryWaiting_noGroup (hg : m.group? gid = none) : m.retryWaiting st gid = m := by
  simp only [Mach.retryWaiting, hg]

theorem retryWaiting_group {g : Group} (hg : m.group? gid = some g) :
    m.retryWaiting st gid =
      g.waiting.foldl (fun a w => a.intake st w.1 w.2) (m.modGroup gid fun h => { h with waiting := [] }) := by
  simp only [Mach.retryWaiting, hg]

end

section
variable {s : State} (hr : s.mach.running = true) {group : BitVec 12}
include hr

theorem exec_peerTakeUp : exec (.peerTakeUp group) s = .next { s with mach := s.mach.retryWaiting s.store group.toNat } := by
  show execPeerTakeUp group s = _
  simp only [execPeerTakeUp, runM_eq, whenRunning_eq hr]

theorem exec_reformDone_noGroup (hg : s.mach.group? group.toNat = none) : exec (.reformDone group) s = .next s := by
  show execReformDone group s = _
  simp only [execReformDone, runM_eq, whenRunning_eq hr, hg]

variable {g : Group} (hg : s.mach.group? group.toNat = some g)
include hg

theorem exec_reformDone_none_due (h : g.reforms = []) : exec (.reformDone group) s = .next s := by
  show execReformDone group s = _
  simp only [execReformDone, runM_eq, whenRunning_eq hr, hg, h, List.isEmpty_nil, if_true]

/-- A re-forming that is due raises its events, makes the group ACTIVE and tries its waiting packets (03 R84, R85). -/
theorem exec_reformDone_due (h : g.reforms ≠ []) :
    let raised := g.reforms.foldl (fun a r => a.groupEvent g 0x04 0 r.1 r.2.1 r.2.2.1 r.2.2.2) s.mach
    let active := raised.modGroup g.id fun h =>
      { h with state := if h.state == .reforming then .active else h.state, reforms := [] }
    exec (.reformDone group) s = .next { s with mach := active.retryWaiting s.store g.id } := by
  show execReformDone group s = _
  have hne : g.reforms.isEmpty = false := by simpa using h
  simp only [execReformDone, runM_eq, whenRunning_eq hr, hg, hne, Bool.false_eq_true, if_false]

end

/-- Settles O3: an unknown group first, then the tile named (not open, open with or without a turn, closable or not), then
the re-forming and the waiting packets. -/
theorem tilesAreTakenUpAndClosedInTurn : Obligations.TilesAreTakenUpAndClosedInTurn := by
  unfold Obligations.TilesAreTakenUpAndClosedInTurn
  intro s group opSeq tile hr hu m
  constructor
  · intro hg
    refine ⟨exec_contribTakeUp_noTile hr _ (tileAt_noGroup hg), exec_tileClose_noTile hr _ (tileAt_noGroup hg),
      exec_reformDone_noGroup hr hg, ?_⟩
    rw [exec_peerTakeUp hr, retryWaiting_noGroup hg]
  · intro g hg
    refine ⟨?_, exec_reformDone_none_due hr hg, exec_reformDone_due hr hg, ?_⟩
    · intro o sg j i ho hs
      have hat : m.tileAt group.toNat opSeq.toNat tile.toNat = some (g, o, sg, j) := tileAt_of_open hg ho rfl hs
      refine ⟨fun hopen => ⟨fun hnone => ?_, fun x hx => ?_⟩, fun ha ht => ?_, fun hc => ?_, fun hc => ?_⟩
      · rw [exec_contribTakeUp_at hr hat, takeUpAt_open hu hopen, takeUp_noTurn hnone]
      · rw [exec_contribTakeUp_at hr hat, takeUpAt_open hu hopen, takeUp_turn hx]
      · rw [exec_contribTakeUp_at hr hat, takeUpAt_notOpen _ ha ht]
      · rw [exec_tileClose_at hr hat, closeAt_closable hu hc]
      · rw [exec_tileClose_at hr hat, closeAt_not_closable _ hc]
    · rw [exec_peerTakeUp hr, retryWaiting_group hg]

end Sys2Proof.Machine

/-! PROOFS. Commands of the routed layers (06): loading a layer entry, writing the expert map, opening and closing a session. -/
namespace Sys2Proof.Machine

/-! ### What leaves the list of sessions alone -/

section
variable (m : Mach)

@[simp] theorem unfence_sessions (q : TableFence → Bool) : (m.unfence q).sessions = m.sessions := rfl

@[simp] theorem markStale_sessions (g : Option Nat) : (m.markStale g).sessions = m.sessions := rfl

@[simp] theorem tuDone_sessions (opc : Nat) (d : TuDesc) (st : Status) (reason w8 : Nat) :
    (m.tuDone opc d st reason w8).sessions = m.sessions := by
  have h : m.RingOnly (m.tuDone opc d st reason w8) := ringOnly_report m _ _
  unfold Mach.RingOnly at h
  rw [← h]

@[simp] theorem codeWritten_sessions (store unit lo hi : Nat) : (m.codeWritten store unit lo hi).sessions = m.sessions := by
  unfold Mach.codeWritten
  split
  · rfl
  · split <;> rfl

@[simp] theorem injWrite_sessions (store unit lo hi : Nat) : (m.injWrite store unit lo hi).sessions = m.sessions := by
  simp only [Mach.injWrite]
  split
  · exact codeWritten_sessions m store unit lo hi
  · split <;> exact codeWritten_sessions m store unit lo hi

@[simp] theorem scrWrote_sessions (k a n : Nat) : (m.scrWrote k a n).sessions = m.sessions := by
  simp only [Mach.scrWrote, injWrite_sessions]
  split <;> simp

@[simp] theorem startPrefetch_sessions (x : Session) (rseq layer : Nat) :
    (m.startPrefetch x rseq layer).sessions = m.sessions := by
  simp only [Mach.startPrefetch]
  split
  · rfl
  · split <;> simp

end

/-! ### LAY_LOAD (06 R152, R153, R178; 08 R227, R229) -/

section
variable {m : Mach} {st : Store} {d : TuDesc} {data : List Word}

theorem exec_layLoad {s : State} (hr : s.mach.running = true) (ht : s.mach.tuTaken 0x10 d = true) (data : List Word) :
    exec (.layLoad d data) s = .next { s with mach := s.mach.tuBegin.layLoad s.store d data } := by
  show execLayLoad d data s = _
  rw [execLayLoad, runM_eq, tuCmd_eq hr ht]

theorem layLoad_of_fails {status : Status} {r : Reason} (h : m.layFails st d data = some (status, r)) :
    m.layLoad st d data = (m.tuDone 0x10 d status (reasonCode r) 0).markStale (some d.gallery.toNat) := by
  simp only [Mach.layLoad, h]

theorem layLoad_waits (h : m.layFails st d data = none) (hw : m.layerBusy d.arg0.toNat = true ∨ m.tuBehind 0x10 d = true) :
    m.layLoad st d data = m.park 0x10 d data := by
  have hc : (m.layerBusy d.arg0.toNat || m.tuBehind 0x10 d) = true := by simpa using hw
  simp only [Mach.layLoad, h, hc, if_true]

theorem layLoad_loads (h : m.layFails st d data = none) (hb : m.layerBusy d.arg0.toNat = false) (hq : m.tuBehind 0x10 d = false) :
    let i := d.arg0.toNat
    let m1 : Mach := { m with
      layers := ⟨i, data⟩ :: m.layers.filter fun l => l.idx != i
      dgt := { m.dgt with records := m.dgt.records.filter fun r => r.layer != i } }
    m.layLoad st d data =
      ((m1.unfence fun f => f == .layer i).tuDone 0x10 d .ok 0 0).markStale (some d.gallery.toNat) := by
  simp only [Mach.layLoad, h, hb, hq, Bool.or_self, Bool.false_eq_true, if_false]

end

/-! ### LAY_EXPMAP (06 R154, R178) -/

/-- The fence of an expert map entry from `lo` to below `hi` (17 R456). -/
def TableFence.ofExperts (lo hi : Nat) : TableFence → Bool
  | .expert i => decide (lo ≤ i) && decide (i < hi)
  | _ => false

theorem exec_layExpmap {s : State} {d : TuDesc} (hr : s.mach.running = true) (ht : s.mach.tuTaken 0x11 d = true)
    (data : List Word) :
    exec (.layExpmap d data) s = .next { s with
      mach := (s.mach.tuBegin.layExpmap s.store d data).1, store := (s.mach.tuBegin.layExpmap s.store d data).2 } := by
  show execLayExpmap d data s = _
  rw [execLayExpmap, runMS_eq, tuCmdS_eq hr ht]

/-- Good words of a range that no running program uses replace the map words of that range, and nothing else of the memories. -/
theorem layExpmap_writes {m : Mach} {st : Store} {d : TuDesc} {data : List Word} (hd : tuBad d (4 * d.count.toNat) = false)
    (hpos : 0 < d.count.toNat) (hmax : d.count.toNat ≤ 16384) (hend : d.arg1.toNat + d.count.toNat ≤ 65536)
    (hlen : data.length = d.count.toNat) (hwords : ∀ x ∈ data, x.toNat < 2 ^ 28)
    (hb : m.mapBusy d.arg1.toNat (d.arg1.toNat + d.count.toNat) = false) (hq : m.tuBehind 0x11 d = false) :
    m.layExpmap st d data =
      (((m.unfence (TableFence.ofExperts d.arg1.toNat (d.arg1.toNat + d.count.toNat))).tuDone 0x11 d .ok 0 d.count.toNat).markStale
        (some d.gallery.toNat), { st with expmap := sputs zeroCell st.expmap d.arg1.toNat data }) := by
  have hany : data.any (fun x => decide (2 ^ 28 ≤ x.toNat)) = false := by
    simpa only [List.any_eq_false, decide_eq_true_eq, Nat.not_le] using hwords
  have hlen' : (data.length != d.count.toNat) = false := by simpa using hlen
  simp only [Mach.layExpmap, hd, Nat.ne_of_gt hpos, Nat.not_lt.mpr hmax, Nat.not_lt.mpr hend, hlen', hany, hb, hq, decide_false,
    Bool.or_self, Bool.false_eq_true, if_false]
  rfl

/-! ### LAY_SESSION_OPEN (06 R155, R156; 08 R229; order of log 32) -/

section
variable {m : Mach} {st : Store} {d : TuDesc}

theorem exec_laySessionOpen {s : State} (hr : s.mach.running = true) (ht : s.mach.tuTaken 0x12 d = true) :
    exec (.laySessionOpen d) s = .next { s with
      mach := (s.mach.tuBegin.sessionOpen s.store d).1, store := (s.mach.tuBegin.sessionOpen s.store d).2 } := by
  show execLaySessionOpen d s = _
  rw [execLaySessionOpen, runMS_eq, tuCmdS_eq hr ht]

variable (hf : m.feature 1 = true) (hd : tuBad d 0 = false)
include hf hd

theorem sessionOpen_inUse (h : (m.session? d.arg0.toNat).isSome = true) :
    m.sessionOpen st d = ((m.tuRefuse 0x12 d .idInUse).markStale (some d.gallery.toNat), st) := by
  simp only [Mach.sessionOpen, hf, hd, h, Bool.not_true, Bool.or_self, Bool.false_eq_true, if_false, if_true]

/-- A session of a free number, of a present home core and with good fields is added last, at the first layer of its words,
and its residual range alone is cleared. -/
theorem sessionOpen_adds (hn : m.session? d.arg0.toNat = none)
    (hc : m.corePresent (bits (d.inline.getD 1 0).toNat 21 17) = true) (he : sessBadEntry d = false) :
    let w (i : Nat) : Nat := (d.inline.getD i 0).toNat
    let lo := bits (w 1) 21 17 * 2 ^ 23 + 64 * bits (w 1) 16 0
    let size := (bits (w 0) 11 6 + 1) * (bits (w 0) 4 0 + 1) * 4096
    ∃ x : Session, (m.sessionOpen st d).1.sessions = m.sessions ++ [x] ∧ x.n = d.arg0.toNat ∧ x.failed = false ∧ x.rseq = 0 ∧
      x.cur = bits (w 1) 31 24 ∧ x.home = bits (w 1) 21 17 ∧ x.gallery = bits (w 0) 17 12 ∧
      (m.sessionOpen st d).2 = { st with scratch := sclear st.scratch lo (lo + size) } := by
  simp only [Mach.sessionOpen, hf, hd, hn, hc, he, Bool.not_true, Bool.or_self, Option.isSome_none, Bool.false_eq_true, if_false,
    markStale_sessions, startPrefetch_sessions, tuDone_sessions, scrWrote_sessions, unfence_sessions]
  exact ⟨_, rfl, rfl, rfl, rfl, rfl, rfl, rfl, trivial⟩

end

/-! ### LAY_SESSION_CLOSE (06 R174, R177; 08 R229) -/

/-- Session `x`, of number `n`, leaves the table with its prefetches and its fence. -/
def Mach.freeSession (m : Mach) (n : Nat) (x : Session) : Mach :=
  let a := m.dropPrefetches n x.home
  { a with sessions := a.sessions.filter fun y => y.n != n }.unfence fun f => f == TableFence.session n

section
variable {s : State} {d : TuDesc} (hr : s.mach.running = true)
include hr

theorem exec_laySessionClose (ht : s.mach.tuTaken 0x13 (tuPlain d) = true) :
    exec (.laySessionClose d) s = .next { s with mach := s.mach.tuBegin.sessionClose s.store (tuPlain d) false } := by
  show execLaySessionClose d s = _
  rw [execLaySessionClose, runM_eq, tuCmd_eq hr ht]

theorem exec_laySessionCloseForce (ht : s.mach.tuTaken 0x13 (tuMarked d) = true) :
    exec (.laySessionCloseForce d) s = .next { s with mach := s.mach.tuBegin.sessionClose s.store (tuMarked d) true } := by
  show execLaySessionCloseForce d s = _
  rw [execLaySessionCloseForce, runM_eq, tuCmd_eq hr ht]

end

theorem tuPlain_flags_lt_two {d : TuDesc} (h : d.flags.toNat < 2) : (tuPlain d).flags.toNat < 2 := by
  rw [tuPlain, BitVec.toNat_and]
  exact Nat.lt_of_le_of_lt Nat.and_le_left h

theorem tuMarked_flags_lt_two {d : TuDesc} (h : d.flags.toNat < 2) : (tuMarked d).flags.toNat < 2 := by
  rw [tuMarked, BitVec.toNat_or]
  exact Nat.or_lt_two_pow (n := 1) h (by decide)

section
variable {m : Mach} {st : Store} {d : TuDesc}

theorem sessionClose_notFound (force : Bool) (h : m.session? d.arg0.toNat = none) :
    m.sessionClose st d force = (m.tuRefuse 0x13 d .notFound).markStale (some d.gallery.toNat) := by
  simp only [Mach.sessionClose, h]

variable {x : Session} (hx : m.session? d.arg0.toNat = some x) (hd : tuBad d 0 = false) (hf : d.flags.toNat < 2)
include hx hd hf

theorem sessionClose_busy (hrun : m.sessionRuns x = true) :
    m.sessionClose st d false = (m.tuRefuse 0x13 d .busy).markStale (some d.gallery.toNat) := by
  simp only [Mach.sessionClose, hx, hd, Nat.not_le.mpr hf, hrun, decide_false, Bool.or_self, Bool.not_false, Bool.and_self,
    Bool.false_eq_true, if_false, if_true]

theorem sessionClose_idle (hrun : m.sessionRuns x = false) :
    m.sessionClose st d false = ((m.freeSession d.arg0.toNat x).tuDone 0x13 d .ok 0 0).markStale (some d.gallery.toNat) := by
  simp only [Mach.sessionClose, Mach.freeSession, hx, hd, Nat.not_le.mpr hf, hrun, decide_false, Bool.or_self, Bool.and_false,
    Bool.false_eq_true, if_false]

theorem sessionClose_forced :
    m.sessionClose st d true =
      (((m.layerFail st d.arg0.toNat .abortGallery).freeSession d.arg0.toNat x).tuDone 0x13 d .ok 0 0).markStale
        (some d.gallery.toNat) := by
  simp only [Mach.sessionClose, Mach.freeSession, hx, hd, Nat.not_le.mpr hf, decide_false, Bool.or_self, Bool.not_true,
    Bool.false_and, Bool.false_eq_true, if_false, if_true]

end

/-- Settles O18, over the five commands and the cases of each. -/
theorem layerTablesAndSessionsLoadAndClose : Obligations.LayerTablesAndSessionsLoadAndClose := by
  unfold Obligations.LayerTablesAndSessionsLoadAndClose
  intro s d hr _ m taken stale
  refine ⟨fun data ht => ?_, fun data => ?_, fun ht hf hd => ⟨fun hn => ?_, fun hn hc he => ?_⟩,
    fun ht => ⟨fun hn => ?_, fun x hx hd hfl => ?_⟩, fun ht => ⟨fun hn => ?_, fun x hx hd hfl => ?_⟩⟩
  · refine ⟨fun st r h => ?_, fun h => ⟨fun hw => ?_, fun hb hq => ?_⟩⟩
    · rw [exec_layLoad hr ht, layLoad_of_fails h]
    · rw [exec_layLoad hr ht, layLoad_waits h hw]
    · rw [exec_layLoad hr ht, layLoad_loads h hb hq]
  · intro n lo hd hpos hmax hend hlen hwords ht hb hq
    rw [exec_layExpmap hr ht, layExpmap_writes hd hpos hmax hend hlen hwords hb hq]
    rfl
  · rw [exec_laySessionOpen hr ht, sessionOpen_inUse hf hd hn]
  · obtain ⟨x, hx⟩ := sessionOpen_adds (st := s.store) hf hd hn hc he
    exact ⟨_, x, exec_laySessionOpen hr ht, hx⟩
  · rw [exec_laySessionClose hr ht, sessionClose_notFound (d := tuPlain d) false hn]
    rfl
  · rw [exec_laySessionClose hr ht]
    split
    next hrun => rw [sessionClose_busy (d := tuPlain d) hx hd (tuPlain_flags_lt_two hfl) hrun]; rfl
    next hrun =>
      rw [sessionClose_idle (d := tuPlain d) hx hd (tuPlain_flags_lt_two hfl) (Bool.eq_false_iff.mpr hrun)]; rfl
  · rw [exec_laySessionCloseForce hr ht, sessionClose_notFound (d := tuMarked d) true hn]
    rfl
  · rw [exec_laySessionCloseForce hr ht, sessionClose_forced (d := tuMarked d) hx hd (tuMarked_flags_lt_two hfl)]
    rfl

end Sys2Proof.Machine

/-! PROOFS. Fabric memory (07): allocation, reference counts, the data commands, bindings, rebuilds and restarts. A command whose
turn has come runs its body on a machine that nothing spoils; the lemmas say, command by command, what that body leaves. -/
namespace Sys2Proof.Machine

/-! ### What a ready command leaves -/

/-- The outcome of a command that leaves machine `r.1` and memories `r.2`. -/
def State.leaves (s : State) (r : Mach × Store) : Host.Outcome State Fault Refusal := .next { s with mach := r.1, store := r.2 }

theorem runMS_leaves (s : State) (f : Store → Mach → Mach × Store) : s.runMS f = s.leaves (f s.store s.mach) := rfl

theorem leaves_ite (s : State) (c : Prop) [Decidable c] (a b : Mach × Store) :
    s.leaves (if c then a else b) = if c then s.leaves a else s.leaves b := apply_ite _ _ _ _

theorem tableErr_none : tableErr .none = none := rfl

/-! ### Allocation takes pages and spoils nothing (07 R190, R192, R197) -/

theorem setPage_unspoiled {m : Mach} (hu : Unspoiled m) (x : FmPage) : Unspoiled (m.setPage x) := by
  unfold Mach.setPage
  rw [hbmWrote_clean hu]
  exact hu

theorem fmPop_unspoiled {m a : Mach} {s p : Nat} (hu : Unspoiled m) (h : m.fmPop s = some (p, a)) : Unspoiled a := by
  unfold Mach.fmPop at h
  dsimp only at h
  split at h
  · cases h
    exact hu
  · split at h
    · cases h
      exact hu
    · cases h

theorem fmPopGood_unspoiled {m a : Mach} {s n p : Nat} (hu : Unspoiled m) (h : m.fmPopGood s n = some (p, a)) : Unspoiled a := by
  induction n generalizing m with
  | zero => cases h
  | succ n ih =>
    rw [Mach.fmPopGood] at h
    split at h
    · cases h
    next q b hpop =>
      have hb := fmPop_unspoiled hu hpop
      split at h
      · refine ih ?_ h
        exact setPage_unspoiled hb _
      · cases h
        exact hb

theorem allocPages_unspoiled {m : Mach} (hu : Unspoiled m) (gal stack n : Nat) : Unspoiled (m.allocPages gal stack n).2 := by
  induction n generalizing m with
  | zero => exact hu
  | succ n ih =>
    rw [Mach.allocPages]
    dsimp only
    split
    · exact hu
    next p a hpop =>
      refine ih ?_
      exact setPage_unspoiled (fmPopGood_unspoiled hu hpop) _

theorem foldl_hbmWrote_clean {m : Mach} (hu : Unspoiled m) (l : List Nat) :
    l.foldl (fun a p => a.hbmWrote 15 (p * 65536) 65536) m = m :=
  List.foldlRecOn (motive := fun a => a = m) l _ rfl fun _ ha _ _ => by rw [ha, hbmWrote_clean hu]

/-- The pages that an ALLOC can take: those of the stack it names, or of all stacks (07 R197). -/
def Mach.allocRoom (m : Mach) (stack : Nat) : Nat :=
  if stack < 8 then m.fmAvail stack else sumOf m.fmAvail (List.range 8)

/-- The HBM bytes of some pages are cleared. -/
def Store.clearPages (st : Store) (l : List Nat) : Store :=
  l.foldl (fun a p => { a with hbm := sclear a.hbm (p * 65536) (p * 65536 + 65536) }) st

/-- Of the pages that an ALLOC takes, those it clears: all with ZERO, else those not cleared since the last rebuild. -/
def Mach.allocCleared (m : Mach) (zero : Bool) (l : List Nat) : List Nat :=
  if zero then l else l.filter fun p => !(m.page p).zeroed

theorem exec_alloc_leaves (s : State) (src : FmSrc) (zero : Bool) :
    (if zero then exec (.allocZero src .none) s else exec (.alloc src .none) s) =
      s.leaves (s.mach.alloc s.store src zero .none) := by
  cases zero <;> rfl

theorem fmPopFault_none (m : Mach) (s : Nat) : m.fmPopFault .none s = m := rfl

section
variable {s : State} {src : FmSrc} {zero : Bool} (h : FmReady s src 0 zero)
include h

theorem alloc_feature_off (hf : s.mach.feature 2 = false) :
    s.mach.alloc s.store src zero .none = (s.mach.fmRefuse s.store (fmCmd src) .field 0, s.store) := by
  simp only [Mach.alloc, fmRun_ready h, fmPopFault_none, hf, Bool.not_false, if_true]

variable (hf : s.mach.feature 2 = true)
include hf

theorem alloc_poolEmpty (hroom : s.mach.allocRoom (bits ((fmCmd src).w 0) 25 22) < (fmCmd src).cnt) :
    s.mach.alloc s.store src zero .none = (s.mach.fmRefuse s.store (fmCmd src) .poolEmpty 0, s.store) := by
  simp only [Mach.alloc, fmRun_ready h, fmPopFault_none, hf, Bool.not_true, Bool.false_eq_true, if_false]
  exact if_pos hroom

variable (hroom : (fmCmd src).cnt ≤ s.mach.allocRoom (bits ((fmCmd src).w 0) 25 22))
include hroom

theorem alloc_quota (hq : (s.mach.rd (Reg.FMM_QUOTA_G (fmCmd src).gal)).toNat <
      (s.mach.rd (Reg.FMM_USED_G (fmCmd src).gal)).toNat + (fmCmd src).cnt) :
    s.mach.alloc s.store src zero .none = (s.mach.fmRefuse s.store (fmCmd src) .quota 0, s.store) := by
  simp only [Mach.alloc, fmRun_ready h, fmPopFault_none, hf, Bool.not_true, Bool.false_eq_true, if_false, hq, if_true]
  exact if_neg (Nat.not_lt.mpr hroom)

/-- Room and quota left: the pages are taken and cleared, unless a channel among theirs is halted. -/
theorem alloc_takes (hq : (s.mach.rd (Reg.FMM_USED_G (fmCmd src).gal)).toNat + (fmCmd src).cnt ≤
      (s.mach.rd (Reg.FMM_QUOTA_G (fmCmd src).gal)).toNat) :
    let r := s.mach.allocPages (fmCmd src).gal (bits ((fmCmd src).w 0) 25 22) (fmCmd src).cnt
    let st := s.store.clearPages (s.mach.allocCleared zero r.1)
    s.mach.alloc s.store src zero .none = if r.1.any s.mach.chanHalted then
      (s.mach.fmRefuse s.store (fmCmd src) .media 0, s.store) else
      (r.2.fmDone st (fmCmd src) (r.1.map fun p => handleOf (r.2.page p)) [], st) := by
  simp only [Mach.alloc, fmRun_ready h, fmPopFault_none, hf, Bool.not_true, Bool.false_eq_true, if_false, Nat.not_lt.mpr hq,
    foldl_hbmWrote_clean (allocPages_unspoiled h.clean _ _ _)]
  exact if_neg (Nat.not_lt.mpr hroom)

end

/-! ### Reference counts over LIST (07 R192, R193, R199) -/

/-- INCREF of one handle of a gallery. -/
def refUp (gal : Nat) (a : Mach) (h : Nat) : FmReason × Mach :=
  let x := a.page (hPage h)
  if a.checkHandle gal h 0 0 ≠ .none then (a.checkHandle gal h 0 0, a)
  else if 65535 ≤ x.refcnt then (.refsFull, a) else (.none, a.setPage { x with refcnt := x.refcnt + 1 })

/-- DECREF of one handle of a gallery. -/
def refDown (gal : Nat) (a : Mach) (h : Nat) : FmReason × Mach :=
  if a.checkHandle gal h 0 0 ≠ .none then (a.checkHandle gal h 0 0, a) else (.none, a.dropRef (hPage h))

theorem exec_incref_ready {s : State} {src : FmSrc} (h : FmReady s src 1 false) :
    exec (.incref src .none) s =
      .next { s with mach := s.mach.overList s.store (fmCmd src) (refUp (fmCmd src).gal) } := by
  show execIncref src .none s = _
  simp only [execIncref, runMS_eq, fmRun_ready h, tableErr_none]
  congr 3
  funext a x
  unfold refUp
  split
  next hc => simp only [hc, ne_eq, not_true_eq_false, if_false]
  next hc => exact (if_pos hc).symm

theorem exec_decref_ready {s : State} {src : FmSrc} (h : FmReady s src 2 false) :
    exec (.decref src .none) s =
      .next { s with mach := s.mach.overList s.store (fmCmd src) (refDown (fmCmd src).gal) } := by
  show execDecref src .none s = _
  simp only [execDecref, runMS_eq, fmRun_ready h, tableErr_none]
  congr 3
  funext a x
  unfold refDown
  split
  next hc => simp only [hc, ne_eq, not_true_eq_false, if_false]
  next hc => exact (if_pos hc).symm

section
variable {m a : Mach} {st : Store} {c : FmCmd} {f : Mach → Nat → FmReason × Mach} {i : Nat}

theorem overList_all (h : applyAll f c.list 0 m = (.none, i, a)) :
    m.overList st c f = if c.list.any m.chanHalted then m.fmRefuse st c .media 0 else a.fmDone st c [] [] := by
  simp only [Mach.overList, h]

theorem overList_refused {r : FmReason} (h : applyAll f c.list 0 m = (r, i, a)) (hr : r ≠ .none) :
    m.overList st c f = m.fmRefuse st c r i := by
  simp only [Mach.overList, h]

end

/-- Settles O41, over the refusals of an ALLOC in their order, and over what LIST answers to INCREF and DECREF. -/
theorem pagesAreAllocatedSharedAndFreed : Obligations.PagesAreAllocatedSharedAndFreed := by
  unfold Obligations.PagesAreAllocatedSharedAndFreed
  constructor
  · intro s src zero h m c stack free used run
    have hrun : run = s.leaves (s.mach.alloc s.store src zero .none) := exec_alloc_leaves s src zero
    refine ⟨fun hf => ?_, fun hf => ⟨fun hroom => ?_, fun hroom hq => ?_, fun hroom hq => ?_⟩⟩
    · rw [hrun, alloc_feature_off h hf]
      rfl
    · rw [hrun, alloc_poolEmpty h hf hroom]
      rfl
    · rw [hrun, alloc_quota h hf hroom hq]
      rfl
    · rw [hrun, alloc_takes h hf hroom hq, leaves_ite]
      rfl
  · intro s src m c up down done
    refine ⟨fun h => ⟨fun i a ha => ?_, fun r i a ha hr => ?_⟩, fun h => ⟨fun i a ha => ?_, fun r i a ha hr => ?_⟩⟩
    · rw [exec_incref_ready h, overList_all (f := refUp (fmCmd src).gal) ha]
    · rw [exec_incref_ready h, overList_refused (f := refUp (fmCmd src).gal) ha hr]
    · rw [exec_decref_ready h, overList_all (f := refDown (fmCmd src).gal) ha]
    · rw [exec_decref_ready h, overList_refused (f := refDown (fmCmd src).gal) ha hr]


/-! ### The data commands (07 R197, R201, R202, R207) -/

/-- Lines that a command is to write (`w`) and to read (`r`) are recalled, and the command waits at its page (07 R193, R207). -/
def Mach.recallFor (m : Mach) (src : FmSrc) (w r : List Nat) : Mach :=
  let m1 := (m.snoop 0x10 w).snoop 0x11 (r.filter fun x => !w.contains x)
  let again := if m1.jnk.recalls.any (sameCmd src) then m1.jnk.recalls else m1.jnk.recalls ++ [src]
  { m1 with jnk := { m1.jnk with recalls := again } }

theorem heldLines_no_lines (m : Mach) (a : Nat) (dirty : Bool) : m.heldLines a 0 dirty = [] := by
  have hout : ∀ h ∈ m.jnk.held, ¬(decide (a / 64 ≤ h.1) && decide (h.1 < a / 64 + 0) && (!dirty || h.2)) = true := by
    intro h _
    simp only [Bool.and_eq_true, decide_eq_true_eq]
    omega
  rw [Mach.heldLines, List.filter_eq_nil_iff.mpr hout, List.map_nil]

section
variable {m : Mach} {st : Store} {src : FmSrc} {f : Mach × Store}

theorem whenRecalled_eq (wr rd : Nat × Nat) :
    m.whenRecalled st src wr rd f = if m.heldLines wr.1 wr.2 false = [] ∧ m.heldLines rd.1 rd.2 true = [] then f
      else (m.recallFor src (m.heldLines wr.1 wr.2 false) (m.heldLines rd.1 rd.2 true), st) := by
  simp only [Mach.whenRecalled, Bool.and_eq_true, List.isEmpty_iff]
  rfl

/-- A command that only reads waits for the lines that the companion may have modified. -/
theorem whenRecalled_read (a n : Nat) : m.whenRecalled st src (0, 0) (a, n) f =
    if m.heldLines a n true = [] then f else (m.recallFor src [] (m.heldLines a n true), st) := by
  simp only [whenRecalled_eq, heldLines_no_lines, true_and]

/-- A command that only writes waits for the lines that the companion holds. -/
theorem whenRecalled_write (a n : Nat) : m.whenRecalled st src (a, n) (0, 0) f =
    if m.heldLines a n false = [] then f else (m.recallFor src (m.heldLines a n false) [], st) := by
  simp only [whenRecalled_eq, heldLines_no_lines, and_true]

end

theorem ceOf_none (m : Mach) (s : Nat) : m.ceOf .none s = m := rfl

theorem orErr_none : orErr .none .none = .none := rfl

/-- The memories with other HBM bytes. -/
def Store.withHbm (st : Store) (hbm : Cells 8) : Store := { st with hbm := hbm }

section
variable {s : State} {src : FmSrc}

section
variable {mcast : Bool} (h : FmReady s src 3 mcast)
include h

/-- A READ is refused with the reason of its check, the last alternative of the body, which `hr` selects; so with the other data
commands. -/
theorem fmReadCmd_refused (hr : s.mach.fmCheck (fmCmd src) ≠ .none) :
    s.mach.fmReadCmd s.store src mcast .none =
      (s.mach.fmRefuse s.store (fmCmd src) (s.mach.fmCheck (fmCmd src)) 0, s.store) := by
  simp only [Mach.fmReadCmd, fmRun_ready h, tableErr_none]

variable (hc : s.mach.fmCheck (fmCmd src) = .none)
include hc

theorem fmReadCmd_unbound (hm : mcast = true) (hb : (s.mach.page (hPage ((fmCmd src).w 1))).bound = false) :
    s.mach.fmReadCmd s.store src mcast .none = (s.mach.fmRefuse s.store (fmCmd src) .badSet 0, s.store) := by
  subst hm
  simp only [Mach.fmReadCmd, fmRun_ready h, tableErr_none, hc, hb, Bool.not_false, Bool.and_self, if_true]

theorem fmReadCmd_reads (hb : mcast = true → (s.mach.page (hPage ((fmCmd src).w 1))).bound = true) :
    let a := lineAddr ((fmCmd src).w 1) (fmCmd src).off
    let dirty := s.mach.heldLines a (fmCmd src).lines true
    s.mach.fmReadCmd s.store src mcast .none =
      if dirty = [] then (s.mach.fmReadOut s.store (fmCmd src) mcast a, s.store)
      else (s.mach.recallFor src [] dirty, s.store) := by
  have hbound : (mcast && !(s.mach.page (hPage ((fmCmd src).w 1))).bound) = false := by
    simpa using hb
  simp only [Mach.fmReadCmd, fmRun_ready h, tableErr_none, hc, hbound, Bool.false_eq_true, if_false, whenRecalled_read,
    hbmRead_clean h.clean.1, orErr_none, ceOf_none]

end

section
variable (h : FmReady s src 4 false)
include h

theorem exec_fmWrite_refused (hr : s.mach.fmCheck (fmCmd src) ≠ .none) :
    exec (.fmWrite src .none) s =
      s.leaves (s.mach.fmRefuse s.store (fmCmd src) (s.mach.fmCheck (fmCmd src)) 0, s.store) := by
  show execFmWrite src .none s = _
  simp only [execFmWrite, runMS_leaves, fmRun_ready h, tableErr_none]

theorem exec_fmWrite_writes (hc : s.mach.fmCheck (fmCmd src) = .none) :
    let a := lineAddr ((fmCmd src).w 1) (fmCmd src).off
    let held := s.mach.heldLines a (fmCmd src).lines false
    let st := s.store.withHbm (sputs zeroCell s.store.hbm a (fmCmd src).data)
    exec (.fmWrite src .none) s = if held = [] then s.leaves (s.mach.fmDone st (fmCmd src) [] [], st)
      else s.leaves (s.mach.recallFor src held [], s.store) := by
  show execFmWrite src .none s = _
  simp only [execFmWrite, runMS_leaves, fmRun_ready h, tableErr_none, hc, whenRecalled_write, hbmWrote_clean h.clean, leaves_ite]
  rfl

end

section
variable (h : FmReady s src 5 false)
include h

theorem exec_fmCopy_refused (hr : s.mach.fmCheck (fmCmd src) ≠ .none) :
    exec (.fmCopy src .none) s =
      s.leaves (s.mach.fmRefuse s.store (fmCmd src) (s.mach.fmCheck (fmCmd src)) 0, s.store) := by
  show execFmCopy src .none s = _
  simp only [execFmCopy, runMS_leaves, fmRun_ready h, tableErr_none]
  generalize s.mach.fmCheck (fmCmd src) = r at hr ⊢
  cases r
  case none => exact absurd rfl hr
  all_goals rfl

variable (hc : s.mach.fmCheck (fmCmd src) = .none)
include hc

theorem exec_fmCopy_bad_destination
    (hr : s.mach.checkHandle (fmCmd src).gal ((fmCmd src).w 3) ((fmCmd src).w 4) (fmCmd src).lines ≠ .none) :
    exec (.fmCopy src .none) s = s.leaves (s.mach.fmRefuse s.store (fmCmd src)
      (s.mach.checkHandle (fmCmd src).gal ((fmCmd src).w 3) ((fmCmd src).w 4) (fmCmd src).lines) 0, s.store) := by
  show execFmCopy src .none s = _
  simp only [execFmCopy, runMS_leaves, fmRun_ready h, tableErr_none, hc]

theorem exec_fmCopy_copies
    (hd : s.mach.checkHandle (fmCmd src).gal ((fmCmd src).w 3) ((fmCmd src).w 4) (fmCmd src).lines = .none) :
    let a := lineAddr ((fmCmd src).w 1) (fmCmd src).off
    let b := lineAddr ((fmCmd src).w 3) ((fmCmd src).w 4)
    let n := (fmCmd src).lines
    let written := s.mach.heldLines b n false
    let dirty := s.mach.heldLines a n true
    let st := s.store.withHbm (copyLines s.store.hbm a b n 0)
    exec (.fmCopy src .none) s =
      if s.mach.chanHalted ((fmCmd src).w 3) then s.leaves (s.mach.fmRefuse s.store (fmCmd src) .media 0, s.store)
      else if written = [] ∧ dirty = [] then s.leaves (s.mach.fmDone st (fmCmd src) [] [], st)
      else s.leaves (s.mach.recallFor src written dirty, s.store) := by
  show execFmCopy src .none s = _
  simp only [execFmCopy, runMS_leaves, fmRun_ready h, tableErr_none, hc, hd, whenRecalled_eq, hbmRead_clean h.clean.1, orErr_none,
    ceOf_none, hbmWrote_clean h.clean, leaves_ite]
  rfl

end
end

/-! ### ATTACH (07 R192, R197) -/

section
variable {s : State} {src : FmSrc}
  (hc : s.mach.checkHandle (fmCmd src).gal ((fmCmd src).w 1) 0 0 = .none) (hh : s.mach.chanHalted ((fmCmd src).w 1) = false)
include hc hh

section
variable (h : FmReady s src 6 true)
include h

theorem attach_badSet (hs : s.mach.setOk (fmCmd src).gal (bits ((fmCmd src).w 5) 11 0) = false) :
    s.mach.attach s.store src true .none = (s.mach.fmRefuse s.store (fmCmd src) .badSet 0, s.store) := by
  simp only [Mach.attach, fmRun_ready h, tableErr_none, hc, hh, hs, Bool.false_eq_true, Bool.not_false, Bool.and_self, if_false,
    if_true]

variable (hs : s.mach.setOk (fmCmd src).gal (bits ((fmCmd src).w 5) 11 0) = true)
include hs

theorem attach_replaces (hb : (s.mach.page (hPage ((fmCmd src).w 1))).bound = true) :
    let x := s.mach.page (hPage ((fmCmd src).w 1))
    s.mach.attach s.store src true .none =
      ((s.mach.setPage { x with set_ := bits ((fmCmd src).w 5) 11 0 }).fmDone s.store (fmCmd src) [] [], s.store) := by
  simp only [Mach.attach, fmRun_ready h, tableErr_none, hc, hh, hs, hb, Bool.false_eq_true, Bool.not_true, Bool.and_false,
    Bool.and_self, if_false, if_true]

variable (hb : (s.mach.page (hPage ((fmCmd src).w 1))).bound = false)
include hb

theorem attach_refsFull (hx : 65535 ≤ (s.mach.page (hPage ((fmCmd src).w 1))).refcnt) :
    s.mach.attach s.store src true .none = (s.mach.fmRefuse s.store (fmCmd src) .refsFull 0, s.store) := by
  simp only [Mach.attach, fmRun_ready h, tableErr_none, hc, hh, hs, hb, hx, decide_true, Bool.false_eq_true, Bool.not_true,
    Bool.and_false, Bool.and_self, if_false, if_true]

theorem attach_binds (hx : (s.mach.page (hPage ((fmCmd src).w 1))).refcnt < 65535) :
    let x := s.mach.page (hPage ((fmCmd src).w 1))
    let y : FmPage := { x with bound := true, set_ := bits ((fmCmd src).w 5) 11 0, refcnt := x.refcnt + 1 }
    s.mach.attach s.store src true .none = ((s.mach.setPage y).fmDone s.store (fmCmd src) [] [], s.store) := by
  simp only [Mach.attach, fmRun_ready h, tableErr_none, hc, hh, hs, hb, Nat.not_le.mpr hx, decide_false, Bool.false_eq_true,
    Bool.not_true, Bool.and_false, if_false, if_true]

end

theorem attach_unbinds (h : FmReady s src 6 false) :
    let p := hPage ((fmCmd src).w 1)
    let x := s.mach.page p
    s.mach.attach s.store src false .none =
      if x.bound then (((s.mach.setPage { x with bound := false, set_ := 0 }).dropRef p).fmDone s.store (fmCmd src) [] [], s.store)
      else (s.mach.fmDone s.store (fmCmd src) [] [], s.store) := by
  simp only [Mach.attach, fmRun_ready h, tableErr_none, hc, hh, Bool.false_eq_true, Bool.false_and, if_false]

end

/-- Settles O42: a handle that fails its check first, then READ, WRITE and COPY of a good handle, then ATTACH. -/
theorem fabricMemoryDataMovesAsCommanded : Obligations.FabricMemoryDataMovesAsCommanded := by
  unfold Obligations.FabricMemoryDataMovesAsCommanded
  intro s src m st c a b x set refused done n waits
  have read : exec (.fmRead src .none) s = s.leaves (m.fmReadCmd st src false .none) := rfl
  have readMcast : exec (.readMcast src .none) s = s.leaves (m.fmReadCmd st src true .none) := rfl
  have bind : exec (.attachBind src .none) s = s.leaves (m.attach st src true .none) := rfl
  have unbind : exec (.attachUnbind src .none) s = s.leaves (m.attach st src false .none) := rfl
  refine ⟨?_, fun hc => ⟨?_, fun h => ?_, ?_⟩, fun hc hh => ⟨fun h => ⟨fun hs => ?_, fun hs hb => ?_, fun hs hb hx => ?_,
    fun hs hb hx => ?_⟩, fun h => ?_⟩⟩
  · rintro r rfl hr
    refine ⟨fun mcast h => ?_, fun h => exec_fmWrite_refused h hr, fun h => exec_fmCopy_refused h hr⟩
    have hread := fmReadCmd_refused h hr
    cases mcast
    case false => exact read.trans (congrArg s.leaves hread)
    case true => exact readMcast.trans (congrArg s.leaves hread)
  · intro dirty
    refine ⟨fun h => ?_, fun h => ?_⟩
    · rw [read, fmReadCmd_reads h hc (by simp), leaves_ite]
      rfl
    · rw [readMcast]
      split
      next hb =>
        rw [fmReadCmd_unbound h hc rfl hb]
        rfl
      next hb =>
        rw [fmReadCmd_reads h hc (fun _ => by simpa using hb), leaves_ite]
        rfl
  · exact exec_fmWrite_writes h hc
  · intro h written dirty
    refine ⟨?_, fun hd => exec_fmCopy_copies h hc hd⟩
    rintro r rfl hr
    exact exec_fmCopy_bad_destination h hc hr
  · rw [bind, attach_badSet hc hh h hs]
    rfl
  · rw [bind, attach_replaces hc hh h hs hb]
    rfl
  · rw [bind, attach_refsFull hc hh h hs hb hx]
    rfl
  · rw [bind, attach_binds hc hh h hs hb hx]
    rfl
  · rw [unbind, attach_unbinds hc hh h, leaves_ite]
    rfl

/-! ### Rebuilds and restarts (07 R185, R201) -/

theorem rebuild_refused {m : Mach} (h : m.rebuildRefused = true) : m.rebuild = m.setFlag Reg.BPM_CTL 1 true := by
  simp only [Mach.rebuild, h, if_true]

/-- The pool of stack `k` that a rebuild makes of the pending settings (07 R184, log 67). -/
def Mach.pendingPool (m : Mach) (k : Nat) : Pool :=
  let gib := m.fld Reg.BPM_SUMP_GIB 5 0
  { stack := k, sumpPages := 262144 * gib, spTop := 262144 * gib, fmBase := m.fld (Reg.BPM_FMEM_BASE_M k) 19 0,
    fmLimit := m.fld (Reg.BPM_FMEM_LIMIT_M k) 19 0, fmTop := m.fld (Reg.BPM_FMEM_LIMIT_M k) 19 0 }

/-- A rebuild builds the pools and bypasses their two groups; its lines under another code follow the private regions (17 R446). -/
theorem rebuild_builds {m : Mach} (h : m.rebuildRefused = false) :
    let pools := (List.range 8).map m.pendingPool
    m.rebuild = { (((m.setFlag Reg.BPM_CTL 1 false).setFlag Reg.BPM_CTL 2 false).bypassOn 14).bypassOn 15 with
      pages := [], pools
      sw := { m.sw with lostCells := [0, 0] }
      ecc := { m.ecc with
        otherCode := pools.foldl (fun l q => rebuiltCodes (m.unitLight q.stack) (m.pool q.stack) q l) m.ecc.otherCode } } := by
  simp only [Mach.rebuild, h, Bool.false_eq_true, if_false]
  rfl

theorem exec_bpmRebuild {s : State} (h : Writable s Reg.BPM_CTL) :
    exec .bpmRebuild s = .next { s with mach := s.mach.rebuild } := by
  show execBpmRebuild s = _
  rw [execBpmRebuild, runM_eq, regCmd_eq h]

theorem exec_rebuildDone {s : State} (h : s.mach.running = true) :
    exec .rebuildDone s = .next { s with
      mach := if s.mach.flag Reg.BPM_CTL 2 then s.mach
        else ((s.mach.setFlag Reg.BPM_CTL 2 true).bypassOff 14).bypassOff 15 } := by
  show execRebuildDone s = _
  rw [execRebuildDone, runM_eq, whenRunning_eq h]

theorem exec_fmmChanRestart {s : State} (h : Writable s Reg.FMM_CHAN_RESTART) (value : Word) :
    exec (.fmmChanRestart value) s = .next { s with mach := s.mach.chanRestart value.toNat } := by
  show execFmmChanRestart value s = _
  rw [execFmmChanRestart, runM_eq, regCmd_eq h]

/-- Settles O43, over a rebuild that is refused or builds, its end, and a restart. -/
theorem poolsAreRebuiltAndChannelsRestarted : Obligations.PoolsAreRebuiltAndChannelsRestarted := by
  unfold Obligations.PoolsAreRebuiltAndChannelsRestarted
  refine ⟨?_, fun s h => ⟨fun hf => ?_, fun hf => ?_⟩, ?_⟩
  · intro s h m gib m1
    refine ⟨fun hr => ?_, ?_⟩
    · rw [exec_bpmRebuild h, rebuild_refused hr]
    · intro built hr
      rw [exec_bpmRebuild h, rebuild_builds hr]
      exact ⟨_, rfl⟩
  · rw [exec_rebuildDone h, if_pos hf]
  · rw [exec_rebuildDone h, if_neg (Bool.eq_false_iff.mp hf)]
  · intro s value h kept
    exact exec_fmmChanRestart h value

end Sys2Proof.Machine

/-! PROOFS. Fabric time (09): a step sets it at once or waits for the running entry; the sources that measure it; the 1588 messages
of a port; a replayed one is only counted. -/
namespace Sys2Proof.Machine

/-! ### What leaves fabric time alone -/

theorem ringOnly_time {m a : Mach} (h : m.RingOnly a) : a.time = m.time := by
  unfold Mach.RingOnly at h
  rw [← h]

@[simp] theorem timeEvent_time (m : Mach) (type old new cause entry bank : Nat) (off : Int) :
    (m.timeEvent type old new cause entry bank off).time = m.time := ringOnly_time (ringOnly_modEvent m _ _ _)

/-! ### Steps (09 R237, R241, R248) -/

section
variable (m : Mach) (ns : Nat)

theorem nsUnit_pos : 0 < nsUnit := by decide

theorem stepNow_set_time : (m.stepNow (.set ns)).time = { m.time with acc := ns % 2 ^ 64 * nsUnit, held := none } := by
  simp [Mach.stepNow]

theorem stepNow_set_now : (m.stepNow (.set ns)).now = ns % 2 ^ 64 := by
  rw [Mach.now, stepNow_set_time, Nat.mul_div_cancel _ nsUnit_pos, Nat.mod_mod]

theorem stepNow_set_frac : (m.stepNow (.set ns)).frac = 0 := by
  rw [Mach.frac, stepNow_set_time, Nat.mul_mod_left, Nat.zero_div]

theorem stepNow_set_held : (m.stepNow (.set ns)).time.held = none := by rw [stepNow_set_time]

end

section
variable {m : Mach} {h : HeldStep}

theorem timStep_idle (hi : m.runningEntry = none) : m.timStep h = m.stepNow h := by
  simp only [Mach.timStep, hi]

theorem timStep_running {i left : Nat} (hi : m.runningEntry = some (i, left)) :
    m.timStep h = { m.setFlag Reg.TIM_STATUS 2 true with time := { m.time with
      held := some h, heldEnd := if m.time.held.isSome then m.time.heldEnd else m.now + left } } := by
  simp only [Mach.timStep, hi]

end

/-! ### Writes of TIM_CTL and TIM_PPS_SEC, and a read of TIM_NOW_NS_LO (09 R238 to R241) -/

theorem exec_timSet {s : State} (h : Writable s Reg.TIM_CTL) (value : Word) :
    exec (.timSet value) s = .next { s with mach := s.mach.timCtl value.toNat } := by
  show execTimSet value s = _
  rw [execTimSet, runM_eq, regCmd_eq h]

/-- A write that keeps the source takes its fields, and steps with SET. -/
theorem timCtl_same_source {m : Mach} {value : Nat}
    (hsrc : (m.writeRw Reg.TIM_CTL 0x07FF07FF value).fld Reg.TIM_CTL 1 0 = m.fld Reg.TIM_CTL 1 0)
    (hport : (m.writeRw Reg.TIM_CTL 0x07FF07FF value).fld Reg.TIM_CTL 1 0 = 2 →
      (m.writeRw Reg.TIM_CTL 0x07FF07FF value).fld Reg.TIM_CTL 10 2 = m.fld Reg.TIM_CTL 10 2) :
    let m1 := m.writeRw Reg.TIM_CTL 0x07FF07FF value
    m.timCtl value =
      if bitOf value 31 then m1.timStep (.set (m1.rd64 Reg.TIM_SET_NS_LO Reg.TIM_SET_NS_HI)) else m1 := by
  have same : ((m.writeRw Reg.TIM_CTL 0x07FF07FF value).fld Reg.TIM_CTL 1 0 == m.fld Reg.TIM_CTL 1 0 &&
      ((m.writeRw Reg.TIM_CTL 0x07FF07FF value).fld Reg.TIM_CTL 1 0 != 2 ||
        (m.writeRw Reg.TIM_CTL 0x07FF07FF value).fld Reg.TIM_CTL 10 2 == m.fld Reg.TIM_CTL 10 2)) = true := by
    simp only [Bool.and_eq_true, Bool.or_eq_true, beq_iff_eq, bne_iff_ne]
    exact ⟨hsrc, (Decidable.em _).symm.imp_right hport⟩
  simp only [Mach.timCtl, same, if_true]

theorem exec_timNowRead {s : State} (ha : s.mach.awake = true) (hl : s.mach.access Reg.TIM_NOW_NS_LO = .live) :
    exec .timNowRead s = .next { s with mach := s.mach.latchNow } := by
  show execTimNowRead s = _
  simp only [execTimNowRead, runM_eq, ha, hl, decide_true, Bool.and_self, if_true]

theorem exec_timPpsSecWrite {s : State} (h : Writable s Reg.TIM_PPS_SEC) (value : Word) :
    exec (.timPpsSecWrite value) s = .next { s with mach := s.mach.ppsSec value.toNat } := by
  show execTimPpsSecWrite value s = _
  rw [execTimPpsSecWrite, runM_eq, regCmd_eq h]

/-- The second after the last, or the first of all, is taken; any other is counted. -/
theorem ppsSec_eq (m : Mach) (value : Word) :
    m.ppsSec value.toNat = if m.time.lastPps.all (fun p => value.toNat == (p + 1) % 2 ^ 32)
      then { m.wr Reg.TIM_PPS_SEC value with time := { m.time with lastPps := some value.toNat } }
      else m.count Reg.TIM_ERR_CNT := by
  cases h : m.time.lastPps with
  | none => simp [Mach.ppsSec, h]
  | some p => simp [Mach.ppsSec, h]

/-- Settles O21: a write of TIM_CTL by SET and the running entry, what a step leaves, the latched read, the PPS seconds. -/
theorem fabricTimeIsSetStampedAndStepped : Obligations.FabricTimeIsSetStampedAndStepped := by
  unfold Obligations.FabricTimeIsSetStampedAndStepped
  refine ⟨?_, fun m ns => ?_, fun s ha hl => ?_, fun s value h => ?_⟩
  · intro s value h m ns src hsrc hport
    have hexec := exec_timSet h value
    rw [timCtl_same_source hsrc hport] at hexec
    refine ⟨fun hset => ?_, fun hset => ⟨fun hidle => ?_, fun i left hrun => ?_⟩⟩
    · rw [hexec, if_neg (Bool.eq_false_iff.mp hset)]
    · rw [hexec, if_pos hset, timStep_idle hidle]
    · rw [hexec, if_pos hset, timStep_running hrun]
  · exact ⟨stepNow_set_now m ns, stepNow_set_frac m ns, stepNow_set_held m ns⟩
  · exact exec_timNowRead ha hl
  · rw [exec_timPpsSecWrite h, ppsSec_eq]

/-! ### Sources that measure or fall silent (09 R239, R240, R242) -/

section
variable {s : State} (hr : s.mach.running = true)
include hr

theorem exec_ppsEdge_source (h : s.mach.fld Reg.TIM_CTL 1 0 = 1) :
    let sec := s.mach.now / 10 ^ 9 / 2 ^ 32 * 2 ^ 32 + (s.mach.rd Reg.TIM_PPS_SEC).toNat
    exec .ppsEdge s =
      .next { s with mach := s.mach.measure (((sec * 10 ^ 9 * nsUnit : Nat) : Int) - (s.mach.time.acc : Int)) } := by
  show execPpsEdge s = _
  rw [execPpsEdge, runM_eq, whenRunning_eq hr, if_neg (fun hne => hne h)]

theorem exec_ppsEdge_other (h : s.mach.fld Reg.TIM_CTL 1 0 ≠ 1) : exec .ppsEdge s = .next s := by
  show execPpsEdge s = _
  rw [execPpsEdge, runM_eq, whenRunning_eq hr, if_pos h]

theorem exec_sourceLoss : exec .sourceLoss s = .next { s with
    mach := if s.mach.sourceSilent then s.mach.sourceLost else s.mach } := by
  show execSourceLoss s = _
  rw [execSourceLoss, runM_eq, whenRunning_eq hr]

end

/-- A PPS source is silent after 1.5 s, a Sync source after four Sync intervals. -/
theorem sourceSilent_iff (m : Mach) : m.sourceSilent = true ↔
    m.fld Reg.TIM_CTL 1 0 = 1 ∧ m.time.heard + 1500000000 ≤ m.advNs ∨
      m.fld Reg.TIM_CTL 1 0 = 2 ∧ 4 * 10 ^ 9 ≤ (m.advNs - m.time.heard) * 2 ^ m.fld Reg.TIM_CTL 26 24 := by
  have hsub : 1500000000 ≤ m.advNs - m.time.heard ↔ m.time.heard + 1500000000 ≤ m.advNs := by omega
  simp only [Mach.sourceSilent, Bool.or_eq_true, Bool.and_eq_true, beq_iff_eq, decide_eq_true_eq, hsub]

theorem sourceLost_first {m : Mach} (h : m.time.lost = false) :
    let m1 : Mach := { m with time := { m.time with lost := true, locked := 0 } }
    m.sourceLost = (m1.countWrap Reg.DGT_TEV_TIME).timGo (if m.timState = 2 then 3 else 1) 1 0 := by
  simp only [Mach.sourceLost, h, Bool.false_eq_true, if_false]

/-! ### Messages received (09 R243, R245, R246) -/

theorem sourcePort_isSource {m : Mach} {f : Nat} (h : m.sourcePort f = true) : m.isSource f = true :=
  (Bool.and_eq_true_iff.mp h).1

theorem ptpMine_profile {m : Mach} {domain : Byte} (h : domain.toNat = m.fld Reg.TIM_CTL 23 16) :
    m.ptpMine domain 0x531 = true := by
  simp [Mach.ptpMine, h]

section
variable {s : State} {port : BitVec 9} (hr : s.mach.running = true) (ht : s.mach.timePort port.toNat = true)
include hr ht

/-- A Sync that is replayed, or comes on another port than the source port, is only counted. -/
theorem exec_sync_counted {replayed : Bool} (h : replayed = true ∨ s.mach.isSource port.toNat = false)
    (domain : Byte) (sdo : BitVec 12) (sec : BitVec 48) (ns : Word) (corr : Quad) :
    exec (.sync port domain sdo sec ns corr replayed) s = .next { s with mach := s.mach.count Reg.TIM_ERR_CNT } := by
  have hc : (replayed || !s.mach.isSource port.toNat) = true := by simpa using h
  show execSync port domain sdo sec ns corr replayed s = _
  simp only [execSync, runM_eq, whenRunning_eq hr, ht, hc, Bool.not_true, Bool.false_eq_true, if_false, if_true]

theorem exec_pdelayReq_replayed (domain : Byte) (sdo : BitVec 12) (seq : BitVec 16) (identity : BitVec 80) :
    exec (.pdelayReq port domain sdo seq identity true) s = .next { s with mach := s.mach.count Reg.TIM_ERR_CNT } := by
  show execPdelayReq port domain sdo seq identity true s = _
  simp only [execPdelayReq, runM_eq, whenRunning_eq hr, ht, Bool.not_true, Bool.false_eq_true, if_false, if_true]

theorem exec_pdelayResp_replayed (domain : Byte) (sdo : BitVec 12) (corr : Quad) :
    exec (.pdelayResp port domain sdo corr true) s = .next { s with mach := s.mach.count Reg.TIM_ERR_CNT } := by
  show execPdelayResp port domain sdo corr true s = _
  simp only [execPdelayResp, runM_eq, whenRunning_eq hr, ht, Bool.not_true, Bool.false_eq_true, if_false, if_true]

variable {domain : Byte} (hd : domain.toNat = s.mach.fld Reg.TIM_CTL 23 16)
include hd

/-- A Sync of the profile on the usable source port measures origin plus correction plus peer delay. -/
theorem exec_sync_measures (hs : s.mach.sourcePort port.toNat = true) {d : Int}
    (hp : s.mach.time.peerDelay.find? (fun x => x.1 == port.toNat) = some (port.toNat, d))
    (sec : BitVec 48) (ns : Word) (corr : Quad) :
    let origin : Int := ((sec.toNat * 10 ^ 9 + ns.toNat) * nsUnit : Nat) + corr.toInt * 1000000
    exec (.sync port domain 0x531 sec ns corr false) s =
      .next { s with mach := s.mach.measure (origin + d - (s.mach.time.acc : Int)) } := by
  show execSync port domain 0x531 sec ns corr false s = _
  simp only [execSync, runM_eq, whenRunning_eq hr, ht, sourcePort_isSource hs, ptpMine_profile hd, hs, hp, Bool.not_true,
    Bool.or_self, Bool.false_eq_true, if_false]

theorem exec_pdelayReq_answers (seq : BitVec 16) (identity : BitVec 80) :
    let c := s.mach.draw 64
    let r := c.2.ptpMessage port.toNat 3 c.1 seq.toNat 127 0 (leBytes 10 identity.toNat).reverse
    exec (.pdelayReq port domain 0x531 seq identity false) s = .next { s with mach := r.2.sendTime port.toNat r.1 } := by
  show execPdelayReq port domain 0x531 seq identity false s = _
  simp only [execPdelayReq, runM_eq, whenRunning_eq hr, ht, ptpMine_profile hd, Bool.not_true, Bool.false_eq_true, if_false]

/-- A Pdelay_Resp sets half the round trip less the turnaround, and ends the outstanding request. -/
theorem exec_pdelayResp_times {t : Nat}
    (hp : s.mach.time.pdelaySent.find? (fun x => x.1 == port.toNat) = some (port.toNat, t)) (corr : Quad) :
    let delay : Int := (((s.mach.time.acc : Int) - (t : Int)) - corr.toInt * 1000000) / 2
    let time : TimeSt := { s.mach.time with
      peerDelay := (port.toNat, delay) :: s.mach.time.peerDelay.filter fun x => x.1 != port.toNat
      pdelaySent := s.mach.time.pdelaySent.filter fun x => x.1 != port.toNat }
    exec (.pdelayResp port domain 0x531 corr false) s = .next { s with mach := { s.mach with time := time } } := by
  show execPdelayResp port domain 0x531 corr false s = _
  simp only [execPdelayResp, runM_eq, whenRunning_eq hr, ht, ptpMine_profile hd, hp, Bool.not_true, Bool.false_eq_true, if_false]

end

/-! ### Messages sent (09 R243, R246) -/

section
variable {s : State} {port : BitVec 9} (hr : s.mach.running = true) (ht : s.mach.timePort port.toNat = true)
include hr ht

theorem exec_syncSend_sends (hm : s.mach.isMaster port.toNat = true) (hs : s.mach.isSource port.toNat = false) :
    let r := s.mach.ptpMessage port.toNat 0 s.mach.frac s.mach.time.syncSeq (-(s.mach.fld Reg.TIM_CTL 26 24 : Int)) s.mach.now []
    let m1 : Mach := { r.2 with time := { r.2.time with syncSeq := (r.2.time.syncSeq + 1) % 65536 } }
    exec (.syncSend port) s = .next { s with mach := m1.sendTime port.toNat r.1 } := by
  show execSyncSend port s = _
  simp only [execSyncSend, runM_eq, whenRunning_eq hr, ht, hm, hs, Bool.not_true, Bool.or_self, Bool.false_eq_true, if_false]

theorem exec_pdelaySend_sends (h : s.mach.isMaster port.toNat = true ∨ s.mach.isSource port.toNat = true) :
    let r := s.mach.ptpMessage port.toNat 2 0 s.mach.time.syncSeq 0 0 (List.replicate 10 0)
    let time : TimeSt := { r.2.time with
      syncSeq := (r.2.time.syncSeq + 1) % 65536
      pdelaySent := (port.toNat, s.mach.time.acc) :: s.mach.time.pdelaySent.filter fun x => x.1 != port.toNat }
    let m1 : Mach := { r.2 with time := time }
    exec (.pdelaySend port) s = .next { s with mach := m1.sendTime port.toNat r.1 } := by
  have hc : (s.mach.isMaster port.toNat || s.mach.isSource port.toNat) = true := by simpa using h
  show execPdelaySend port s = _
  simp only [execPdelaySend, runM_eq, whenRunning_eq hr, ht, hc, Bool.not_true, Bool.or_self, Bool.false_eq_true, if_false]

end

/-- Settles O22: the PPS edge, the loss of a source, then the messages received and sent on a port that carries time. -/
theorem timeSourcesMeasureOffsets : Obligations.TimeSourcesMeasureOffsets := by
  unfold Obligations.TimeSourcesMeasureOffsets
  intro s port domain hr m f
  refine ⟨exec_ppsEdge_source hr, exec_ppsEdge_other hr, fun hs => ?_, fun hl hs => ?_, fun ht hd => ⟨?_, ?_, ?_, ?_⟩, ?_, ?_⟩
  · rw [exec_sourceLoss hr, if_neg (Bool.eq_false_iff.mp hs)]
  · rw [exec_sourceLoss hr, if_pos ((sourceSilent_iff _).mpr hs), sourceLost_first hl]
  · exact fun sec ns corr hs _ hp => exec_sync_measures hr ht hd hs hp sec ns corr
  · exact fun domain sdo sec ns corr replayed h => exec_sync_counted hr ht h domain sdo sec ns corr
  · exact exec_pdelayReq_answers hr ht hd
  · exact fun corr _ hp => exec_pdelayResp_times hr ht hd hp corr
  · exact exec_syncSend_sends hr
  · exact exec_pdelaySend_sends hr

/-! ### A replayed message (09 R245) -/

/-- A saturating counter holds one more, or stays at its top. -/
theorem satAdd_one_word (v : Word) :
    BitVec.ofNat 32 (satAdd 0xFFFFFFFF v.toNat 1) = if v = 0xFFFFFFFF then 0xFFFFFFFF else v + 1 := by
  unfold satAdd
  split
  next htop => rw [htop]; rfl
  next hlow =>
    have hlt : v.toNat + 1 ≤ 0xFFFFFFFF := by bv_omega
    rw [Nat.min_eq_right hlt]
    bv_omega

theorem count_eq (m : Mach) (off : Nat) :
    m.count off = m.wr off (if m.rd off = 0xFFFFFFFF then 0xFFFFFFFF else m.rd off + 1) := by
  rw [Mach.count, Mach.countN, satAdd_one_word]

/-- Settles O55: each replayed message is only counted, by a counter that saturates; the Sync that follows is measured. -/
theorem replayedTimePacketsAreDiscardedAndCounted : Obligations.ReplayedTimePacketsAreDiscardedAndCounted := by
  unfold Obligations.ReplayedTimePacketsAreDiscardedAndCounted
  intro s port domain sdo hr ht m n counted
  have hcount : .next { s with mach := s.mach.count Reg.TIM_ERR_CNT } = (.next counted : Host.Outcome State Fault Refusal) := by
    rw [count_eq]
    rfl
  refine ⟨fun sec ns corr seq identity => ⟨?_, ?_, ?_⟩, ?_⟩
  · rw [exec_sync_counted hr ht (.inl rfl), hcount]
  · rw [exec_pdelayReq_replayed hr ht, hcount]
  · rw [exec_pdelayResp_replayed hr ht, hcount]
  · rintro hs hd rfl d hp sec ns corr
    exact exec_sync_measures hr ht hd hs hp sec ns corr

end Sys2Proof.Machine

/-! PROOFS. The step calendar (09): writes of TIM_CAL_CTL, the time of an armed switch and the switch itself, the starts of
entries, and refreshes. -/
namespace Sys2Proof.Machine

/-! ### Writes of TIM_CAL_CTL (09 R251, R254, R256) -/

section
variable {s : State} (h : Writable s Reg.TIM_CAL_CTL) (value : Word)
include h

theorem exec_calEnWrite : exec (.calEnWrite value) s = .next { s with mach := s.mach.calCtl value.toNat } := by
  show execCalEnWrite value s = _
  rw [execCalEnWrite, runM_eq, regCmd_eq h]

theorem exec_calArm : exec (.calArm value) s = .next { s with mach := s.mach.calCtl value.toNat } := by
  show execCalArm value s = _
  rw [execCalArm, runM_eq, regCmd_eq h]

end

section
variable {m : Mach}

theorem calArm_armed (ha : m.time.arm ≠ none) : m.calArm = m.count Reg.TIM_ERR_CNT := by
  simp only [Mach.calArm, Option.isSome_iff_ne_none.mpr ha, if_true]

/-- ARM of an unarmed calendar refuses a malformed inactive bank, and captures the switch to a good one. -/
theorem calArm_unarmed (ha : m.time.arm = none) :
    let count := m.fld Reg.TIM_CAL_CTL 12 0
    let m1 := m.unfence fun x => x == .calendar (1 - m.calActive)
    let arm : CalArm :=
      ⟨count, m1.rd64 Reg.TIM_CAL_BASE_LO Reg.TIM_CAL_BASE_HI, m1.rd64 Reg.TIM_CAL_SWITCH_LO Reg.TIM_CAL_SWITCH_HI, m1.now⟩
    let armed : Mach := { (m1.setFlag Reg.TIM_CAL_CTL 28 false).setFlag Reg.TIM_CAL_CTL 30 true with
      time := { m1.time with arm := some arm, calFresh := [] } }
    m.calArm = if m.bankBad (1 - m.calActive) count then m.setFlag Reg.TIM_CAL_CTL 28 true else armed := by
  simp only [Mach.calArm, ha, Option.isSome_none, Bool.false_eq_true, if_false]

end

/-! ### The armed switch (09 R254, R255) -/

section
variable {m : Mach} (a : CalArm)

theorem switchNs_noCycle (h : m.hasCycle m.cal = false) : m.switchNs a = max a.switchAt a.armedAt := by
  simp [Mach.switchNs, h]

/-- The first multiple of `L` that reaches `x` is less than `L` beyond it. -/
theorem ceil_mul_bounds {L : Nat} (hL : 0 < L) (x : Nat) : x ≤ (x + L - 1) / L * L ∧ (x + L - 1) / L * L < x + L := by
  have hlt : (x + L - 1) % L < L := Nat.mod_lt _ hL
  have hdiv : (x + L - 1) / L * L + (x + L - 1) % L = x + L - 1 := Nat.div_add_mod' _ _
  omega

/-- With a cycle the switch waits for the first cycle boundary at or after the switch time. -/
theorem switchNs_boundary (h : m.hasCycle m.cal = true) (hL : 0 < m.calLen) :
    max a.switchAt a.armedAt ≤ m.switchNs a ∧ m.switchNs a < max (max a.switchAt a.armedAt) m.time.base + m.calLen ∧
      ∃ cycles, m.switchNs a = m.time.base + cycles * m.calLen := by
  simp only [Mach.switchNs, h, Bool.not_true, Bool.false_eq_true, if_false]
  split
  next hbase => exact ⟨hbase, by omega, 0, by omega⟩
  next hbase =>
    have hceil := ceil_mul_bounds hL (max a.switchAt a.armedAt - m.time.base)
    exact ⟨by omega, by omega, _, rfl⟩

end

section
variable {s : State} {a : CalArm} (hr : s.mach.running = true) (ha : s.mach.time.arm = some a)
include hr ha

theorem exec_bankSwitch_early (h : s.mach.now < s.mach.switchNs a) : exec .bankSwitch s = .next s := by
  show execBankSwitch s = _
  simp only [execBankSwitch, runM_eq, whenRunning_eq hr, ha, h, if_true]

theorem exec_bankSwitch_due (h : s.mach.switchNs a ≤ s.mach.now) :
    let m1 := ((s.mach.setFlag Reg.TIM_CAL_CTL 30 false).setFld Reg.TIM_CAL_CTL 29 29 (1 - s.mach.calActive)).setFld
      Reg.TIM_CAL_CTL 25 13 a.count
    exec .bankSwitch s = .next { s with
      mach := Mach.releaseStep { m1 with time := { m1.time with base := a.base, arm := none } } } := by
  show execBankSwitch s = _
  simp only [execBankSwitch, runM_eq, whenRunning_eq hr, ha, Nat.not_lt.mpr h, if_false]

end

/-! ### Entry starts (09 R248, R251, R257) and refreshes (08 R218) -/

/-- What a start of the running entry does when its bank reads without an error: the held step first, else the mark. -/
def Mach.calStart (m : Mach) : Mach :=
  match m.time.held, m.runningEntry with
  | some h, run => if run.isNone || m.time.heldEnd ≤ m.now then (m.stepNow h).entrySeen else m
  | none, none => m
  | none, some (i, _) =>
    if m.entryStart = m.time.entryBegan then m
    else if bitOf (m.calWord m.calActive i 1) 28 then m.entrySeen.timeEvent 0x13 0 0 4 i m.calActive 0
    else m.entrySeen

theorem exec_calEntryStart_clean {s : State} (hr : s.mach.running = true) (hu : Unspoiled s.mach) :
    exec (.calEntryStart .none) s = .next { s with mach := s.mach.calStart } := by
  show execCalEntryStart .none s = _
  rw [execCalEntryStart, runM_eq, whenRunning_eq hr]
  simp only [injRead_clean hu.1, orErr, Mach.calStart]
  cases s.mach.time.held <;> cases s.mach.runningEntry <;> rfl

section
variable {m : Mach}

theorem calStart_releases {h : HeldStep} (hh : m.time.held = some h) (hdue : m.runningEntry = none ∨ m.time.heldEnd ≤ m.now) :
    m.calStart = (m.stepNow h).entrySeen := by
  have hc : (m.runningEntry.isNone || decide (m.time.heldEnd ≤ m.now)) = true := by simpa using hdue
  simp only [Mach.calStart, hh, hc, if_true]

theorem calStart_holds {h : HeldStep} {i left : Nat} (hh : m.time.held = some h) (hrun : m.runningEntry = some (i, left))
    (hearly : m.now < m.time.heldEnd) : m.calStart = m := by
  have hc : (m.runningEntry.isNone || decide (m.time.heldEnd ≤ m.now)) = false := by simpa [hrun] using hearly
  simp only [Mach.calStart, hh, hc, Bool.false_eq_true, if_false]

theorem calStart_marks {i left : Nat} (hh : m.time.held = none) (hrun : m.runningEntry = some (i, left)) :
    m.calStart = if m.entryStart = m.time.entryBegan then m
      else if bitOf (m.calWord m.calActive i 1) 28 then m.entrySeen.timeEvent 0x13 0 0 4 i m.calActive 0
      else m.entrySeen := by
  simp only [Mach.calStart, hh, hrun]

theorem calStart_idle (hh : m.time.held = none) (hrun : m.runningEntry = none) : m.calStart = m := by
  simp only [Mach.calStart, hh, hrun]

end

theorem exec_hbmRefresh {s : State} (hr : s.mach.running = true) (forced : Bool) :
    exec (.hbmRefresh forced) s = .next { s with
      mach := if forced = true ∧ s.mach.calPermits 31 = false then s.mach.countWrap Reg.DGT_TEV_REFRESH else s.mach } := by
  show execHbmRefresh forced s = _
  simp only [execHbmRefresh, runM_eq, whenRunning_eq hr, Bool.and_eq_true, Bool.not_eq_true']

/-- Settles O23: the register write by ARM, the switch by its time, the entry start by the held step and the running entry. -/
theorem calendarBanksSwitchAtTheirTime : Obligations.CalendarBanksSwitchAtTheirTime := by
  unfold Obligations.CalendarBanksSwitchAtTheirTime
  intro s m
  refine ⟨?_, fun hr => ⟨?_, ?_, ?_, ?_, ?_, ?_, ?_, ?_⟩⟩
  · intro value hw m1 count m2 arm armed
    refine ⟨fun hb => ?_, fun hb ha => ?_, fun hb ha => ?_⟩
    · rw [exec_calEnWrite hw, Mach.calCtl, if_neg (Bool.eq_false_iff.mp hb)]
    · rw [exec_calArm hw, Mach.calCtl, if_pos hb, calArm_unarmed ha]
    · rw [exec_calArm hw, Mach.calCtl, if_pos hb, calArm_armed ha]
  · exact fun _ => exec_bankSwitch_due hr
  · exact fun _ => exec_bankSwitch_early hr
  · exact fun a => ⟨switchNs_noCycle a, switchNs_boundary a⟩
  · intro hu h hh hdue
    rw [exec_calEntryStart_clean hr hu, calStart_releases hh hdue]
  · intro hu h i left hh hrun hearly
    rw [exec_calEntryStart_clean hr hu, calStart_holds hh hrun hearly]
  · intro hu hh i left hrun
    rw [exec_calEntryStart_clean hr hu, calStart_marks hh hrun]
  · intro hu hh hrun
    rw [exec_calEntryStart_clean hr hu, calStart_idle hh hrun]
  · exact exec_hbmRefresh hr

end Sys2Proof.Machine

/-! PROOFS. The link layer of a port (10): the flits it receives, its replay buffer, LINK flits, and its fault injection. -/
namespace Sys2Proof.Machine

/-! ### Flits received (10 R260, R261, R272) -/

theorem exec_flitRx {s : State} (hr : s.mach.running = true) (port : BitVec 9) (flit : List Byte) (failed : Bool)
    (groups : List (BitVec 9 × List (BitVec 2))) :
    exec (.flitRx port flit failed groups) s = .next { s with
      mach := (groups.foldl (fun a x => a.groupRx x.1.toNat x.2) s.mach).flitRx port.toNat flit failed } := by
  show execFlitRx port flit failed groups s = _
  rw [execFlitRx, runM_eq, whenRunning_eq hr]

section
variable {m : Mach} {f : Nat} {p : Port} (hp : m.port? f = some p) (hl : p.linked = true)
include hl

omit hp in
/-- Every CRC failure on a linked port is counted and answered with a NAK. -/
theorem rxBad_crc (m : Mach) : m.rxBad p true =
    ((m.count (Reg.TRL_CRC_CNT p.first)).modPort p.first fun q => { q with naking := true }).sendLink p.first true 0 := by
  simp only [Mach.rxBad, hl, Bool.true_or, if_true]

include hp

theorem flitRx_failed (flit : List Byte) : m.flitRx f flit true = m.rxBad p true := by
  simp only [Mach.flitRx, hp, hl, Bool.true_or, Bool.not_true, Bool.false_eq_true, if_false, if_true]

/-- A sound DATA flit that carries no ACK is judged by its SEQ alone. -/
theorem flitRx_data {flit : List Byte} (hcrc : leNat (flit.drop 252) = crc32 (flit.take 252))
    (htype : bits (leNat (flit.take 4)) 31 29 = 1 ∨ bits (leNat (flit.take 4)) 31 29 = 2)
    (hack : bitOf (leNat (flit.take 4)) 4 = false) :
    let w := leNat (flit.take 4)
    let seq := bits w 28 17
    m.flitRx f flit false =
      if seq = p.rxNext then
        m.modPort f fun q => { q with
          rxNext := (seq + 1) % 4096, rxAny := true, naking := false, rxPart := if bitOf w 3 then 0 else q.rxPart + 1
          rxBytes := if bitOf w 3 then [] else q.rxBytes ++ (flit.drop 4).take 248 }
      else if p.rxAny && seqOld (replayDepth p.width) p.rxNext seq then m
      else m.rxBad p false := by
  have hsound : (leNat (flit.drop 252) != crc32 (flit.take 252)) = false := by simpa using hcrc
  have hdefined : decide (5 ≤ bits (leNat (flit.take 4)) 31 29) = false := by
    rw [decide_eq_false_iff_not]
    omega
  have hdata : (decide (bits (leNat (flit.take 4)) 31 29 = 1) || decide (bits (leNat (flit.take 4)) 31 29 = 2)) = true := by
    simpa using htype
  simp only [Mach.flitRx, hp, hl, hsound, hdefined, hdata, hack, Bool.true_or, Bool.not_true, Bool.or_self, Bool.and_self,
    Bool.false_eq_true, if_false, if_true]

end

/-! ### The replay buffer (10 R272 to R275) -/

section
variable {m : Mach} {st : Store} {f : Nat} {p : Port} (hp : m.port? f = some p)
include hp

theorem nak_held {seq i : Nat} (hi : p.replay.findIdx? (fun x => x.seq == seq) = some i) :
    m.nak st f seq = m.resend st f i := by
  simp only [Mach.nak, hp, hi]

theorem nak_unknown {seq : Nat} (h : ∀ x ∈ p.replay, x.seq ≠ seq) : m.nak st f seq = m := by
  have hi : p.replay.findIdx? (fun x => x.seq == seq) = none := by simpa [List.findIdx?_eq_none_iff] using h
  simp only [Mach.nak, hp, hi]

/-- A flit at the retry limit takes the port DOWN instead of a replay. -/
theorem resend_exhausted {i : Nat} (h : ∃ x ∈ p.replay.drop i, max 1 (m.fld (Reg.TRL_REPLAY_CFG f) 19 16) ≤ x.tries) :
    m.resend st f i = m.portDown st f := by
  obtain ⟨x, hx, hlimit⟩ := h
  have hne : (p.replay.drop i).isEmpty = false := List.isEmpty_eq_false_iff.mpr (List.ne_nil_of_mem hx)
  have hany : ((p.replay.drop i).any fun x => decide (max 1 (m.fld (Reg.TRL_REPLAY_CFG f) 19 16) ≤ x.tries)) = true :=
    List.any_eq_true.mpr ⟨x, hx, decide_eq_true hlimit⟩
  simp only [Mach.resend, hp, hne, hany, Bool.false_eq_true, if_false, if_true]

/-- Below the retry limit every flit from place `i` on is sent again, in order, and stays in the buffer. -/
theorem resend_fresh {i : Nat} (hne : p.replay.drop i ≠ [])
    (h : ∀ x ∈ p.replay.drop i, x.tries < max 1 (m.fld (Reg.TRL_REPLAY_CFG f) 19 16)) :
    let again := (p.replay.drop i).map fun x => { x with tries := x.tries + 1 }
    let m1 := (m.modPort f fun q => { q with replay := q.replay.take i ++ again }).count (Reg.TRL_RETRY_CNT f)
    m.resend st f i = again.foldl (fun a x => a.sendData f x) (m1.countWrap Reg.DGT_TEV_RETRY) := by
  have hany : ((p.replay.drop i).any fun x => decide (max 1 (m.fld (Reg.TRL_REPLAY_CFG f) 19 16) ≤ x.tries)) = false :=
    List.any_eq_false.mpr fun x hx => by simpa only [decide_eq_true_eq, Nat.not_le] using h x hx
  simp only [Mach.resend, hp, List.isEmpty_eq_false_iff.mpr hne, hany, Bool.false_eq_true, if_false]

end

section
variable {s : State} {port : BitVec 9} {p : Port} (hr : s.mach.running = true)
include hr

theorem exec_nakRx (port : BitVec 9) (seq : BitVec 12) :
    exec (.nakRx port seq) s = .next { s with mach := s.mach.nak s.store port.toNat seq.toNat } := by
  show execNakRx port seq s = _
  rw [execNakRx, runM_eq, whenRunning_eq hr]

variable (hp : s.mach.port? port.toNat = some p) (hl : p.linked = true)
include hp hl

theorem exec_ackTimeout_sender :
    exec (.ackTimeout port false) s = .next { s with mach := s.mach.resend s.store port.toNat 0 } := by
  show execAckTimeout port false s = _
  simp only [execAckTimeout, runM_eq, whenRunning_eq hr, hp, hl, Bool.not_true, Bool.false_eq_true, if_false]

theorem exec_ackTimeout_naking (hn : p.naking = true) :
    exec (.ackTimeout port true) s = .next { s with mach := s.mach.sendLink port.toNat true 0 } := by
  show execAckTimeout port true s = _
  simp only [execAckTimeout, runM_eq, whenRunning_eq hr, hp, hl, hn, Bool.not_true, Bool.false_eq_true, if_false, if_true]

/-! ### LINK flits and their requests (10 R266, R268, R280) -/

theorem exec_linkFlit (msg : LinkMsg) :
    let m1 := s.mach.modPort port.toNat fun q => q.takeCredit (msg.creditRet.map (·.toNat))
    exec (.linkFlit port msg) s = .next { s with
      mach := (if msg.nak then m1.nak s.store port.toNat msg.nakSeq.toNat else m1).linkReq s.store port.toNat msg.req.toNat } := by
  show execLinkFlit port msg s = _
  simp only [execLinkFlit, runM_eq, whenRunning_eq hr, hp, hl, Bool.not_true, Bool.false_eq_true, if_false]

end

section
variable {s : State} (hr : s.mach.running = true) (port : BitVec 9)
include hr

theorem exec_quiesce : exec (.quiesce port) s = .next { s with mach := s.mach.linkReq s.store port.toNat 1 } := by
  show execQuiesce port s = _
  rw [execQuiesce, runM_eq, whenRunning_eq hr]

theorem exec_resume : exec (.resume port) s = .next { s with mach := s.mach.linkReq s.store port.toNat 2 } := by
  show execResume port s = _
  rw [execResume, runM_eq, whenRunning_eq hr]

theorem exec_downNotice : exec (.downNotice port) s = .next { s with mach := s.mach.linkReq s.store port.toNat 3 } := by
  show execDownNotice port s = _
  rw [execDownNotice, runM_eq, whenRunning_eq hr]

end

section
variable {m : Mach} {st : Store} {f : Nat} {p : Port} (hp : m.port? f = some p)
include hp

theorem port_speaks_rev3_iff : (m.port? f).any (fun p => decide (3 ≤ p.negRev)) = true ↔ 3 ≤ p.negRev := by
  rw [hp, Option.any_some, decide_eq_true_iff]

theorem linkReq_below_rev3 (h : p.negRev < 3) (req : Nat) : m.linkReq st f req = m := by
  have hany := Bool.eq_false_iff.mpr (mt (port_speaks_rev3_iff hp).mp (Nat.not_le.mpr h))
  simp only [Mach.linkReq, hany, Bool.not_false, if_true]

theorem linkReq_from_rev3 (h : 3 ≤ p.negRev) :
    m.linkReq st f 1 = m.modPort f (fun q => { q with quiesced := true }) ∧
      m.linkReq st f 2 = m.modPort f (fun q => { q with quiesced := false }) ∧ m.linkReq st f 3 = m.downNotice st f := by
  have hany := (port_speaks_rev3_iff hp).mpr h
  refine ⟨?_, ?_, ?_⟩ <;>
    simp only [Mach.linkReq, hany, Bool.not_true, Bool.false_eq_true, if_false, if_true, Nat.reduceEqDiff]

theorem downNotice_linked (hl : p.linked = true) : m.downNotice st f = m.portDown st f := by
  simp only [Mach.downNotice, hp, hl, if_true]

end

/-- Settles O24: a flit by its CRC and SEQ, a NAK by its place in the replay buffer, a request by the partner's revision. -/
theorem linkFlitsAreAcceptedOnceAndInOrder : Obligations.LinkFlitsAreAcceptedOnceAndInOrder := by
  unfold Obligations.LinkFlitsAreAcceptedOnceAndInOrder
  intro s port p hr hp hl m f resent fresh
  refine ⟨?_, fun flit => ?_, exec_flitRx hr port,
    fun seq i hi hspent => ?_, fun seq i hi ⟨hne, hfresh⟩ => ?_, fun seq hother => ?_, fun ⟨hne, hfresh⟩ => ?_,
    exec_ackTimeout_naking hr hp hl, exec_linkFlit hr hp hl, fun h3 => ?_, fun hlow => ?_⟩
  · intro flit hcrc w seq htype hack
    rw [exec_flitRx hr, List.foldl_nil, flitRx_data hp hl hcrc htype hack]
    refine ⟨fun hnext => ?_, fun hne hany hold => ?_⟩
    · rw [if_pos hnext]
    · rw [if_neg hne, if_pos (Bool.and_eq_true_iff.mpr ⟨hany, hold⟩)]
  · rw [exec_flitRx hr, List.foldl_nil, flitRx_failed hp hl, rxBad_crc hl]
  · rw [exec_nakRx hr, nak_held hp hi, resend_exhausted hp hspent]
  · rw [exec_nakRx hr, nak_held hp hi, resend_fresh hp hne hfresh]
  · rw [exec_nakRx hr, nak_unknown hp hother]
  · rw [exec_ackTimeout_sender hr hp hl, resend_fresh hp hne hfresh]
  · obtain ⟨hquiesce, hresume, hdown⟩ := linkReq_from_rev3 (st := s.store) hp h3
    rw [exec_quiesce hr, exec_resume hr, exec_downNotice hr, hquiesce, hresume, hdown, downNotice_linked hp hl]
    exact ⟨rfl, rfl, rfl⟩
  · rw [exec_quiesce hr, exec_resume hr, exec_downNotice hr]
    simp only [linkReq_below_rev3 hp hlow, and_self]

/-! ### Fault injection (10 R288, R289) -/

theorem exec_trlFiGo {s : State} {port : BitVec 9} (h : Writable s (Reg.TRL_FI_CTL port.toNat)) (value : Word) :
    exec (.trlFiGo port value) s = .next { s with mach := s.mach.fiCtl port.toNat value.toNat } := by
  show execTrlFiGo port value s = _
  rw [execTrlFiGo, runM_eq, regCmd_eq h]

section
variable {m : Mach} {f value : Nat}

theorem fiCtl_off (h : bits value 30 28 = 0) :
    m.fiCtl f value = (m.writeRw (Reg.TRL_FI_CTL f) 0x7F0007FF value).modPort f fun q => { q with fiArmed := false } := by
  simp [Mach.fiCtl, h]

/-- A reserved MODE disarms the port and reads back as 0. -/
theorem fiCtl_reserved (h : 4 < bits value 30 28) :
    m.fiCtl f value = ((m.writeRw (Reg.TRL_FI_CTL f) 0x7F0007FF value).setFld (Reg.TRL_FI_CTL f) 30 28 0).modPort f
      fun q => { q with fiArmed := false } := by
  simp [Mach.fiCtl, h]

/-- A MODE that injects leaves the port as it is armed, unless GO arms it anew. -/
theorem fiCtl_injects (hpos : 0 < bits value 30 28) (hmax : bits value 30 28 ≤ 4) :
    let m1 := m.writeRw (Reg.TRL_FI_CTL f) 0x7F0007FF value
    m.fiCtl f value = if bitOf value 31 then m1.modPort f fun q => { q with fiArmed := true, fiCount := 0 } else m1 := by
  simp [Mach.fiCtl, Nat.pos_iff_ne_zero.mp hpos, Nat.not_lt.mpr hmax]

end

section
variable {s : State} {port : BitVec 9} {p : Port} (hr : s.mach.running = true) (hp : s.mach.port? port.toNat = some p)
include hr hp

theorem exec_reorderTimeout_none (h : p.fiHeld = []) : exec (.reorderTimeout port) s = .next s := by
  show execReorderTimeout port s = _
  simp only [execReorderTimeout, runM_eq, whenRunning_eq hr, hp, h]

theorem exec_reorderTimeout_oldest {x : HeldPkt} {t : List HeldPkt} (h : p.fiHeld = x :: t) :
    exec (.reorderTimeout port) s = .next { s with
      mach := (s.mach.modPort port.toNat fun q => { q with fiHeld := t }).sendPacket port.toNat x.pkt x.routed x.badFrom } := by
  show execReorderTimeout port s = _
  simp only [execReorderTimeout, runM_eq, whenRunning_eq hr, hp, h]

end

/-- Settles O26: the register write by its MODE and GO, the timeout by what the injection holds. -/
theorem linkFaultInjectionArmsAndReordersPackets : Obligations.LinkFaultInjectionArmsAndReordersPackets := by
  unfold Obligations.LinkFaultInjectionArmsAndReordersPackets
  refine ⟨fun s port value h => ?_, fun s port p hr hp => ⟨exec_reorderTimeout_none hr hp, fun x t => exec_reorderTimeout_oldest hr hp⟩⟩
  intro f m1 mode
  refine ⟨fun hoff => ?_, fun hreserved => ?_, fun hpos hmax hgo => ?_, fun hpos hmax hgo => ?_⟩
  · rw [exec_trlFiGo h, fiCtl_off hoff]
  · rw [exec_trlFiGo h, fiCtl_reserved hreserved]
  · rw [exec_trlFiGo h, fiCtl_injects hpos hmax, if_pos hgo]
  · rw [exec_trlFiGo h, fiCtl_injects hpos hmax, if_neg (Bool.eq_false_iff.mp hgo)]

end Sys2Proof.Machine

/-! PROOFS. The identity exchange of a port (10 R278 to R281, 20 R508): each message and each timeout takes it one step on. -/
namespace Sys2Proof.Machine

section
variable {s : State} {port : BitVec 9} {p : Port} (hr : s.mach.running = true) (hp : s.mach.port? port.toNat = some p)
  (hx : p.exchanging = true)
include hr hp

/-! ### Resends and timeouts (10 R278, R279, R281) -/

theorem exec_authTimeout (ha : p.authState = 3) :
    exec (.authTimeout port) s = .next { s with mach := s.mach.authFail s.store port.toNat } := by
  show execAuthTimeout port s = _
  simp only [execAuthTimeout, runM_eq, whenRunning_eq hr, hp, ha, beq_self_eq_true, if_true]

include hx

/-- Before any message after IDENT, the IDENT itself is resent; after, those messages together. -/
theorem exec_identResend : exec (.identResend port) s = .next { s with
    mach := if p.idSent.isEmpty then s.mach.sendIdent p.first
      else p.idSent.foldl (fun a x => a.idMsg p.first x.1 x.2) s.mach } := by
  show execIdentResend port s = _
  simp only [execIdentResend, runM_eq, whenRunning_eq hr, hp, hx, Bool.not_true, Bool.false_eq_true, if_false]

theorem exec_identTimeout_unseen (hs : p.partnerSeen = false) :
    exec (.identTimeout port) s = .next { s with mach := s.mach.portDown s.store port.toNat } := by
  show execIdentTimeout port s = _
  simp only [execIdentTimeout, runM_eq, whenRunning_eq hr, hp, hx, hs, Bool.not_false, Bool.and_self, if_true]

/-! ### Messages (10 R278, R279, R281; 20 R508, R509) -/

variable (hu : p.usable = false)
include hu

/-- A message has its effect on a port that is exchanging. -/
theorem onIdent_exchanging (st : Store) (g : Port → Mach → Mach) : s.mach.onIdent st port.toNat g = g p s.mach := by
  simp only [Mach.onIdent, whenRunning_eq hr, hp, hu, hx, Bool.true_or, Bool.false_eq_true, if_false, if_true]

theorem exec_ident_invalid {msg : Ident} (hv : identValid msg = false) : exec (.ident port msg) s = .next s := by
  show execIdent port msg s = _
  simp only [execIdent, runM_eq, onIdent_exchanging hr hp hx hu, hv, Bool.not_false, if_true]

theorem exec_ident_first {msg : Ident} (hv : identValid msg = true) (hs : p.partnerSeen = false) (hm : msg.peerSeen = false) :
    let m1 := s.mach.modPort port.toNat fun q => { q with
      ident := some msg, partnerSeen := true, negRev := min 3 msg.revMax.toNat }
    exec (.ident port msg) s = .next { s with mach := m1.sendIdent port.toNat } := by
  show execIdent port msg s = _
  simp only [execIdent, runM_eq, onIdent_exchanging hr hp hx hu, hv, hs, hm, hx, Bool.not_true, Bool.false_and, Bool.false_eq_true,
    if_false]

theorem exec_challenge_answered (nonce : List Byte) {i : Ident} (hi : p.ident = some i) :
    let m1 := s.mach.sendIdMsg port.toNat 1 unitKey
    let d := m1.draw 256
    exec (.challenge port nonce) s = .next { s with
      mach := if s.mach.flt.fences.contains 37 then m1
        else d.2.sendIdMsg port.toNat 3 (sm2Sign (d.1 % (sm2N - 1) + 1) (challengeText nonce (s.mach.ownIdent p) i)) } := by
  show execChallenge port nonce s = _
  simp only [execChallenge, runM_eq, onIdent_exchanging hr hp hx hu, hi]

theorem exec_linkDone_first {i : Ident} (hi : p.ident = some i) (hs : p.partnerSeen = true) (hd : p.doneRcvd = false) :
    let m1 := s.mach.modPort port.toNat fun q => { q with
      doneRcvd := true, txSeq := 0, rxNext := 0, rxAny := false, replay := [], retSeen := List.replicate 8 0,
      retOut := List.replicate 8 0, retSent := List.replicate 8 0, credit := i.credit.map (·.toNat) }
    exec (.linkDone port) s = .next { s with mach := if p.doneSent then m1.exchangeEnd s.store port.toNat else m1 } := by
  show execLinkDone port s = _
  simp only [execLinkDone, runM_eq, onIdent_exchanging hr hp hx hu, hi, hs, hd, hx, Bool.not_true, Bool.or_self, Bool.and_true,
    Bool.false_eq_true, if_false]

/-! While a challenge is out -/

variable (ha : p.authState = 3)
include ha

/-- A KEY is kept when its digest gives the partner's UNIT_ID (20 R508). -/
theorem exec_linkKey_challenged (key : List Byte) : exec (.linkKey port key) s = .next { s with
    mach := if (sm3 key).take 16 = uidBytes (p.ident.getD {}) then s.mach.modPort port.toNat fun q => { q with peerKey := key }
      else s.mach.authFail s.store port.toNat } := by
  show execLinkKey port key s = _
  simp only [execLinkKey, runM_eq, onIdent_exchanging hr hp hx hu, ha, bne_iff_ne, ne_eq, ite_not, if_true]

theorem exec_response_challenged (sig : List Byte) :
    let i := p.ident.getD {}
    exec (.response port sig) s = .next { s with
      mach := if sm2Verify p.peerKey (uidBytes i) (challengeText p.nonce i (s.mach.ownIdent p)) sig then
          (s.mach.modPort port.toNat fun q => { q with authState := 1 }).finishAuth s.store port.toNat
        else s.mach.authFail s.store port.toNat } := by
  show execResponse port sig s = _
  simp only [execResponse, runM_eq, onIdent_exchanging hr hp hx hu, ha, bne_self_eq_false, Bool.false_eq_true, if_false]

end

/-- Settles O25: each message and timeout by the lemma of its command. -/
theorem identityExchangeGoesStepByStep : Obligations.IdentityExchangeGoesStepByStep := by
  unfold Obligations.IdentityExchangeGoesStepByStep
  intro s port p hr hp hu hx m f failed
  refine ⟨fun msg => exec_ident_first hr hp hx hu, fun msg => exec_ident_invalid hr hp hx hu, fun hnone => ?_, fun hsent => ?_,
    exec_identTimeout_unseen hr hp hx, fun ha => ⟨fun key hkey => ?_, fun key hkey => ?_, ?_, ?_, exec_authTimeout hr hp ha⟩,
    fun nonce i hi => exec_challenge_answered hr hp hx hu nonce hi,
    fun i => exec_linkDone_first hr hp hx hu⟩
  · rw [exec_identResend hr hp hx, if_pos (List.isEmpty_iff.mpr hnone)]
  · rw [exec_identResend hr hp hx, if_neg (mt List.isEmpty_iff.mp hsent)]
  · rw [exec_linkKey_challenged hr hp hx hu ha, if_pos hkey]
  · rw [exec_linkKey_challenged hr hp hx hu ha, if_neg hkey]
  · intro sig i hv
    rw [exec_response_challenged hr hp hx hu ha, if_pos hv]
  · intro sig i hv
    rw [exec_response_challenged hr hp hx hu ha, if_neg (Bool.eq_false_iff.mp hv)]

end Sys2Proof.Machine

/-! PROOFS. Lanes (11), what its statements share: a command while the lanes run, a lane read after a change, and the port
that holds a lane. -/
namespace Sys2Proof.Machine

theorem whenLanes_eq {s : State} (h : LanesRun s) (f : Mach → Mach) : s.mach.whenLanes f = f s.mach := by
  obtain ⟨hawake, hhalt, hstage⟩ := h
  simp [Mach.whenLanes, hawake, hhalt, hstage]

/-- A lane put in front of the others, or left unlisted when it is as at reset, is the lane found. -/
theorem lane_found {x : LaneX} {n : Nat} {rest : List LaneX} (hx : x.lane = n) (hrest : rest.find? (fun y => y.lane == n) = none) :
    ((if x == { lane := n } then rest else x :: rest).find? fun y => y.lane == n).getD { lane := n } = x := by
  by_cases hreset : x = { lane := n }
  · rw [if_pos (beq_iff_eq.mpr hreset), hrest, Option.getD_none, hreset]
  · rw [if_neg (mt beq_iff_eq.mp hreset)]
    simp only [List.find?_cons, beq_iff_eq.mpr hx, Option.getD_some]

/-- A lane changed is the lane read. -/
theorem lane_modLane_same (m : Mach) (n : Nat) (f : LaneX → LaneX) : (m.modLane n f).lane n = { f (m.lane n) with lane := n } :=
  lane_found rfl (by simp)

section
variable {m : Mach} {n : Nat} {p : Port}

theorem laneActive_of_noPort (h : m.portOf? n = none) : m.laneActive n = false := by simp only [Mach.laneActive, h]

theorem laneActive_of_port (h : m.portOf? n = some p) : m.laneActive n = bitOf p.mask (n - p.first) := by
  simp only [Mach.laneActive, h]

end

end Sys2Proof.Machine

/-! PROOFS. Writes of LNE_LANE_CTL (11 R327, R328): a write is taken apart into its action and STATE_REQ, and each action has its
effect on one lane. -/
namespace Sys2Proof.Machine

/-! ### The write (11 R327) -/

/-- The two low bits of a written value are STATE_REQ, and leave the bits above them alone. -/
theorem bitOf_add_low {a v i : Nat} (ha : a % 4 = 0) (hv : v < 4) (hi : 2 ≤ i) : bitOf (a + v) i = bitOf a i := by
  have hpow : 2 ^ i = 4 * 2 ^ (i - 2) := by rw [← Nat.pow_add 2 2, Nat.add_sub_cancel' hi]
  have hdiv : (a + v) / 4 = a / 4 := by omega
  simp only [bitOf, hpow, ← Nat.div_div_eq_div_mul, hdiv]

section
variable {s : State} {lane : BitVec 9} (h : Writable s (Reg.LNE_LANE_CTL lane.toNat))
include h

theorem exec_laneCtl (value : Word) :
    ∀ c ∈ [Instr.laneRetrain lane value, .laneCal lane value, .laneDrop lane value, .laneRejoin lane value, .ls0Req lane value,
      .ls1Req lane value, .ls2Req lane value],
    exec c s = .next { s with mach := s.mach.laneCtl s.store lane.toNat value.toNat } := by
  have hwrite : (s.runM fun st m => m.regCmd (Reg.LNE_LANE_CTL lane.toNat) fun m => m.laneCtl st lane.toNat value.toNat) =
      .next { s with mach := s.mach.laneCtl s.store lane.toNat value.toNat } := by rw [runM_eq, regCmd_eq h]
  simp only [List.forall_mem_cons, List.not_mem_nil, false_imp_iff, implies_true, and_true]
  exact ⟨hwrite, hwrite, hwrite, hwrite, hwrite, hwrite, hwrite⟩

/-- A write of action bits `a` with a request: each action in its turn, then STATE_REQ. -/
theorem exec_laneAction {a : Nat} (ha : a % 4 = 0) (hlt : a < 256) (req : BitVec 2) :
    let value := BitVec.ofNat 32 (a + req.toNat)
    let m1 := if bitOf a 7 then s.mach.retrain s.store lane.toNat else s.mach
    let m2 := if bitOf a 5 then m1.dropLane s.store lane.toNat else m1
    let m3 := if bitOf a 4 then m2.rejoin lane.toNat else m2
    let m4 := if bitOf a 6 then m3.calibrate lane.toNat else m3
    ∀ c ∈ [Instr.laneRetrain lane value, .laneCal lane value, .laneDrop lane value, .laneRejoin lane value],
    exec c s = .next { s with mach := m4.stateReq lane.toNat req.toNat } := by
  intro value m1 m2 m3 m4 c hc
  have hv : req.toNat < 4 := req.isLt
  have hnat : value.toNat = a + req.toNat := by rw [BitVec.toNat_ofNat]; omega
  have hreq : (a + req.toNat) % 4 = req.toNat := by omega
  rw [exec_laneCtl h value c (List.mem_append_left _ hc), hnat]
  have hbit (i : Nat) (hi : 2 ≤ i) : bitOf (a + req.toNat) i = bitOf a i := bitOf_add_low ha hv hi
  simp only [Mach.laneCtl, hbit 4 (by decide), hbit 5 (by decide), hbit 6 (by decide), hbit 7 (by decide), hreq, m1, m2, m3, m4]

end

section
variable {m : Mach} {st : Store} {n : Nat}

/-! ### RETRAIN and DROP (11 R314, R323) -/

theorem retrain_domainOff (h : m.domainOff (n / 16) = true) : m.retrain st n = m.laneRefuse n 2 := by
  simp only [Mach.retrain, h, if_true]

/-- A lane as RETRAIN leaves it: nothing keeps it from its port. -/
def LaneX.clean (x : LaneX) : LaneX := { x with flapped := false, dropped := false, failed := false, restarts := 0 }

section
variable (hd : m.domainOff (n / 16) = false)
include hd

theorem retrain_noPort (h : m.portOf? n = none) : m.retrain st n = (m.modLane n LaneX.clean).laneTrain n false := by
  simp only [Mach.retrain, hd, h, Bool.false_eq_true, if_false]
  rfl

variable {p : Port} (hp : m.portOf? n = some p)
include hp

theorem retrain_outside (ha : m.laneActive n = false) :
    m.retrain st n = ((m.modLane n LaneX.clean).laneTrain n false).portWake p.first := by
  rw [laneActive_of_port hp] at ha
  simp only [Mach.retrain, hd, hp, ha, Bool.false_eq_true, if_false]
  rfl

theorem retrain_active (ha : m.laneActive n = true) :
    m.retrain st n = if maskWidth (p.mask &&& (255 - 2 ^ (n - p.first))) < m.minLanes p then m.laneRefuse n 1
      else ((m.dropLane st n).modLane n LaneX.clean).laneTrain n false := by
  rw [laneActive_of_port hp] at ha
  simp only [Mach.retrain, hd, hp, ha, Bool.false_eq_true, if_false, if_true]
  rfl

end

theorem dropLane_inactive (ha : m.laneActive n = false) : m.dropLane st n = m := by
  cases hp : m.portOf? n with
  | none => simp only [Mach.dropLane, hp]
  | some p =>
    rw [laneActive_of_port hp] at ha
    simp only [Mach.dropLane, hp, ha, Bool.not_false, if_true]

theorem dropLane_active {p : Port} (hp : m.portOf? n = some p) (ha : m.laneActive n = true) :
    let keep := 255 - 2 ^ (n - p.first)
    let m1 := (m.modLane n fun x => { x with dropped := true }).setFld (Reg.LNE_LANE_STATUS n) 31 28 7
    m.dropLane st n = (((m1.count (Reg.LNE_DROP_CNT n)).laneEventAs n 7 (m.maskAfter p keep)).narrow st p.first keep).sendLock n := by
  rw [laneActive_of_port hp] at ha
  simp only [Mach.dropLane, hp, ha, Bool.not_true, Bool.false_eq_true, if_false]

/-! ### CAL and REJOIN (11 R319, R322) -/

theorem calibrate_active (ha : m.laneActive n = true) : m.calibrate n = m.laneRefuse n 0 := by
  simp only [Mach.calibrate, ha, if_true]

theorem calibrate_idle (ha : m.laneActive n = false) (hd : m.domainOff (n / 16) = false) (hon : m.laneOn n = true)
    (ht : m.underTest n = false) :
    m.calibrate n = (m.modLane n fun x => { x with calLeft := 4000 }).setLstate n 3 0 := by
  simp only [Mach.calibrate, ha, hd, hon, ht, Bool.not_false, Bool.and_self, Bool.false_eq_true, if_false, if_true]

theorem rejoin_noPort (hp : m.portOf? n = none) :
    m.rejoin n = m.modLane n fun x => { x with flapped := false, dropped := false } := by
  have hp1 : (m.modLane n fun x => { x with flapped := false, dropped := false }).portOf? n = none := hp
  simp only [Mach.rejoin, hp1]

/-- Clearing a lane's marks changes neither its state nor its port, so these decide as before. -/
theorem rejoin_port {p : Port} (hp : m.portOf? n = some p) :
    let m1 := m.modLane n fun x => { x with flapped := false, dropped := false }
    m.rejoin n = if m.lstate n = 0 ∧ p.linked = true ∧ bitOf p.mask (n - p.first) = false then
        (if m.flag Reg.TIM_CAL_CTL 31 then m1.modLane n fun x => { x with wantJoin := true } else m1.widen n)
      else m1 := by
  intro m1
  have hp1 : m1.portOf? n = some p := hp
  have hst : m1.lstate n = m.lstate n := rfl
  have hcal : m1.flag Reg.TIM_CAL_CTL 31 = m.flag Reg.TIM_CAL_CTL 31 := rfl
  simp only [m1] at hp1 hst hcal
  simp only [Mach.rejoin, hp1, hst, hcal, Bool.and_eq_true, decide_eq_true_eq, Bool.not_eq_true', and_assoc, m1]

/-! ### STATE_REQ (11 R310, R311) -/

theorem stateReq_rest (m : Mach) (n : Nat) : m.stateReq n 0 = (m.setFld (Reg.LNE_LANE_CTL n) 1 0 0).laneExit n := by
  simp [Mach.stateReq]

theorem stateReq_active {v : Nat} (hv : v ≠ 0) (ha : m.laneActive n = true) : m.stateReq n v = m := by
  simp [Mach.stateReq, hv, ha]

section
variable (ha : m.laneActive n = false) (hl : m.lstate n = 0)
include ha hl

theorem stateReq_ls1 : m.stateReq n 1 =
    (((m.setFld (Reg.LNE_LANE_CTL n) 1 0 1).emit (.laneCmd n 5 0)).emit (.laneCmd n 5 0)).setLstate n 1 0 := by
  simp [Mach.stateReq, ha, hl]

theorem stateReq_ls2 : m.stateReq n 2 =
    (((m.setFld (Reg.LNE_LANE_CTL n) 1 0 2).emit (.laneCmd n 6 0)).emit (.laneCmd n 6 0)).setLstate n 2 0 := by
  simp [Mach.stateReq, ha, hl]

end
end

/-! ### Writes with one action, and writes of STATE_REQ alone -/

section
variable {s : State} {lane : BitVec 9} (h : Writable s (Reg.LNE_LANE_CTL lane.toNat)) (req : BitVec 2)
include h

theorem exec_laneRetrain : exec (.laneRetrain lane (BitVec.ofNat 32 (0x80 + req.toNat))) s =
    .next { s with mach := (s.mach.retrain s.store lane.toNat).stateReq lane.toNat req.toNat } :=
  exec_laneAction h (a := 0x80) rfl (by decide) req _ (by simp)

theorem exec_laneCal : exec (.laneCal lane (BitVec.ofNat 32 (0x40 + req.toNat))) s =
    .next { s with mach := (s.mach.calibrate lane.toNat).stateReq lane.toNat req.toNat } :=
  exec_laneAction h (a := 0x40) rfl (by decide) req _ (by simp)

theorem exec_laneDrop : exec (.laneDrop lane (BitVec.ofNat 32 (0x20 + req.toNat))) s =
    .next { s with mach := (s.mach.dropLane s.store lane.toNat).stateReq lane.toNat req.toNat } :=
  exec_laneAction h (a := 0x20) rfl (by decide) req _ (by simp)

theorem exec_laneRejoin : exec (.laneRejoin lane (BitVec.ofNat 32 (0x10 + req.toNat))) s =
    .next { s with mach := (s.mach.rejoin lane.toNat).stateReq lane.toNat req.toNat } :=
  exec_laneAction h (a := 0x10) rfl (by decide) req _ (by simp)

theorem exec_lsReq : exec (.ls0Req lane 0) s = .next { s with mach := s.mach.stateReq lane.toNat 0 } ∧
    exec (.ls1Req lane 1) s = .next { s with mach := s.mach.stateReq lane.toNat 1 } ∧
    exec (.ls2Req lane 2) s = .next { s with mach := s.mach.stateReq lane.toNat 2 } :=
  ⟨exec_laneCtl h 0 _ (by simp), exec_laneCtl h 1 _ (by simp), exec_laneCtl h 2 _ (by simp)⟩

end

/-- Settles O27, over the actions of the write, each by the state of the lane and of its port. -/
theorem laneControlWritesActOnOneLane : Obligations.LaneControlWritesActOnOneLane := by
  unfold Obligations.LaneControlWritesActOnOneLane
  intro s lane h req m n v after clean
  obtain ⟨hls0, hls1, hls2⟩ := exec_lsReq h
  refine ⟨fun hd hp => ?_, fun hd => ?_, fun ha hd hon ht => ?_, fun ha => ⟨?_, fun p hp => ?_⟩, fun p hd hp ha => ?_, fun ha => ?_,
    ⟨fun hp => ?_, fun p hp => ?_⟩, fun ha hl => ?_, fun ha => ?_, ?_⟩
  · rw [exec_laneRetrain h, retrain_noPort hd hp]
    rfl
  · rw [exec_laneRetrain h, retrain_domainOff hd]
  · rw [exec_laneCal h, calibrate_idle ha hd hon ht]
  · rw [exec_laneCal h, calibrate_active ha]
  · intro keep m1 left
    refine ⟨?_, fun hd => ?_⟩
    · rw [exec_laneDrop h, dropLane_active hp ha]
    · rw [exec_laneRetrain h, retrain_active hd hp ha, dropLane_active hp ha]
      rfl
  · rw [exec_laneRetrain h, retrain_outside hd hp ha]
    rfl
  · rw [exec_laneDrop h, dropLane_inactive ha]
  · rw [exec_laneRejoin h, rejoin_noPort hp]
  · rw [exec_laneRejoin h, rejoin_port hp]
  · rw [hls1, hls2, stateReq_ls1 ha hl, stateReq_ls2 ha hl]
    exact ⟨rfl, rfl⟩
  · rw [hls1, hls2, stateReq_active (by decide) ha, stateReq_active (by decide) ha]
    exact ⟨rfl, rfl⟩
  · rw [hls0, stateReq_rest]

end Sys2Proof.Machine

/-! PROOFS. Training of a lane (11 R302 to R310): signal, training frames, alignment, timeouts, resting states and the start of a
port's identity exchange. -/
namespace Sys2Proof.Machine

/-! ### Signal and alignment (11 R306, R308) -/

/-- A change of a lane may wake the port that holds it, which then goes on as `g` says. -/
def Mach.wokenPort (m : Mach) (n : Nat) (g : Mach → Port → Mach) : Mach :=
  match m.portOf? n with
  | some p => g (m.portWake p.first) p
  | none => m

theorem wokenPort_none {m : Mach} {n : Nat} (hp : m.portOf? n = none) (g : Mach → Port → Mach) : m.wokenPort n g = m := by
  simp only [Mach.wokenPort, hp]

theorem wokenPort_some {m : Mach} {n : Nat} {p : Port} (hp : m.portOf? n = some p) (g : Mach → Port → Mach) :
    m.wokenPort n g = g (m.portWake p.first) p := by
  simp only [Mach.wokenPort, hp]

section
variable {s : State} {lane : BitVec 9} (h : LanesRun s)
include h

theorem exec_signalDetect_seen (hs : s.mach.sigDet lane.toNat = true) : exec (.signalDetect lane) s = .next s := by
  show execSignalDetect lane s = _
  simp only [execSignalDetect, runM_eq, whenLanes_eq h, hs, Bool.true_or, if_true]

/-- Signal on a dark lane in LS3 starts its training, from the stored taps when it left LS2 or calibration. -/
theorem exec_signalDetect_trains (hs : s.mach.sigDet lane.toNat = false) (hd : s.mach.domainOff (lane.toNat / 16) = false)
    (hl : s.mach.lstate lane.toNat = 3) (hc : (s.mach.lane lane.toNat).calLeft = 0) (ht : s.mach.underTest lane.toNat = false) :
    let m1 := (s.mach.setFlag (Reg.LNE_LANE_STATUS lane.toNat) 27 true).modLane lane.toNat fun x => { x with restarts := 0 }
    exec (.signalDetect lane) s = .next { s with
      mach := (m1.laneTrain lane.toNat (s.mach.lane lane.toNat).short).wokenPort lane.toNat fun a _ => a } := by
  intro m1
  show execSignalDetect lane s = _
  simp only [execSignalDetect, runM_eq, whenLanes_eq h, hs, hd, hl, hc, ht, Bool.or_self, Bool.false_eq_true, if_false, if_true,
    Nat.reduceEqDiff, decide_false, decide_true, beq_self_eq_true, Bool.not_false, Bool.and_self]
  cases hp : (m1.laneTrain lane.toNat (s.mach.lane lane.toNat).short).portOf? lane.toNat with
  | none => rw [wokenPort_none hp]
  | some p => rw [wokenPort_some hp]

theorem exec_groupAlignment_last (snr : BitVec 16) (hl : s.mach.lstate lane.toNat = 3) (ht : s.mach.trainStep lane.toNat = 6) :
    let n := lane.toNat
    let m1 := ((s.mach.setLstate n 0 7).emit (.laneCmd n 4 0)).wr (Reg.LNE_STORED_COEF n) (s.mach.rd (Reg.LNE_TX_COEF n))
    let m2 := (m1.setFld (Reg.LNE_RX_SNR n) 15 0 snr.toNat).modLane n fun x => { x with restarts := 0, short := false }
    exec (.groupAlignment lane snr) s = .next { s with mach := m2.wokenPort n fun a p => a.tryExchange p.first } := by
  intro n m1 m2
  show execGroupAlignment lane snr s = _
  simp only [execGroupAlignment, runM_eq, whenLanes_eq h, hl, ht, Mach.sendLock, ne_eq, not_true_eq_false, decide_false, Bool.or_self,
    Bool.false_eq_true, if_false]
  cases hp : m2.portOf? n with
  | none => rw [wokenPort_none hp]
  | some p => rw [wokenPort_some hp]

/-! ### Training frames (11 R302 to R307, R310) -/

theorem exec_trainingFrame_malformed {head : List (BitVec 2)} (hf : readFrame head = none) (ready : Bool) (want : Word) :
    exec (.trainingFrame lane head ready want) s = .next s := by
  show execTrainingFrame lane head ready want s = _
  simp only [execTrainingFrame, runM_eq, whenLanes_eq h, hf]

theorem exec_trainingFrame_formed {head : List (BitVec 2)} {inverted : Bool} {control status : Word}
    (hf : readFrame head = some (inverted, control, status)) (ready : Bool) (want : Word) :
    exec (.trainingFrame lane head ready want) s = .next { s with
      mach := s.mach.frameIn s.store lane.toNat inverted control status (setBits want.toNat 22 22 (b2n ready)) } := by
  show execTrainingFrame lane head ready want s = _
  simp only [execTrainingFrame, runM_eq, whenLanes_eq h, hf]

/-! ### Timeouts and resting commands (11 R308 to R310) -/

theorem exec_trainTimeout (hl : s.mach.lstate lane.toNat = 3) (ht : s.mach.trainStep lane.toNat ≠ 0) :
    let n := lane.toNat
    let m := s.mach
    exec (.trainTimeout lane) s = .next { s with
      mach := if (m.lane n).restarts < bits (m.lane n).tcfg 15 12 then
          (m.laneTrain n false).modLane n fun y => { y with restarts := (m.lane n).restarts + 1 }
        else
          (((m.modLane n fun y => { y with failed := true }).setLstate n 3 0).setFld (Reg.LNE_LANE_STATUS n) 31 28 4).laneEvent n 4 } := by
  show execTrainTimeout lane s = _
  simp [execTrainTimeout, runM_eq, whenLanes_eq h, hl, ht]

theorem exec_lsExitTimeout_missed (hs : (s.mach.lane lane.toNat).short = true) (hl : s.mach.lstate lane.toNat = 3) :
    exec (.lsExitTimeout lane) s = .next { s with mach := s.mach.laneTrain lane.toNat false } := by
  show execLsExitTimeout lane s = _
  simp [execLsExitTimeout, runM_eq, whenLanes_eq h, hs, hl]

theorem exec_cmdLs1 : exec (.cmdLs1 lane) s = .next { s with
    mach := if s.mach.lstate lane.toNat = 0 ∧ s.mach.laneActive lane.toNat = false then s.mach.setLstate lane.toNat 1 0
      else s.mach } := by
  show execCmdLs1 lane s = _
  simp only [execCmdLs1, runM_eq, whenLanes_eq h, Bool.and_eq_true, decide_eq_true_eq, Bool.not_eq_true']

theorem exec_cmdLs2 : exec (.cmdLs2 lane) s = .next { s with
    mach := if s.mach.lstate lane.toNat ≤ 1 ∧ s.mach.laneActive lane.toNat = false then s.mach.setLstate lane.toNat 2 0
      else s.mach } := by
  show execCmdLs2 lane s = _
  simp only [execCmdLs2, runM_eq, whenLanes_eq h, Bool.and_eq_true, decide_eq_true_eq, Bool.not_eq_true']

theorem exec_portTrainTimeout {port : BitVec 9} {p : Port} (hp : s.mach.port? port.toNat = some p) :
    exec (.portTrainTimeout port) s = .next { s with
      mach := if p.state = .training ∧ p.exchanging = false then
          (s.mach.modPort p.first fun q => { q with late := true }).tryExchange p.first
        else s.mach } := by
  show execPortTrainTimeout port s = _
  simp only [execPortTrainTimeout, runM_eq, whenLanes_eq h, hp, Bool.and_eq_true, beq_iff_eq, Bool.not_eq_true']

end

/-! ### A well-formed frame (11 R303 to R307) -/

/-- Of what a receiver wants next, precoding alone counts for a lane that trains from its stored taps (11 R310). -/
theorem setBits_22_and_precode (want b : Nat) : setBits want 22 22 b &&& 2 ^ 23 = want &&& 2 ^ 23 := by
  have hhigh : setBits want 22 22 b / 2 ^ 23 = want / 2 ^ 23 := by
    simp only [setBits]
    omega
  refine Nat.eq_of_testBit_eq fun i => ?_
  simp only [Nat.testBit_and, Nat.testBit_two_pow]
  by_cases hi : 23 = i
  · rw [← hi, Nat.testBit_eq_decide_div_mod_eq, Nat.testBit_eq_decide_div_mod_eq, hhigh]
  · simp only [hi, decide_false, Bool.and_false]

theorem frameStep_eq (step : Nat) (short : Bool) {seen : Nat} (mine : Bool) :
    frameStep step short (decide (0 < seen) && mine) =
      if 0 < seen ∧ mine = true then (if step ≤ 3 then 4 else 5) else if step = 1 ∨ short = true then 2 else 3 := by
  simp only [frameStep, Bool.and_eq_true, Bool.or_eq_true, decide_eq_true_eq]

section
variable {m : Mach} {st : Store} {n : Nat} (hl : m.lstate n = 3) (hlo : 1 ≤ m.trainStep n) (hhi : m.trainStep n ≤ 5)
  (hon : m.laneOn n = true) (inverted : Bool) (control status : Word) (want : Nat)
include hl hlo hhi hon

/-- A frame is taken by a lane that is on and in steps 1 to 5 of its training. -/
theorem frame_taken : (m.lstate n ≠ 3 || m.trainStep n = 0 || 6 ≤ m.trainStep n || !m.laneOn n) = false := by
  have hstep : ¬m.trainStep n = 0 ∧ ¬6 ≤ m.trainStep n := by omega
  simp [hl, hon, hstep]

theorem frameIn_misplaced (hb : m.lposBad n (bits control.toNat 21 19) = true) :
    m.frameIn st n inverted control status want =
      ((m.setFld (Reg.LNE_LANE_STATUS n) 25 23 (bits control.toNat 21 19)).setFlag (Reg.LNE_LANE_STATUS n) 22 inverted).laneFail
        st n 5 := by
  simp only [Mach.frameIn, frame_taken hl hlo hhi hon, hb, Bool.false_eq_true, if_false, if_true]

theorem frameIn_followed (hb : m.lposBad n (bits control.toNat 21 19) = false) :
    let ctl := control.toNat
    let m1 := (m.setFld (Reg.LNE_LANE_STATUS n) 25 23 (bits ctl 21 19)).setFlag (Reg.LNE_LANE_STATUS n) 22 inverted
    let short := (m.lane n).short
    let m2 := (m1.setFld (Reg.LNE_LANE_STATUS n) 20 20 (bits status.toNat 25 25)).answerRequest n ctl
    let m3 := m2.nextRequest n status.toNat (if short then setBits (want &&& 2 ^ 23) 22 22 1 else want)
    let seen := if bitOf ctl 22 && bitOf status.toNat 24 then (m3.lane n).readySeen + 1 else 0
    let m4 := m3.modLane n fun x => { x with readySeen := seen }
    let mine := bitOf (m4.lane n).request 22
    let step := if 0 < seen ∧ mine = true then (if m.trainStep n ≤ 3 then 4 else 5)
      else if m.trainStep n = 1 ∨ short = true then 2 else 3
    m.frameIn st n inverted control status want =
      if 64 ≤ seen ∧ mine = true then (m4.setLstate n 3 6).emit (.laneCmd n 4 0) else (m4.setLstate n 3 step).sendFrame n := by
  simp only [Mach.frameIn, frame_taken hl hlo hhi hon, hb, frameStep_eq, Mach.sendLock, Bool.false_eq_true, if_false,
    Bool.and_eq_true, decide_eq_true_eq]

end

/-! ### The start of a port's exchange (11 R309, 19 R482) -/

theorem tryExchange_training {m : Mach} {f : Nat} {p : Port} (hp : m.port? f = some p) (ht : p.state = .training)
    (hx : p.exchanging = false) (hr : m.running = true) (hs : 9 ≤ m.stage) (hl : p.late = true ∨ ∀ l ∈ p.lanes, m.lstate l = 0) :
    let mask := bitsMask (indicesOf (fun l => m.lstate l == 0 && !(m.lane l).flapped && !(m.lane l).dropped) p.lanes)
    m.tryExchange f = if m.minLanes p ≤ maskWidth mask then m.exchangeStart f mask else m := by
  have hlanes : (p.late || p.lanes.all fun n => m.lstate n == 0) = true := by simpa using hl
  simp only [Mach.tryExchange, hp, ht, hx, hr, hs, hlanes, beq_self_eq_true, Bool.not_false, decide_true, Bool.true_and,
    decide_eq_true_eq]

/-- Settles O28: each event by the lemma of its command, over the state of the lane and of the port that holds it. -/
theorem laneTrainingGoesFromSignalToData : Obligations.LaneTrainingGoesFromSignalToData := by
  unfold Obligations.LaneTrainingGoesFromSignalToData
  intro s lane h m n woken
  refine ⟨fun hs hd hl hc ht => exec_signalDetect_trains h hs hd hl hc ht, fun hs => exec_signalDetect_seen h hs, ?_,
    fun head ready want hf => exec_trainingFrame_malformed h hf ready want, fun snr hl ht => exec_groupAlignment_last h snr hl ht,
    fun hl ht => ⟨fun hlow => ?_, fun hhigh => ?_⟩, fun hs hl => exec_lsExitTimeout_missed h hs hl,
    fun ha => ⟨fun hl => ?_, fun hl => ?_⟩, fun ha => ⟨?_, ?_⟩, fun port p hp => ⟨fun ht hx => ?_, fun hn => ?_⟩,
    fun f p hp ht hx hr hs hl => tryExchange_training hp ht hx hr hs hl⟩
  · intro head inverted control status want ready hf hl hlo hhi hon ctl m1
    rw [exec_trainingFrame_formed h hf]
    refine ⟨fun hb => ?_, fun hb => ?_⟩
    · rw [frameIn_misplaced hl hlo hhi hon inverted control status _ hb]
    · rw [frameIn_followed hl hlo hhi hon inverted control status _ hb]
      simp only [setBits_22_and_precode]
      rfl
  · rw [exec_trainTimeout h hl ht, if_pos hlow]
  · rw [exec_trainTimeout h hl ht, if_neg (Nat.not_lt.mpr hhigh)]
  · rw [exec_cmdLs1 h, if_pos ⟨hl, ha⟩]
  · rw [exec_cmdLs2 h, if_pos ⟨hl, ha⟩]
  · rw [exec_cmdLs1 h, if_neg fun ⟨_, hno⟩ => Bool.eq_false_iff.mp hno ha]
  · rw [exec_cmdLs2 h, if_neg fun ⟨_, hno⟩ => Bool.eq_false_iff.mp hno ha]
  · rw [exec_portTrainTimeout h hp, if_pos ⟨ht, hx⟩]
  · rw [exec_portTrainTimeout h hp, if_neg]
    rintro ⟨ht, hx⟩
    rcases hn with hn | hn
    · exact hn ht
    · exact Bool.eq_false_iff.mp hx hn

end Sys2Proof.Machine

/-! PROOFS. Lanes that fail, calibrate and come back (11 R299, R300, R312, R314, R319, R320, R322). -/
namespace Sys2Proof.Machine

theorem expectsSilence_iff (m : Mach) (n : Nat) :
    m.expectsSilence n = true ↔ m.lstate n = 1 ∨ m.lstate n = 2 ∨ (m.lane n).calLeft ≠ 0 := by
  simp [Mach.expectsSilence, or_assoc]

section
variable {s : State} {lane : BitVec 9} (h : LanesRun s)
include h

/-! ### Loss of signal, alignment and codewords (11 R299, R300, R314) -/

/-- A lane that is on, had signal or decodes groups, and expects no silence fails when its signal goes. -/
theorem exec_los :
    let m := s.mach
    let n := lane.toNat
    let dark := m.setFlag (Reg.LNE_LANE_STATUS n) 27 false
    exec (.los lane) s = .next { s with
      mach := if m.laneOn n = true ∧ m.expectsSilence n = false ∧ (m.lane n).failed = false ∧ (m.lstate n = 0 ∨ m.sigDet n = true)
        then (dark.laneFail s.store n 1).darkPort s.store n
        else dark } := by
  show execLos lane s = _
  simp only [execLos, runM_eq, whenLanes_eq h, Bool.and_eq_true, Bool.or_eq_true, beq_iff_eq, Bool.not_eq_true', and_assoc]

theorem exec_lossOfAlignment : exec (.lossOfAlignment lane) s = .next { s with
    mach := if s.mach.lstate lane.toNat = 0 ∨ s.mach.trainStep lane.toNat = 6 then s.mach.laneFail s.store lane.toNat 2
      else s.mach } := by
  show execLossOfAlignment lane s = _
  simp only [execLossOfAlignment, runM_eq, whenLanes_eq h, Bool.or_eq_true, decide_eq_true_eq]

/-- The window keeps the settings of its first codeword (log 71), and the limit decides for an active lane. -/
theorem exec_uncorrectableCodeword :
    let m := s.mach
    let n := lane.toNat
    let x := m.lane n
    let within (cfg : Nat) : List Nat := x.uncorr.filter fun t => decide (m.now - t ≤ 10000 * bits cfg 7 0)
    let cfg := if within x.ucfg = [] then (m.rd Reg.LNE_TRAIN_CFG).toNat else x.ucfg
    let limit := bits cfg 11 8
    let recent := within x.ucfg ++ [m.now]
    let m1 := ((m.count (Reg.LNE_FEC_UNCORR_CNT n)).setFld (Reg.LNE_FEC_PEAK n) 15 0 16).modLane n fun y => { y with
      uncorr := recent, ucfg := cfg }
    exec (.uncorrectableCodeword lane) s = .next { s with
      mach := if limit ≠ 0 ∧ limit < recent.length ∧ m.laneActive n = true then
          (m1.modLane n fun x => { x with uncorr := [] }).laneFail s.store n 3
        else m1 } := by
  show execUncorrectableCodeword lane s = _
  simp only [execUncorrectableCodeword, runM_eq, whenLanes_eq h, Bool.and_eq_true, decide_eq_true_eq, List.isEmpty_iff, and_assoc]

/-! ### Calibration (11 R312, R322) -/

theorem exec_calSlice_none (hc : (s.mach.lane lane.toNat).calLeft = 0) : exec (.calSlice lane) s = .next s := by
  show execCalSlice lane s = _
  simp [execCalSlice, runM_eq, whenLanes_eq h, hc]

/-- The last slice owed ends calibration, and the lane trains from its stored taps. -/
theorem exec_calSlice_permitted (hc : (s.mach.lane lane.toNat).calLeft ≠ 0) (hp : s.mach.calPermits 30 = true)
    (hroom : ∀ i left, s.mach.runningEntry = some (i, left) → 500 ≤ left) :
    let n := lane.toNat
    let m1 := s.mach.modLane n fun x => { x with calLeft := x.calLeft - 1 }
    exec (.calSlice lane) s = .next { s with
      mach := if (s.mach.lane n).calLeft = 1 then (m1.laneTrain n true).laneEvent n 9 else m1 } := by
  have hlast : (s.mach.lane lane.toNat).calLeft - 1 = 0 ↔ (s.mach.lane lane.toNat).calLeft = 1 := by omega
  show execCalSlice lane s = _
  simp only [execCalSlice, runM_eq, whenLanes_eq h, hc, hp, lane_modLane_same, hlast]
  cases hrun : s.mach.runningEntry with
  | none => simp
  | some e => simp [hroom e.1 e.2 hrun]

/-! ### Rejoining (11 R319, R320) -/

theorem exec_autoRejoin_noPort (hp : s.mach.portOf? lane.toNat = none) : exec (.autoRejoin lane) s = .next s := by
  show execAutoRejoin lane s = _
  simp only [execAutoRejoin, runM_eq, whenLanes_eq h, hp]

/-- A lane rejoins from LS0 outside the mask of a linked port, when it may and the calendar lets it. -/
theorem exec_autoRejoin_port {p : Port} (hp : s.mach.portOf? lane.toNat = some p) :
    let m := s.mach
    let n := lane.toNat
    let may := (m.lane n).wantJoin = true ∨
      (bitOf (m.lane n).cfg 6 = true ∧ (m.lane n).dropped = false ∧ (m.lane n).flapped = false)
    let now := m.flag Reg.TIM_CAL_CTL 31 = false ∨ (m.entryStarts = true ∧ m.calPermits 30 = true)
    exec (.autoRejoin lane) s = .next { s with
      mach := if (m.lstate n = 0 ∧ p.linked = true ∧ bitOf p.mask (n - p.first) = false) ∧ may ∧ now then m.widen n else m } := by
  show execAutoRejoin lane s = _
  simp only [execAutoRejoin, runM_eq, whenLanes_eq h, hp, Bool.and_eq_true, Bool.or_eq_true, decide_eq_true_eq,
    Bool.not_eq_true', and_assoc]

end

/-- Settles O29: each event by its condition on the lane. -/
theorem lanesFailRecoverAndCalibrate : Obligations.LanesFailRecoverAndCalibrate := by
  unfold Obligations.LanesFailRecoverAndCalibrate
  intro s lane h m n st
  refine ⟨⟨fun hon hs hf hsig => ?_, fun hno => ?_⟩, fun hl => ?_, fun hl ht => ?_, ⟨fun hno => ?_, fun h0 hlim ha => ?_⟩,
    exec_calSlice_permitted h, exec_calSlice_none h, ?_, fun p hp hno => ?_, exec_autoRejoin_noPort h⟩
  · have hquiet : m.expectsSilence n = false := Bool.eq_false_iff.mpr (mt (expectsSilence_iff m n).mp hs)
    rw [exec_los h, if_pos ⟨hon, hquiet, hf, hsig⟩]
  · rw [exec_los h, if_neg]
    rintro ⟨hon, hquiet, hf, -⟩
    rcases hno with hoff | hs | hfailed
    · exact Bool.eq_false_iff.mp hoff hon
    · exact Bool.eq_false_iff.mp hquiet ((expectsSilence_iff m n).mpr hs)
    · exact Bool.eq_false_iff.mp hf hfailed
  · rw [exec_lossOfAlignment h, if_pos hl]
  · rw [exec_lossOfAlignment h, if_neg (not_or.mpr ⟨hl, ht⟩)]
  · rw [exec_uncorrectableCodeword h, if_neg]
    rintro ⟨h0, hlim, ha⟩
    rcases hno with hno | hno | hno
    · exact h0 hno
    · exact Nat.not_lt.mpr hno hlim
    · exact Bool.eq_false_iff.mp hno ha
  · rw [exec_uncorrectableCodeword h, if_pos ⟨h0, hlim, ha⟩]
  · intro p hp hl hlink hmask may now
    refine ⟨fun hmay hnow => ?_, fun hno => ?_⟩
    · rw [exec_autoRejoin_port h hp, if_pos ⟨⟨hl, hlink, hmask⟩, hmay, hnow⟩]
    · rw [exec_autoRejoin_port h hp, if_neg fun ⟨_, hyes⟩ => hno hyes]
  · rw [exec_autoRejoin_port h hp, if_neg]
    rintro ⟨⟨hl, hlink, hmask⟩, -⟩
    rcases hno with hno | hno | hno
    · exact hno hl
    · exact Bool.eq_false_iff.mp hno hlink
    · exact Bool.eq_false_iff.mp hmask hno

end Sys2Proof.Machine

/-! PROOFS. Changes of link width (11 R315 to R318): the messages that ask for one, agree to it and end it. -/
namespace Sys2Proof.Machine

section
variable {s : State} {port : BitVec 9} {p : Port} (h : LanesRun s) (hp : s.mach.port? port.toNat = some p)
include h hp

/-! ### WIDTH and NEWW on a port that carries lanes (11 R315, R316, R318) -/

section
variable (hl : p.laned = true) (mask : Byte)
include hl

/-- A WIDTH that meets no change in progress is followed at once, or leaves too few lanes. -/
theorem exec_width_unopposed (hx : p.widthX = none) :
    let m := s.mach
    let f := port.toNat
    let new := mask.toNat % 2 ^ p.width
    let m1 := m.modPort f fun q => { q with widthX := some { mask := new, initiator := false, waiting := 0, old := p.mask } }
    let m2 := (setBitsOf 8 new).foldl (fun a i => a.laneExit (p.first + i)) (m1.maskCmd p cmdWidthAck new)
    exec (.width port mask) s = .next { s with
      mach := if maskWidth new < m.minLanes p then m.portDown s.store f else m2.switchMask f new } := by
  show execWidth port mask s = _
  simp only [execWidth, runM_eq, whenLanes_eq h, hp, hl, hx, Option.map_none, Option.getD_none, Bool.not_true, Bool.false_eq_true,
    if_false]

/-- Against a WIDTH of the port's own both masks are combined, and the switch waits for the partner's answer. -/
theorem exec_width_crossing {x : WidthX} (hx : p.widthX = some x) (hi : x.initiator = true) (ha : x.acked = false) :
    let m := s.mach
    let f := port.toNat
    let new := x.mask &&& (mask.toNat % 2 ^ p.width)
    let m1 := m.modPort f fun q => { q with widthX := some { mask := new, initiator := true, waiting := x.waiting, old := x.old } }
    exec (.width port mask) s = .next { s with
      mach := if maskWidth new < m.minLanes p then m.portDown s.store f
        else (setBitsOf 8 new).foldl (fun a i => a.laneExit (p.first + i)) (m1.maskCmd p cmdWidthAck new) } := by
  show execWidth port mask s = _
  simp only [execWidth, runM_eq, whenLanes_eq h, hp, hl, hx, hi, ha, Option.map_some, Option.getD_some, Bool.not_true, Bool.not_false,
    Bool.and_self, Bool.false_eq_true, if_false, if_true]

theorem exec_neww_stable (hx : p.widthX = none) :
    exec (.neww port mask) s = .next { s with
      mach := s.mach.modPort port.toNat fun q => { q with rxMask := mask.toNat } } := by
  show execNeww port mask s = _
  simp only [execNeww, runM_eq, whenLanes_eq h, hp, hl, hx, Bool.not_true, Bool.false_eq_true, if_false]

theorem exec_neww_changing {x : WidthX} (hx : p.widthX = some x) :
    let m1 := s.mach.modPort port.toNat fun q => { q with rxMask := mask.toNat }
    exec (.neww port mask) s = .next { s with
      mach := if x.mask = mask.toNat then
          (m1.modPort port.toNat fun q => { q with widthX := some { x with gotNeww := true } }).widthEnd port.toNat
        else m1 } := by
  show execNeww port mask s = _
  simp only [execNeww, runM_eq, whenLanes_eq h, hp, hl, hx, beq_iff_eq, Bool.not_true, Bool.false_eq_true, if_false]

end

/-! ### WIDTH_ACK and the timeout before it (11 R315 to R318) -/

theorem exec_widthAck_stable (mask : Byte) (hx : p.widthX = none) : exec (.widthAck port mask) s = .next s := by
  show execWidthAck port mask s = _
  simp only [execWidthAck, runM_eq, whenLanes_eq h, hp, hx]

theorem exec_widthTimeout_stable (hx : p.widthX = none) : exec (.widthTimeout port) s = .next s := by
  show execWidthTimeout port s = _
  simp only [execWidthTimeout, runM_eq, whenLanes_eq h, hp, hx, Option.bind_some]

section
variable {x : WidthX} (hx : p.widthX = some x) (hi : x.initiator = true)
include hx hi

/-- An answer that the port did not ask for, neither its mask nor a smaller one within it, changes nothing. -/
theorem exec_widthAck_initiator (mask : Byte) :
    let m := s.mach
    let f := port.toNat
    let new := mask.toNat
    let m1 := m.modPort f fun q => { q with widthX := some { x with acked := true, mask := new } }
    exec (.widthAck port mask) s = .next { s with
      mach := if (x.mask &&& new = new ∧ x.mask ≠ new) ∨ (x.acked = false ∧ x.mask = new) then
          if maskWidth new < m.minLanes p then m.portDown s.store f else (m1.switchMask f new).widthEnd f
        else m } := by
  have hanswers : ((x.mask &&& mask.toNat == mask.toNat && x.mask != mask.toNat) || (!x.acked && x.mask == mask.toNat)) =
      decide ((x.mask &&& mask.toNat = mask.toNat ∧ x.mask ≠ mask.toNat) ∨ (x.acked = false ∧ x.mask = mask.toNat)) := by
    rw [Bool.eq_iff_iff]
    simp only [Bool.or_eq_true, Bool.and_eq_true, Bool.not_eq_true', beq_iff_eq, bne_iff_ne, decide_eq_true_eq]
  show execWidthAck port mask s = _
  simp only [execWidthAck, runM_eq, whenLanes_eq h, hp, hx, hi, hanswers, Bool.not_true, Bool.false_or, Bool.not_eq_true',
    decide_eq_false_iff_not, ite_not]

theorem exec_widthTimeout_initiator : exec (.widthTimeout port) s = .next { s with
    mach := if x.acked = false then s.mach.portDown s.store port.toNat else s.mach } := by
  show execWidthTimeout port s = _
  simp only [execWidthTimeout, runM_eq, whenLanes_eq h, hp, hx, hi, Option.bind_some, Bool.true_and, Bool.not_eq_true']

end
end

/-- Settles O30: each message and the timeout by the change that the port has in progress. -/
theorem linkWidthChangesAreAgreed : Obligations.LinkWidthChangesAreAgreed := by
  unfold Obligations.LinkWidthChangesAreAgreed
  intro s port p mask h hp m f
  refine ⟨fun hl => ⟨fun hx => ?_, fun x hx hi ha => ?_, fun x hx => ?_, exec_neww_stable h hp hl mask⟩, fun x hx hi => ?_,
    fun hx => ⟨exec_widthAck_stable h hp mask hx, exec_widthTimeout_stable h hp hx⟩⟩
  · refine ⟨fun hmin => ?_, fun hmin => ?_⟩
    · rw [exec_width_unopposed h hp hl mask hx, if_neg (Nat.not_lt.mpr hmin)]
    · rw [exec_width_unopposed h hp hl mask hx, if_pos hmin]
  · intro new hmin
    rw [exec_width_crossing h hp hl mask hx hi ha, if_neg (Nat.not_lt.mpr hmin)]
  · refine ⟨fun hm => ?_, fun hm => ?_⟩
    · rw [exec_neww_changing h hp hl mask hx, if_pos hm]
    · rw [exec_neww_changing h hp hl mask hx, if_neg hm]
  · intro new less
    refine ⟨fun hnew => ⟨fun hmin => ?_, fun hmin => ?_⟩, fun hnew => ?_, fun ha => ?_, fun ha => ?_⟩
    · rw [exec_widthAck_initiator h hp hx hi mask, if_pos hnew, if_neg (Nat.not_lt.mpr hmin)]
    · rw [exec_widthAck_initiator h hp hx hi mask, if_pos hnew, if_pos hmin]
    · rw [exec_widthAck_initiator h hp hx hi mask, if_neg hnew]
    · rw [exec_widthTimeout_initiator h hp hx hi, if_pos ha]
    · rw [exec_widthTimeout_initiator h hp hx hi, if_neg (by simp [ha])]

end Sys2Proof.Machine

/-! PROOFS. Layout and test patterns of a lane (11 R313, R324, R325). -/
namespace Sys2Proof.Machine

/-! ### Layout (11 R313) -/

theorem exec_layoutWrite {s : State} {lane : BitVec 9} (h : Writable s (Reg.LNE_LANE_CFG lane.toNat)) (value : Word) :
    exec (.layoutWrite lane value) s = .next { s with mach := s.mach.laneCfg s.store lane.toNat value.toNat } := by
  show execLayoutWrite lane value s = _
  rw [execLayoutWrite, runM_eq, regCmd_eq h]

/-- The layout fields of a lane, as its register holds them, are those in force. -/
def Mach.layoutStands (m : Mach) (n : Nat) (x : LaneX) : Prop :=
  m.flag (Reg.LNE_LANE_CFG n) 13 = x.en ∧ m.fld (Reg.LNE_LANE_CFG n) 12 10 = x.code

theorem layout_moved {m : Mach} {n : Nat} {x : LaneX} (h : ¬m.layoutStands n x) :
    (decide (m.flag (Reg.LNE_LANE_CFG n) 13 = x.en) && decide (m.fld (Reg.LNE_LANE_CFG n) 12 10 = x.code)) = false := by
  simpa [Mach.layoutStands] using h

section
variable {m m1 : Mach} {st : Store} {n value : Nat} (hw : m1 = m.writeRw (Reg.LNE_LANE_CFG n) 0x3FFB value)
include hw

theorem laneCfg_stores (hsame : m1.layoutStands n (m.lane n)) : m.laneCfg st n value = m1 := by
  obtain ⟨hen, hcode⟩ := hsame
  subst hw
  simp only [Mach.laneCfg, hen, hcode, decide_true, Bool.and_self, if_true]

variable (hchange : ¬m1.layoutStands n (m.lane n))
include hchange

theorem laneCfg_noPort (hp : m1.portOf? n = none) : m.laneCfg st n value = m1.relayout st [n] := by
  have hmoved := layout_moved hchange
  subst hw
  simp only [Mach.laneCfg, hmoved, hp, Bool.false_eq_true, if_false]

theorem laneCfg_port {p : Port} (hp : m1.portOf? n = some p) :
    m.laneCfg st n value =
      if p.takesLayout then m1.relayout st [n] else m1.modPort p.first fun q => { q with layoutHeld := true } := by
  have hmoved := layout_moved hchange
  subst hw
  simp only [Mach.laneCfg, hmoved, hp, Bool.false_eq_true, if_false]

end

theorem exec_layoutApply_held {s : State} {port : BitVec 9} {p : Port} (h : LanesRun s) (hp : s.mach.port? port.toNat = some p)
    (hheld : p.layoutHeld = true) (htakes : p.takesLayout = true) :
    let m := s.mach
    let changed (l : Nat) : Bool :=
      m.flag (Reg.LNE_LANE_CFG l) 13 != (m.lane l).en || m.fld (Reg.LNE_LANE_CFG l) 12 10 != (m.lane l).code
    exec (.layoutApply port) s = .next { s with
      mach := (m.modPort p.first fun q => { q with layoutHeld := false }).relayout s.store (p.lanes.filter changed) } := by
  show execLayoutApply port s = _
  simp only [execLayoutApply, runM_eq, whenLanes_eq h, hp, hheld, htakes, Bool.and_self, if_true]

/-! ### Generator and injection (11 R324, R325) -/

theorem exec_prbsCtl {s : State} {lane : BitVec 9} (h : Writable s (Reg.LNE_PRBS_CTL lane.toNat)) (value : Word) :
    exec (.prbsGenChk lane value) s = .next { s with mach := s.mach.prbsCtl lane.toNat value.toNat } ∧
      exec (.prbsInjGo lane value) s = .next { s with mach := s.mach.prbsCtl lane.toNat value.toNat } := by
  have hwrite : (s.runM fun _ m => m.regCmd (Reg.LNE_PRBS_CTL lane.toNat) fun m => m.prbsCtl lane.toNat value.toNat) =
      .next { s with mach := s.mach.prbsCtl lane.toNat value.toNat } := by rw [runM_eq, regCmd_eq h]
  exact ⟨hwrite, hwrite⟩

/-- The lane as a test that is not refused takes it: its pattern started, LOCK cleared when the checker's changes, in LS3. -/
def Mach.prbsTest (m : Mach) (n value : Nat) : Mach :=
  let reg := Reg.LNE_PRBS_CTL n
  let gen := bits value 27 26
  let m0 := m.writeRw reg 0xF7F0000 value
  let m1 := if m.fld reg 27 26 = gen then m0
    else
      let a := m0.modLane n fun x => { x with inject := none }
      if gen = 0 then a else a.emit (.pattern n gen)
  let m2 := if m.fld reg 25 24 = bits value 25 24 then m1
    else (m1.modLane n fun x => { x with chk := none }).setFlag reg 23 false
  (m2.modLane n fun x => { x with calLeft := 0 }).setLstate n 3 0

section
variable {m : Mach} {n value : Nat} (ht : bits value 27 24 ≠ 0)
include ht

theorem prbsCtl_active (ha : m.laneActive n = true) :
    m.prbsCtl n value = (m.writeRw (Reg.LNE_PRBS_CTL n) 0x7F0000 value).laneRefuse n 0 := by
  simp only [Mach.prbsCtl, ht, ha, if_false, if_true]

variable (ha : m.laneActive n = false)
include ha

theorem prbsCtl_domainOff (hd : m.domainOff (n / 16) = true) :
    m.prbsCtl n value = (m.writeRw (Reg.LNE_PRBS_CTL n) 0x7F0000 value).laneRefuse n 2 := by
  simp only [Mach.prbsCtl, ht, ha, hd, Bool.false_eq_true, if_false, if_true]

variable (hd : m.domainOff (n / 16) = false)
include hd

/-- Without GO, a change of INJ ends the injection in force. -/
theorem prbsCtl_test (hgo : bitOf value 31 = false) :
    m.prbsCtl n value = if m.fld (Reg.LNE_PRBS_CTL n) 22 21 = bits value 22 21 then m.prbsTest n value
      else (m.prbsTest n value).modLane n fun x => { x with inject := none } := by
  simp only [Mach.prbsCtl, Mach.prbsTest, ht, ha, hd, hgo, ne_eq, not_false_eq_true, Bool.false_and, Bool.false_eq_true, if_false,
    if_true]

/-- GO starts one injection or a periodic one, at a symbol that the spec leaves open (log 71). -/
theorem prbsCtl_injects (hgo : bitOf value 31 = true) (hg : bits value 27 26 ≠ 0) (hi : bits value 22 21 = 1 ∨ bits value 22 21 = 2) :
    let every := if bits value 22 21 = 1 then 0 else 2 ^ max 8 (bits value 20 16)
    let d := (m.prbsTest n value).draw 31
    m.prbsCtl n value = (d.2.modLane n fun x => { x with inject := some (every, d.1) }).emit (.prbsError n every) := by
  have hgen : (bits value 27 26 != 0) = true := bne_iff_ne.mpr hg
  have hinj : (bits value 22 21 == 1 || bits value 22 21 == 2) = true := by simpa using hi
  simp only [Mach.prbsCtl, Mach.prbsTest, ht, ha, hd, hgo, hgen, hinj, ne_eq, not_false_eq_true, Bool.and_self, Bool.false_eq_true,
    if_false, if_true]

end

/-! ### The checker (11 R324) -/

/-- While a checker is not locked it begins anew where its receiver finds the pattern. -/
def LaneX.checkFrom (x : LaneX) (phase : Nat) : Checker := (x.chk.filter fun k => k.locked).getD { at_ := phase }

theorem checkFrom_none {x : LaneX} (hx : x.chk = none) (phase : Nat) : x.checkFrom phase = { at_ := phase } := by
  simp only [LaneX.checkFrom, hx, Option.filter_none, Option.getD_none]

theorem checkFrom_some {x : LaneX} {k : Checker} (hx : x.chk = some k) (phase : Nat) :
    x.checkFrom phase = if k.locked then k else { at_ := phase } := by
  cases hk : k.locked <;> simp [LaneX.checkFrom, Option.filter, hx, hk]

section
variable {s : State} {lane : BitVec 9} (h : LanesRun s) (phase : BitVec 31) (levels : List (BitVec 2))
include h

theorem exec_prbsCheckerLock_none (hk : s.mach.fld (Reg.LNE_PRBS_CTL lane.toNat) 25 24 = 0) :
    exec (.prbsCheckerLock lane phase levels) s = .next s := by
  show execPrbsCheckerLock lane phase levels s = _
  simp only [execPrbsCheckerLock, runM_eq, whenLanes_eq h, hk, if_true]

theorem exec_prbsCheckerLock_runs (hk : s.mach.fld (Reg.LNE_PRBS_CTL lane.toNat) 25 24 ≠ 0) :
    let m := s.mach
    let n := lane.toNat
    let c := ((m.lane n).checkFrom phase.toNat).meetAll (m.fld (Reg.LNE_PRBS_CTL n) 25 24) levels
    let m1 := m.modLane n fun x => { x with chk := some { c with syms := 0, bits := 0 } }
    exec (.prbsCheckerLock lane phase levels) s = .next { s with
      mach := if c.locked then
          ((m1.setFlag (Reg.LNE_PRBS_CTL n) 23 true).countN (Reg.LNE_PRBS_SYM_ERR n) c.syms).countN (Reg.LNE_PRBS_BIT_ERR n) c.bits
        else m1 } := by
  show execPrbsCheckerLock lane phase levels s = _
  cases hc : (s.mach.lane lane.toNat).chk with
  | none => simp only [execPrbsCheckerLock, runM_eq, whenLanes_eq h, hk, if_false, hc, checkFrom_none hc]
  | some k => simp only [execPrbsCheckerLock, runM_eq, whenLanes_eq h, hk, if_false, hc, checkFrom_some hc]

end

/-- Settles O31: the layout by what a write changes, a test by what bars it, a checker by whether one runs. -/
theorem layoutAndLaneTestWritesAreTaken : Obligations.LayoutAndLaneTestWritesAreTaken := by
  unfold Obligations.LayoutAndLaneTestWritesAreTaken
  intro s lane m n
  refine ⟨fun value h => ?_, fun port p h hp hheld htakes => exec_layoutApply_held h hp hheld htakes,
    fun value h => ⟨fun ht ha => ?_, fun ht ha hd => ?_, fun ht ha hd => ?_⟩,
    fun phase levels h => ⟨exec_prbsCheckerLock_none h phase levels, exec_prbsCheckerLock_runs h phase levels⟩⟩
  · intro m1 same
    refine ⟨fun hsame => ?_, fun hchange => ?_⟩
    · rw [exec_layoutWrite h, laneCfg_stores rfl hsame]
    · rw [exec_layoutWrite h]
      cases hp : m1.portOf? n with
      | none => rw [laneCfg_noPort rfl hchange hp]
      | some p => rw [laneCfg_port rfl hchange hp]
  · rw [(exec_prbsCtl h value).1, prbsCtl_active ht ha]
  · rw [(exec_prbsCtl h value).1, prbsCtl_domainOff ht ha hd]
  · refine ⟨fun hgo => ?_, fun hgo hg hi => ?_⟩
    · rw [(exec_prbsCtl h value).1, prbsCtl_test ht ha hd hgo]
      rfl
    · rw [(exec_prbsCtl h value).2, prbsCtl_injects ht ha hd hgo hg hi]
      rfl

end Sys2Proof.Machine

/-! PROOFS. Switching domains, entering and leaving module states, and power loss (21 R524, R530 to R538, R541). -/
namespace Sys2Proof.Machine

/-! ### Switching domains (21 R524, R534) -/

theorem exec_pwrDomainOff_noWord (s : State) (value : Word) : exec (.pwrDomainOff 3 value) s = .next s := by
  show execPwrDomainOff 3 value s = _
  simp only [execPwrDomainOff, runM_eq, if_true]

theorem exec_pwrDomainOff {s : State} {word : BitVec 2} (hw : word ≠ 3) (h : Writable s (Reg.PWR_DOMAIN_OFF_W word.toNat))
    (value : Word) :
    exec (.pwrDomainOff word value) s = .next { s with mach := s.mach.domainWrite word.toNat value.toNat } := by
  show execPwrDomainOff word value s = _
  rw [execPwrDomainOff, runM_eq, if_neg hw, regCmd_eq h]

section
variable {m : Mach} {d : Nat} (ho : m.domainOff d = false)
include ho

theorem domainGo_barred {cause x : Nat} (hb : m.domainBar d = some (cause, x)) :
    m.domainGo d = ((m.count Reg.PWR_REFUSE_CNT).wr Reg.PWR_REFUSE_LAST (BitVec.ofNat 32 (cause * 2 ^ 28 + x))).powerEvent
      4 0 7 0 cause x := by
  simp only [Mach.domainGo, ho, hb, Mach.pwrRefuse, Nat.zero_mul, Nat.add_zero, Bool.false_eq_true, if_false]

/-- A core's domain takes the core with it. -/
theorem domainGo_core (hlo : 44 ≤ d) (hhi : d < 76) (hb : m.domainBar d = none) :
    m.domainGo d = ((m.setCore { core := d - 44 }).domainSet d true).powerEvent 3 0 7 0 0 d := by
  have hlanes : ¬d < 32 := by omega
  simp only [Mach.domainGo, ho, hb, Mach.domainLoses, hlanes, hlo, hhi, decide_true, Bool.and_self, Bool.false_eq_true, if_false,
    if_true]

end

/-- A domain that was starting comes on, once the domain it needs is on. -/
theorem exec_domainOnDone (s : State) (domain : BitVec 7) :
    let m := s.mach
    let d := domain.toNat
    let m1 : Mach := { m with pwr := { m.pwr with starting := m.pwr.starting.filter (· != d) } }
    let r := (m1.domainSet d false).domainInit s.store d
    exec (.domainOnDone domain) s =
      if m.awake = true ∧ d ∈ m.pwr.starting ∧ ∀ x, domainNeeds d = some x → m.domainOff x = false then
        .next { s with mach := r.1.powerEvent 3 0 7 0 0 d, store := r.2 }
      else .next s := by
  show execDomainOnDone domain s = _
  have hdue : (!s.mach.awake || !s.mach.pwr.starting.contains domain.toNat || (domainNeeds domain.toNat).any s.mach.domainOff) = true ↔
      ¬(s.mach.awake = true ∧ domain.toNat ∈ s.mach.pwr.starting ∧
        ∀ x, domainNeeds domain.toNat = some x → s.mach.domainOff x = false) := by
    simp only [Bool.or_eq_true, Bool.not_eq_true', Option.any_eq_true, List.contains_eq_mem, decide_eq_false_iff_not,
      Classical.not_and_iff_not_or_not, Classical.not_forall, Bool.not_eq_true, Bool.not_eq_false, or_assoc, exists_prop]
  simp only [execDomainOnDone, runMS_eq, hdue, ite_not]
  split <;> rfl

/-! ### Entering M2 and M3 (21 R530, R531, R541) -/

section
variable {s : State} (h : Writable s Reg.PWR_STATE_REQ) (value : Word)
include h

theorem exec_stateReq :
    ∀ c ∈ [Instr.stateReqM2 value, .stateReqM3 value], exec c s = .next { s with mach := s.mach.stateEnter value.toNat } := by
  have hwrite : (s.runM fun _ m => m.regCmd Reg.PWR_STATE_REQ fun m => m.stateEnter value.toNat) =
      .next { s with mach := s.mach.stateEnter value.toNat } := by rw [runM_eq, regCmd_eq h]
  simp only [List.forall_mem_cons, List.not_mem_nil, false_imp_iff, implies_true, and_true]
  exact ⟨hwrite, hwrite⟩

end

section
variable {m : Mach} {value : Nat}

theorem stateEnter_noEntry (h : bitOf value 31 = false ∨ value % 4 < 2) : m.stateEnter value = m := by
  have hno : (!bitOf value 31 || decide (value % 4 < 2)) = true := by simpa using h
  simp only [Mach.stateEnter, hno, if_true]

variable (hgo : bitOf value 31 = true) (hk : 2 ≤ value % 4)
include hgo hk

/-- GO with state 2 or 3 asks for an entry. -/
theorem stateEnter_asks : (!bitOf value 31 || decide (value % 4 < 2)) = false := by
  simp [hgo, Nat.not_lt.mpr hk]

theorem stateEnter_during (he : m.flag Reg.PWR_STATUS 29 = true) : m.stateEnter value = m.pwrRefuse (value % 4 - 1) 9 87 := by
  simp only [Mach.stateEnter, stateEnter_asks hgo hk, he, Bool.false_eq_true, if_false, if_true]

variable (he : m.flag Reg.PWR_STATUS 29 = false)
include he

theorem stateEnter_barred {cause d : Nat} (hb : m.entryBar (value % 4) = some (cause, d)) :
    m.stateEnter value = m.pwrRefuse (value % 4 - 1) cause d := by
  simp only [Mach.stateEnter, stateEnter_asks hgo hk, he, hb, Bool.false_eq_true, if_false]

/-- Step 1 of an entry: the partners are told, and what the later steps go by is taken. -/
theorem stateEnter_begins (hb : m.entryBar (value % 4) = none) :
    let m1 := (m.setFlag Reg.PWR_STATUS 29 true).setFlag Reg.BOOT_STATUS 23 false
    let tell (a : Mach) (p : Port) : Mach :=
      let b := a.sendLink p.first false 1
      if 3 ≤ p.negRev then b.sendLink p.first false 3 else b
    let m2 := (m1.ports.filter Port.usable).foldl tell m1
    m.stateEnter value = { m2 with pwr := { m2.pwr with
      entering := some ⟨value % 4, m.aon, 1⟩, retain := (m.rd Reg.PWR_RETAIN).toNat, wakeCfg := (m.rd Reg.PWR_WAKE_CFG).toNat } } := by
  simp only [Mach.stateEnter, stateEnter_asks hgo hk, he, hb, Bool.false_eq_true, if_false]

end

/-! ### Wake (21 R532, R533, R541) -/

theorem wakeUp_awake {m : Mach} (ha : m.awake = true) (he : m.pwr.entering = none) (st : Store) (source : Nat) :
    m.wakeUp st source = (m, st) := by
  simp only [Mach.awake, Bool.and_eq_true, Bool.not_eq_true', decide_eq_true_eq] at ha
  obtain ⟨⟨⟨⟨⟨hreset, hwarm⟩, hsafe⟩, hlost⟩, hstate⟩, -⟩ := ha
  have hasleep : ¬2 ≤ m.mstate := by omega
  simp only [Mach.wakeUp, hreset, hwarm, hsafe, hlost, hasleep, he, Bool.or_self, Bool.false_eq_true, if_false]

theorem wakeUp_asleep {m : Mach} (hm : 2 ≤ m.mstate) (hr : m.boot.resetN = false) (hw : m.boot.warmN = false) (hs : m.flt.safe = false)
    (hl : m.pwr.lost = false) (st : Store) (source : Nat) : m.wakeUp st source = ((m.sleepExit m.mstate).wakeNote source, st) := by
  simp only [Mach.wakeUp, hr, hw, hs, hl, hm, Bool.or_self, Bool.false_eq_true, if_false, if_true]

section
variable {s : State}

/-- A press that PWR_WAKE_CFG lets wake the module. -/
theorem exec_wake_enabled (hw : bitOf s.mach.pwr.wakeCfg 31 = true) :
    let r := s.mach.wakeUp s.store 1
    exec .wake s = .next { s with mach := if r.1.awake then r.1.countPress 8 else r.1, store := r.2 } := by
  show execWake s = _
  simp only [execWake, runMS_eq, hw, if_true]

theorem exec_wake_disabled (hw : bitOf s.mach.pwr.wakeCfg 31 = false) :
    exec .wake s = .next { s with mach := if s.mach.awake then s.mach.countPress 8 else s.mach } := by
  show execWake s = _
  simp only [execWake, runMS_eq, hw, Bool.false_eq_true, if_false]

theorem exec_wake_awake (ha : s.mach.awake = true) (he : s.mach.pwr.entering = none) :
    exec .wake s = .next { s with mach := s.mach.countPress 8 } := by
  cases hw : bitOf s.mach.pwr.wakeCfg 31 with
  | false => rw [exec_wake_disabled hw, if_pos ha]
  | true => simp only [exec_wake_enabled hw, wakeUp_awake ha he, ha, if_true]

end

theorem exec_wakeVin (s : State) (vin : BitVec 16) :
    let m1 := s.mach.setFld Reg.PWR_VIN 15 0 vin.toNat
    exec (.wakeVin vin) s =
      if bitOf s.mach.pwr.wakeCfg 30 = true ∧ vin.toNat < 250 * bits s.mach.pwr.wakeCfg 15 8 then
        .next { s with mach := (m1.wakeUp s.store 2).1, store := (m1.wakeUp s.store 2).2 }
      else .next { s with mach := m1 } := by
  show execWakeVin vin s = _
  simp only [execWakeVin, runMS_eq, Bool.and_eq_true, decide_eq_true_eq]
  split <;> rfl

theorem exec_wakeTemp (s : State) (sensor : BitVec 3) (temp : Byte) :
    let m1 := s.mach.setTemp sensor.toNat temp
    exec (.wakeTemp sensor temp) s =
      if bitOf s.mach.pwr.wakeCfg 29 = true ∧ (bits s.mach.pwr.wakeCfg 23 16 : Int) < temp.toInt then
        .next { s with mach := (m1.wakeUp s.store 3).1, store := (m1.wakeUp s.store 3).2 }
      else .next { s with mach := m1 } := by
  show execWakeTemp sensor temp s = _
  simp only [execWakeTemp, runMS_eq, Bool.and_eq_true, decide_eq_true_eq]
  split <;> rfl

/-! ### Power loss and return (21 R536 to R538) -/

section
variable {s : State}

theorem exec_powerLoss_again (hl : s.mach.pwr.lost = true) (vin : BitVec 16) : exec (.powerLoss vin) s = .next s := by
  show execPowerLoss vin s = _
  simp only [execPowerLoss, runM_eq, hl, if_true]

theorem exec_powerLoss_first (hl : s.mach.pwr.lost = false) (vin : BitVec 16) :
    exec (.powerLoss vin) s = .next { s with mach := s.mach.powerLoss vin.toNat } := by
  show execPowerLoss vin s = _
  simp only [execPowerLoss, runM_eq, hl, Bool.false_eq_true, if_false]

theorem powerLoss_eq (m : Mach) (vin : Nat) :
    let m1 := m.setFld Reg.PWR_VIN 15 0 vin
    let m2 := if m.flt.lanternReset = false ∨ m.flt.safe = true ∨ 2 ≤ m.mstate then m1.writeGasp else m1
    let m3 := (((m2.transmittersOff.tearFlash).setFlag Reg.JNK_STATUS 31 false).setFlag Reg.BOOT_STATUS 23 false).allOff
    m.powerLoss vin = { m3 with
      pwr := { m3.pwr with lost := true, entering := none, starting := [] }, ecc := { m3.ecc with busy := false } } := by
  simp only [Mach.powerLoss, Bool.or_eq_true, Bool.not_eq_true', decide_eq_true_eq, or_assoc]

theorem exec_vinReturn_powered (hl : s.mach.pwr.lost = false) (straps : BitVec 18) : exec (.vinReturn straps) s = .next s := by
  show execVinReturn straps s = _
  simp only [execVinReturn, runMS_eq, hl, Bool.not_false, if_true]

variable (hl : s.mach.pwr.lost = true)
include hl

theorem exec_vinReturn_safe (hs : s.mach.flt.safe = true) (straps : BitVec 18) :
    exec (.vinReturn straps) s = .next { s with mach := { s.mach with pwr := { s.mach.pwr with lost := false } } } := by
  show execVinReturn straps s = _
  simp only [execVinReturn, runMS_eq, hl, hs, Bool.not_true, Bool.false_eq_true, if_false, if_true]

/-- The memories are lost, and a module that is not held in reset comes up cold. -/
theorem exec_vinReturn_cold (hs : s.mach.flt.safe = false) (straps : BitVec 18) :
    exec (.vinReturn straps) s = .next { s with
      mach := if s.mach.boot.resetN = true ∨ s.mach.boot.warmN = true then s.mach.powerState else s.mach.powerState.startCold straps
      store := {} } := by
  have hreset : s.mach.powerState.boot.resetN = s.mach.boot.resetN := rfl
  have hwarm : s.mach.powerState.boot.warmN = s.mach.boot.warmN := rfl
  show execVinReturn straps s = _
  simp only [execVinReturn, runMS_eq, hl, hs, hreset, hwarm, Bool.or_eq_true, Bool.not_true, Bool.false_eq_true, if_false]

end

/-- Settles O53: domain requests and their completion, entries, wakes, and power loss with its end. -/
theorem domainsAndModuleStatesSwitch : Obligations.DomainsAndModuleStatesSwitch := by
  unfold Obligations.DomainsAndModuleStatesSwitch
  refine ⟨exec_pwrDomainOff_noWord, fun s word value hw h => exec_pwrDomainOff hw h value,
    fun m d ho => ⟨fun cause x => domainGo_barred ho, domainGo_core ho⟩, ?_, ?_, ?_, ?_⟩
  · intro s domain m d due m1 r
    refine ⟨fun hno => ?_, fun hyes => ?_⟩
    · rw [exec_domainOnDone, if_neg hno]
    · rw [exec_domainOnDone, if_pos hyes]
  · intro s value h c hc m k
    rw [exec_stateReq h value c hc]
    refine ⟨fun hno => ?_, fun hgo hk => ⟨fun he => ?_, fun he => ⟨fun cause d hb => ?_, fun hb => ?_⟩⟩⟩
    · rw [stateEnter_noEntry hno]
    · rw [stateEnter_during hgo hk he]
    · rw [stateEnter_barred hgo hk he hb]
    · rw [stateEnter_begins hgo hk he hb]
  · intro s m woken
    refine ⟨exec_wake_awake, fun ha hw => ?_, fun ha hm hr hwarm hs hl hw m1 hm1 => ?_, fun vin => ?_, fun sensor temp => ?_⟩
    · rw [exec_wake_disabled hw, if_neg (Bool.eq_false_iff.mp ha)]
    · rw [exec_wake_enabled hw, wakeUp_asleep hm hr hwarm hs hl, hm1]
    · intro m1 on
      refine ⟨fun hon => ?_, fun hoff => ?_⟩
      · rw [exec_wakeVin, if_pos hon]
      · rw [exec_wakeVin, if_neg hoff]
    · intro m1 on
      refine ⟨fun hon => ?_, fun hoff => ?_⟩
      · rw [exec_wakeTemp, if_pos hon]
      · rw [exec_wakeTemp, if_neg hoff]
  · intro s m
    refine ⟨exec_powerLoss_again, fun hl vin => ?_, fun straps => ⟨fun hl => exec_vinReturn_powered hl straps,
      fun hl hs => exec_vinReturn_safe hl hs straps, fun hl hs hr hw => ?_, fun hl hs hheld => ?_⟩⟩
    · rw [exec_powerLoss_first hl, powerLoss_eq]
    · rw [exec_vinReturn_cold hl hs, if_neg (by simp [m, hr, hw])]
    · rw [exec_vinReturn_cold hl hs, if_pos hheld]

end Sys2Proof.Machine

/-! PROOFS. Packets that a port receives (10 R287): the checks in their order, and what a packet that passes them becomes. -/
namespace Sys2Proof.Machine

/-- A packet that fails a check: it counts and its credit goes back (10 R268, R287). -/
def Mach.dropPacket (m : Mach) (f flits : Nat) (p : Packet) (cnt : Nat) : Mach :=
  (m.count cnt).returnCredit (some (f, flits)) p.vc.toNat

/-- A packet that passes the checks: stamped, poisoned whole or from a flit on, and sent on by its destination (10 R276, 13 R351,
R352, R364). -/
def Mach.admitPacket (m : Mach) (st : Store) (f : Nat) (q : Port) (p : Packet) (flits : Nat) (poisoned headLeft : Bool) : Mach :=
  let short := decide (flits ≠ pktFlits p)
  let left := headLeft && decide (p.dest.toNat < 0xFFF0)
  let m1 := if short then m.count Reg.TRL_MALFORMED_CNT else m
  let p1 : Packet := { p with
    epoch := if (q.ident.getD {}).kind == 1 then m.sw.stamp else p.epoch
    poison := p.poison || (!left && poisoned) }
  let c := (if p1.epoch != m.sw.stamp then m1.setFlag Reg.RTE_STATUS 28 true else m1).cellErr (dieOf f) p1 .none
  let tail := if left && (poisoned || short) then c.2.tailFrom (pktFlits p) else (none, c.2)
  if p.dest.toNat < 0xFFF0 then tail.2.forward st f flits c.1 tail.1 .none else tail.2.toFunction f flits c.1

/-- The number of flits fits the packet, or the packet is one to forward whose head has left already. -/
def lengthPasses (p : Packet) (flits : Nat) (headLeft : Bool) : Prop :=
  flits = pktFlits p ∨ (p.dest.toNat < 0xFFF0 ∧ headLeft = true)

theorem queuedFault_none (m : Mach) (seq : Nat) : m.queuedFault seq .none = m := rfl

section
variable {m : Mach} {f : Nat} {q : Port} {p : Packet} {flits : Nat} {headLeft : Bool} (hq : m.port? f = some q)
include hq

theorem ingress_unlinked (hl : q.linked = false) (st : Store) (poisoned : Bool) (err : HwErr) :
    m.ingress st f p flits poisoned headLeft err = m := by
  simp only [Mach.ingress, hq, hl, Bool.not_false, if_true]

variable (hl : q.linked = true)
include hl

theorem ingress_badHeader {cnt : Nat} (hb : headerBad q p = some cnt) (st : Store) (poisoned : Bool) (err : HwErr) :
    m.ingress st f p flits poisoned headLeft err = m.dropPacket f flits p cnt := by
  simp only [Mach.ingress, hq, hl, hb, Bool.not_true, Bool.false_eq_true, if_false, Mach.dropPacket]

variable (hb : headerBad q p = none)
include hb

theorem ingress_strayTime (ht : timeStrays p = true) (st : Store) (poisoned : Bool) (err : HwErr) :
    m.ingress st f p flits poisoned headLeft err = m.dropPacket f flits p Reg.RTE_BADDEST_CNT := by
  simp only [Mach.ingress, hq, hl, hb, ht, Bool.not_true, Bool.false_eq_true, if_false, if_true, Mach.dropPacket]

variable (ht : timeStrays p = false)
include ht

theorem ingress_wrongLength (hlen : ¬lengthPasses p flits headLeft) (st : Store) (poisoned : Bool) (err : HwErr) :
    m.ingress st f p flits poisoned headLeft err = m.dropPacket f flits p Reg.TRL_MALFORMED_CNT := by
  obtain ⟨hne, hout⟩ := not_or.mp hlen
  have hshort : (decide (flits ≠ pktFlits p) && !(decide (p.dest.toNat < 0xFFF0) && headLeft)) = true := by
    rw [decide_eq_true hne, Bool.true_and, Bool.not_eq_true', ← Bool.not_eq_true, Bool.and_eq_true, decide_eq_true_iff]
    exact hout
  simp only [Mach.ingress, hq, hl, hb, ht, hshort, Bool.not_true, Bool.false_eq_true, if_false, if_true, Mach.dropPacket]

/-- Past the checks of header and length only quarantine and the fences can bar a packet (16 R430, 18 R462, R464). -/
theorem ingress_lengthPasses (hlen : lengthPasses p flits headLeft) (st : Store) (poisoned : Bool) :
    m.ingress st f p flits poisoned headLeft .none =
      if quarantineBars q p then m.dropPacket f flits p Reg.SVC_QUAR_DROP_CNT
      else if p.vc ≠ 1 ∧ m.flt.galFences.contains p.gallery.toNat = true then m.dropPacket f flits p Reg.SWC_GFLUSH_CNT
      else if p.vc ≠ 1 ∧ (m.flt.fences.contains (12 + dieOf f) = true ∨ m.flt.fences.contains (14 + dieOf f) = true) then
        m.dropPacket f flits p Reg.SWC_UNREACH_CNT
      else m.admitPacket st f q p flits poisoned headLeft := by
  have hpass : (decide (flits ≠ pktFlits p) && !(decide (p.dest.toNat < 0xFFF0) && headLeft)) = false := by
    rcases hlen with heq | ⟨hdest, hleft⟩
    · rw [decide_eq_false (not_not_intro heq), Bool.false_and]
    · rw [decide_eq_true hdest, hleft, Bool.and_self, Bool.not_true, Bool.and_false]
  have hpoison : (!(decide (p.dest.toNat < 0xFFF0) && headLeft) && (poisoned || decide (flits ≠ pktFlits p))) =
      (!(decide (p.dest.toNat < 0xFFF0) && headLeft) && poisoned) := by
    rw [Bool.and_or_distrib_left, Bool.and_comm _ (decide (flits ≠ pktFlits p)), hpass, Bool.or_false]
  simp only [Mach.ingress, hq, hl, hb, ht, hpass, hpoison, queuedFault_none, Mach.admitPacket, Mach.dropPacket, Bool.not_true,
    Bool.false_eq_true, if_false, Bool.and_comm headLeft, Bool.and_eq_true,
    Bool.or_eq_true, decide_eq_true_eq]

end

theorem exec_packetIngress {s : State} (hr : s.mach.running = true) (port : BitVec 9) (pkt : Packet) (flits : Byte)
    (poisoned headLeft : Bool) (err : HwErr) :
    exec (.packetIngress port pkt flits poisoned headLeft err) s =
      .next { s with mach := s.mach.ingress s.store port.toNat pkt flits.toNat poisoned headLeft err } := by
  show execPacketIngress port pkt flits poisoned headLeft err s = _
  rw [execPacketIngress, runM_eq, whenRunning_eq hr]

/-- Settles O32, over the checks in the order in which a packet meets them. -/
theorem packetsEnterOrAreDroppedAndCounted : Obligations.PacketsEnterOrAreDroppedAndCounted := by
  unfold Obligations.PacketsEnterOrAreDroppedAndCounted
  intro s port q pkt flits poisoned headLeft hr hq m f dropped run
  have hrun : run = .next { s with mach := m.ingress s.store f pkt flits.toNat poisoned headLeft .none } :=
    exec_packetIngress hr port pkt flits poisoned headLeft .none
  refine ⟨fun hl => ?_, fun hl => ⟨fun cnt hb => ?_, fun hb ht => ?_, fun hb ht hne hout => ?_, fun hb ht hlen => ?_⟩⟩
  · rw [hrun, ingress_unlinked hq hl]
  · rw [hrun, ingress_badHeader hq hl hb]
    rfl
  · rw [hrun, ingress_strayTime hq hl hb ht]
    rfl
  · have hfails : ¬lengthPasses pkt flits.toNat headLeft := by
      rintro (heq | ⟨hdest, hleft⟩)
      · exact hne heq
      · rcases hout with hfar | hnot
        · exact Nat.not_lt.mpr hfar hdest
        · rw [hleft] at hnot
          cases hnot
    rw [hrun, ingress_wrongLength hq hl hb ht hfails]
    rfl
  · rw [hrun, ingress_lengthPasses hq hl hb ht hlen]
    refine ⟨fun hbars => ?_, fun hfree hvc hgal => ?_, fun hfree hvc hgal hdie => ?_, fun hfree hopen => ?_⟩
    · rw [if_pos hbars]
      rfl
    · rw [if_neg (Bool.eq_false_iff.mp hfree), if_pos ⟨hvc, hgal⟩]
      rfl
    · rw [if_neg (Bool.eq_false_iff.mp hfree), if_neg (fun h => Bool.eq_false_iff.mp hgal h.2), if_pos ⟨hvc, hdie⟩]
      rfl
    · have hgal : ¬(pkt.vc ≠ 1 ∧ m.flt.galFences.contains pkt.gallery.toNat = true) := fun ⟨hvc, hgal⟩ =>
        Bool.eq_false_iff.mp (hopen.resolve_left hvc).1 hgal
      have hdie : ¬(pkt.vc ≠ 1 ∧ (m.flt.fences.contains (12 + dieOf f) = true ∨ m.flt.fences.contains (14 + dieOf f) = true)) := by
        rintro ⟨hvc, hdie⟩
        obtain ⟨-, h12, h14⟩ := hopen.resolve_left hvc
        exact hdie.elim (Bool.eq_false_iff.mp h12) (Bool.eq_false_iff.mp h14)
      rw [if_neg (Bool.eq_false_iff.mp hfree), if_neg hgal, if_neg hdie]
      rfl

end Sys2Proof.Machine

/-! PROOFS. The queues of the packet switch: fills and Sump writes (12 R336 to R339), the ends of holds (12 R344, 13 R361), the pick
of a port (14 R371, R374) and escapes (13 R359). -/
namespace Sys2Proof.Machine

/-- The machine once a staged packet of a queue has been written to Sump (12 R339). -/
def Mach.toSump (m : Mach) (q : Queue) (x : QPkt) (err : HwErr) : Mach :=
  let r := m.writeSump q x
  let now (y : QPkt) : QPkt := { y with loc := .sump, chain := 0, whole := true }
  let written := r.2.setQueue { r.1 with pkts := modFirst (fun y => y.seq == x.seq) now r.1.pkts }
  if q.newPages x.cells = 0 then written else written.spillFault q.key x.seq err

/-- The heads of all queues of a port brought up to date. -/
def Mach.settleHeads (m : Mach) (st : Store) (f : Nat) : Mach := (List.range 8).foldl (fun a v => a.settleHead st f v) m

section
variable {s : State} (hr : s.mach.running = true)
include hr

/-! ### Fill and Sump writes (12 R336 to R339) -/

section
variable {q : QSel}

theorem exec_fillTake_noSump (h : (s.mach.queue (qkey q)).oldestSump = none) (err : HwErr) :
    exec (.fillTake q err) s = .next s := by
  show execFillTake q err s = _
  simp only [execFillTake, runM_eq, whenRunning_eq hr, h]

variable {x : QPkt} (hx : (s.mach.queue (qkey q)).oldestSump = some x)
include hx

theorem exec_fillTake_barred (err : HwErr)
    (hbar : s.mach.fillFits (s.mach.queue (qkey q)) x = false ∨ s.mach.fillHalted (s.mach.queue (qkey q)) = true ∨
      s.mach.fillBehind (s.mach.queue (qkey q)) x = true) :
    exec (.fillTake q err) s = .next s := by
  have hbars : (!s.mach.fillFits (s.mach.queue (qkey q)) x || s.mach.fillHalted (s.mach.queue (qkey q)) ||
      s.mach.fillBehind (s.mach.queue (qkey q)) x) = true := by
    simpa only [Bool.or_eq_true, Bool.not_eq_true', or_assoc] using hbar
  show execFillTake q err s = _
  simp only [execFillTake, runM_eq, whenRunning_eq hr, hx, hbars, if_true]

theorem exec_fillTake_fits (hfits : s.mach.fillFits (s.mach.queue (qkey q)) x = true)
    (hgoes : s.mach.fillHalted (s.mach.queue (qkey q)) = false) (hfirst : s.mach.fillBehind (s.mach.queue (qkey q)) x = false) :
    exec (.fillTake q .none) s = .next { s with mach := s.mach.fillTake (s.mach.queue (qkey q)) x } := by
  show execFillTake q .none s = _
  simp only [execFillTake, runM_eq, whenRunning_eq hr, hx, hfits, hgoes, hfirst, Bool.not_true, Bool.or_self, Bool.false_eq_true,
    if_false]

end

theorem exec_fillHeadWritten (q : QSel) :
    let qu := s.mach.queue (qkey q)
    exec (.fillHeadWritten q) s = .next { s with mach := s.mach.setQueue { qu with
      pkts := modFirst (fun x => x.loc == .filling) (fun x => { x with loc := .onDie }) qu.pkts } } := by
  intro qu
  show execFillHeadWritten q s = _
  rw [execFillHeadWritten, runM_eq, whenRunning_eq hr]

section
variable {w : SumpWr}

theorem exec_sumpWrite_noneStaged (h : (s.mach.queue (qkey w.q)).pkts.find? (fun x => x.loc == .staged) = none) :
    exec (.sumpWrite w) s = .next s := by
  show execSumpWrite w s = _
  simp only [execSumpWrite, runM_eq, whenRunning_eq hr, h]

variable {x : QPkt} (hx : (s.mach.queue (qkey w.q)).pkts.find? (fun x => x.loc == .staged) = some x)
include hx

theorem exec_sumpWrite_full
    (hfull : s.mach.dieSumpFree (s.mach.queue (qkey w.q)).key.die < max 1 ((s.mach.queue (qkey w.q)).newPages x.cells)) :
    exec (.sumpWrite w) s = .next s := by
  have hbars : s.mach.dieSumpFree (s.mach.queue (qkey w.q)).key.die = 0 ∨
      s.mach.dieSumpFree (s.mach.queue (qkey w.q)).key.die < (s.mach.queue (qkey w.q)).newPages x.cells := by omega
  show execSumpWrite w s = _
  simp only [execSumpWrite, runM_eq, whenRunning_eq hr, hx, Bool.or_eq_true, decide_eq_true_eq, hbars, true_or, if_true]

/-- A queue without a cap on its pages, and a die with pages enough, let the packet go to Sump. -/
theorem exec_sumpWrite_room (hpages : 0 < s.mach.dieSumpFree (s.mach.queue (qkey w.q)).key.die)
    (hroom : (s.mach.queue (qkey w.q)).newPages x.cells ≤ s.mach.dieSumpFree (s.mach.queue (qkey w.q)).key.die)
    (hcap : ∀ p v, (s.mach.queue (qkey w.q)).key = .port p v → s.mach.fld (Reg.SWC_QCFG p v) 31 16 = 0) :
    exec (.sumpWrite w) s = .next { s with mach := s.mach.toSump (s.mach.queue (qkey w.q)) x w.err } := by
  show execSumpWrite w s = _
  simp only [execSumpWrite, runM_eq, whenRunning_eq hr, hx]
  rw [if_neg]
  · rfl
  · simp only [Bool.or_eq_true, Bool.and_eq_true, decide_eq_true_eq, Nat.ne_of_gt hpages, Nat.not_lt.mpr hroom, false_or]
    rintro ⟨hcapped, -⟩
    split at hcapped
    case h_1 p v hk => exact hcapped (hcap p v hk)
    case h_2 => exact hcapped rfl

end

/-! ### Ends of holds (12 R344, 13 R361) -/

section
variable (port : BitVec 9) (vc : BitVec 3)

theorem exec_rehashHoldEnd :
    let qu := s.mach.queue (.port port.toNat vc.toNat)
    exec (.rehashHoldEnd port vc) s = .next { s with mach := s.mach.setQueue { qu with
      pkts := modFirst (fun x => x.held) (fun x => { x with held := false }) qu.pkts } } := by
  intro qu
  show execRehashHoldEnd port vc s = _
  rw [execRehashHoldEnd, runM_eq, whenRunning_eq hr]

theorem exec_orderHoldEnd :
    let qu := s.mach.queue (.port port.toNat vc.toNat)
    exec (.orderHoldEnd port vc) s =
      .next { s with mach := if qu.pkts.isEmpty then s.mach.setQueue { qu with escape := false } else s.mach } := by
  intro qu
  show execOrderHoldEnd port vc s = _
  rw [execOrderHoldEnd, runM_eq, whenRunning_eq hr]

end

/-! ### The pick (14 R371, R374) -/

section
variable {port : BitVec 9} {m1 : Mach} (hm : s.mach.settleHeads s.store port.toNat = m1)
include hm

theorem exec_pick_noPort (hp : m1.port? port.toNat = none) (err : HwErr) :
    exec (.pick port err) s = .next { s with mach := m1 } := by
  rw [Mach.settleHeads] at hm
  show execPick port err s = _
  simp only [execPick, runM_eq, whenRunning_eq hr, hm, hp]

variable {p : Port} (hp : m1.port? port.toNat = some p)
include hp

theorem exec_pick_unlinked (hl : p.linked = false) (err : HwErr) : exec (.pick port err) s = .next { s with mach := m1 } := by
  rw [Mach.settleHeads] at hm
  show execPick port err s = _
  simp only [execPick, runM_eq, whenRunning_eq hr, hm, hp, hl, Bool.not_false, if_true]

/-- A linked port sends the LINK flit that is due, then what the scheduler picks, or an IDLE flit. -/
theorem exec_pick_linked (hl : p.linked = true) (err : HwErr) :
    let f := port.toNat
    let m2 := m1.linkSlot f ((List.range 8).any fun v => !(m1.queue (.port f v)).pkts.isEmpty)
    let r := m2.pick ((m2.port? f).getD p)
    let m3 := m2.modPort f fun _ => r.1
    (r.2 = none → exec (.pick port err) s = .next { s with mach := m3.sendIdle f }) ∧
    (∀ v c, r.2 = some (v, c) →
      exec (.pick port err) s = .next { s with mach := (m3.startHead f v c err).settleHead s.store f v }) := by
  intro f m2 r m3
  rw [Mach.settleHeads] at hm
  have hlinked : exec (.pick port err) s = .next { s with
      mach := match r.2 with
        | some (v, c) => (m3.startHead f v c err).settleHead s.store f v
        | none => m3.sendIdle f } := by
    show execPick port err s = _
    simp only [execPick, runM_eq, whenRunning_eq hr, hm, hp, hl, Bool.not_true, Bool.false_eq_true, if_false]
    rfl
  refine ⟨fun hidle => ?_, fun v c hpick => ?_⟩
  · rw [hlinked, hidle]
  · rw [hlinked, hpick]

end

/-! ### Escapes (13 R359) -/

section
variable {port : BitVec 9} {vc : BitVec 3}

theorem exec_escape_empty
    (h : ((s.mach.settleHead s.store port.toNat vc.toNat).queue (.port port.toNat vc.toNat)).pkts = []) :
    exec (.escape port vc) s = .next { s with mach := s.mach.settleHead s.store port.toNat vc.toNat } := by
  show execEscape port vc s = _
  simp only [execEscape, runM_eq, whenRunning_eq hr, h]
  cases (s.mach.settleHead s.store port.toNat vc.toNat).port? port.toNat <;> rfl

/-- A head on die that lacks credit while its VC is open goes to Chimney. -/
theorem exec_escape_blocked {m1 : Mach} (hm : s.mach.settleHead s.store port.toNat vc.toNat = m1) {p : Port} {x : QPkt}
    {t : List QPkt} (hp : m1.port? port.toNat = some p) (hx : (m1.queue (.port port.toNat vc.toNat)).pkts = x :: t)
    (hvc : vc ≠ 0) (hen : m1.flag Reg.RTE_CTL 0 = true) (hloc : x.loc = .onDie)
    (hcredit : p.credit.getD vc.toNat 0 < pktFlits x.pkt)
    (hopen : m1.vcOpenFor vc.toNat (m1.flitTime p (pktFlits x.pkt)) = true) :
    exec (.escape port vc) s = .next { s with
      mach := (m1.escapeHead s.store port.toNat vc.toNat).settleHead s.store port.toNat vc.toNat } := by
  have hv : vc.toNat ≠ 0 := fun h => hvc (BitVec.eq_of_toNat_eq h)
  show execEscape port vc s = _
  simp only [execEscape, runM_eq, whenRunning_eq hr, hm, hp, hx, hen, hloc, hopen, hcredit, hv, ne_eq, not_false_eq_true,
    decide_true, beq_self_eq_true, Bool.and_self, if_true]

end

end

/-- Settles O33: a fill by what bars it, a Sump write by the room for it, a hold's end, a pick by port and candidate, an escape. -/
theorem queuesFillSpillAndLeave : Obligations.QueuesFillSpillAndLeave := by
  unfold Obligations.QueuesFillSpillAndLeave
  intro s q port vc hr m f qu pq goes
  refine ⟨fun h => exec_fillTake_noSump hr h .none, fun x hx hbar => exec_fillTake_barred hr hx .none hbar,
    fun x hx => exec_fillTake_fits hr hx, exec_fillHeadWritten hr q, exec_sumpWrite_noneStaged (w := { q }) hr, ?_,
    fun x hx => exec_sumpWrite_full (w := { q }) hr hx, exec_rehashHoldEnd hr port vc, exec_orderHoldEnd hr port vc, ?_, ?_⟩
  · intro x hx n free hpages hroom hcap
    exact exec_sumpWrite_room (w := { q }) hr hx hpages hroom hcap
  · intro m1
    exact ⟨fun hp => exec_pick_noPort hr rfl hp .none, fun p hp hl => exec_pick_unlinked hr rfl hp hl .none,
      fun p hp hl => exec_pick_linked hr rfl hp hl .none⟩
  · intro m1
    exact ⟨exec_escape_empty hr, fun p x t => exec_escape_blocked hr rfl⟩

end Sys2Proof.Machine

/-! PROOFS. Route tables (13 R354, R355, R363): loads of the bank that is not STAMP, the copy that makes both banks alike, the
flip check and its outcomes, and writes of RTE_CTL. -/
namespace Sys2Proof.Machine

/-- Route entries `lo` to `hi - 1`, counted over both banks, have been written: none of them is a failing one any more (17
R456). -/
def Mach.routesWritten (m : Mach) (lo hi : Nat) : Mach :=
  { m with ecc := { m.ecc with badRoutes := m.ecc.badRoutes.filter fun b => decide (b.2 < lo) || decide (hi ≤ b.2) } }

/-- Writing route entries arms and spoils nothing, so the writes to the two copies of the table (13 R354) find no injection. -/
theorem routesWritten_injWrites {m : Mach} (hu : Unspoiled m) (lo hi : Nat) :
    ((m.routesWritten lo hi).injWrite 6 0 lo hi).injWrite 6 1 lo hi = m.routesWritten lo hi := by
  have hw : Unspoiled (m.routesWritten lo hi) := hu
  rw [injWrite_clean hw, injWrite_clean hw]

/-! ### RTE_LOAD and RTE_SYNC (13 R355; 15 R411) -/

section
variable {m : Mach} {opc : Nat} {d : TuDesc}

theorem routeCommand_notHeld (hsync : m.sw.syncBusy = none) (hfirst : m.tuBehind opc d = false) :
    ¬(m.sw.syncBusy.isSome || m.tuBehind opc d) = true := by
  simp [hsync, hfirst]

theorem routeCommand_notBusy (hold : m.oldCnt = 0) (hflip : m.sw.flipBusy = false) :
    ¬(m.oldCnt ≠ 0 ∨ m.sw.flipBusy = true) := by
  simp [hold, hflip]

end

/-- The machine once a good RTE_LOAD has written its entries; a load of the whole bank lifts its fence (17 R456). -/
def Mach.routesLoaded (m : Mach) (d : TuDesc) : Mach :=
  let n := d.count.toNat
  let a := m.loadBank * 65536 + d.arg1.toNat
  let m1 := m.routesWritten a (a + n)
  (if n = 65536 then m1.unfence fun x => x == .route m.loadBank else m1).tuDone 0x20 d .ok 0 n

section
variable {s : State} {d : TuDesc} {data : List Word}

/-- A load of 1 to 65,536 good entries waits, is refused BUSY, or writes the load bank. -/
theorem rteLoad_good {m : Mach} (hu : Unspoiled m) (st : Store) (hgal : d.gallery = 0)
    (hdesc : tuBad d (16 * d.count.toNat) = false) (hpos : 0 < d.count.toNat) (hfits : d.arg1.toNat + d.count.toNat ≤ 65536)
    (hlen : data.length = 4 * d.count.toNat)
    (hgood : (routeWords data).zipIdx.any (fun p => m.routeBad (d.arg1.toNat + p.2) p.1.toNat) = false) :
    m.rteLoad st d data =
      if m.sw.syncBusy.isSome || m.tuBehind 0x20 d then (m.park 0x20 d data, st)
      else if m.oldCnt ≠ 0 ∨ m.sw.flipBusy = true then (m.tuRefuse 0x20 d .busy, st)
      else (m.routesLoaded d,
        { st with route := sputs zeroCell st.route (m.loadBank * 65536 + d.arg1.toNat) (routeWords data) }) := by
  have hwrites := routesWritten_injWrites hu (m.loadBank * 65536 + d.arg1.toNat)
    (m.loadBank * 65536 + d.arg1.toNat + d.count.toNat)
  rw [Mach.routesWritten] at hwrites
  simp only [Mach.rteLoad, Mach.routesLoaded, Mach.routesWritten, hwrites, hgal, hdesc, hgood, hlen, Nat.ne_of_gt hpos,
    Nat.not_lt.mpr hfits, bne_self_eq_false, ne_eq, not_true_eq_false, decide_false, Bool.or_self, Bool.false_eq_true, if_false,
    Bool.or_eq_true, decide_eq_true_eq]

theorem rteSync_good {m : Mach} (hgal : d.gallery = 0) (hdesc : tuBad d 0 = false) :
    m.rteSync d =
      if m.sw.syncBusy.isSome || m.tuBehind 0x21 d then m.park 0x21 d []
      else if m.oldCnt ≠ 0 ∨ m.sw.flipBusy = true then m.tuRefuse 0x21 d .busy
      else { m with sw := { m.sw with syncBusy := some (m.loadBank, d) } } := by
  simp only [Mach.rteSync, hgal, hdesc, bne_self_eq_false, Bool.or_self, Bool.false_eq_true, if_false, Bool.or_eq_true,
    decide_eq_true_eq]

variable (hr : s.mach.running = true)
include hr

theorem exec_rteLoad_taken (ht : s.mach.tuTaken 0x20 d = true) :
    exec (.rteLoad d data) s = .next { s with
      mach := (s.mach.tuBegin.rteLoad s.store d data).1, store := (s.mach.tuBegin.rteLoad s.store d data).2 } := by
  show execRteLoad d data s = _
  simp only [execRteLoad, runMS_eq, tuCmdS_eq hr ht]

theorem exec_rteSync_taken (ht : s.mach.tuTaken 0x21 d = true) :
    exec (.rteSync d) s = .next { s with mach := s.mach.tuBegin.rteSync d } := by
  show execRteSync d s = _
  rw [execRteSync, runM_eq, tuCmd_eq hr ht]

end

/-! ### The end of a copy and of a flip check (13 R355, R363) -/

theorem exec_rteSyncDone_idle {s : State} (h : s.mach.sw.syncBusy = none) : exec .rteSyncDone s = .next s := by
  show execRteSyncDone s = _
  simp only [execRteSyncDone, runMS_eq, h]

section
variable {s : State} (hr : s.mach.running = true)
include hr

/-- The end of a copy writes every entry of the bank it copied to. -/
theorem exec_rteSyncDone_running (hu : Unspoiled s.mach) {bank : Nat} {d : TuDesc} (h : s.mach.sw.syncBusy = some (bank, d)) :
    let idle : Mach := { s.mach with sw := { s.mach.sw with syncBusy := none } }
    exec .rteSyncDone s = .next { s with
      mach := ((idle.routesWritten (bank * 65536) (bank * 65536 + 65536)).unfence fun f => f == .route bank).tuDone 0x21 d .ok 0 0
      store := { s.store with route := copyBank s.store.route bank } } := by
  intro idle
  have hidle : Unspoiled idle := hu
  have hwrites := routesWritten_injWrites hidle (bank * 65536) (bank * 65536 + 65536)
  rw [Mach.routesWritten] at hwrites
  show execRteSyncDone s = _
  simp only [execRteSyncDone, runMS_eq, h, hr, Bool.not_true, Bool.false_eq_true, if_false, hwrites, Mach.routesWritten, idle]

theorem exec_flipCheckDone_idle (h : s.mach.sw.flipBusy = false) : exec .flipCheckDone s = .next s := by
  show execFlipCheckDone s = _
  simp only [execFlipCheckDone, runM_eq, whenRunning_eq hr, h, Bool.not_false, if_true]

variable (hbusy : s.mach.sw.flipBusy = true)
include hbusy

theorem exec_flipCheckDone_good (h : s.mach.flipBad s.store = []) :
    exec .flipCheckDone s = .next { s with mach := s.mach.flipNow } := by
  show execFlipCheckDone s = _
  simp only [execFlipCheckDone, runM_eq, whenRunning_eq hr, hbusy, Bool.not_true, Bool.false_eq_true, if_false, h]

theorem exec_flipCheckDone_bad {f : Nat} {t : List Nat} (h : s.mach.flipBad s.store = f :: t) :
    exec .flipCheckDone s = .next { s with
      mach := { s.mach with sw := { s.mach.sw with flipBusy := false } }.flipRefuse 1 f } := by
  show execFlipCheckDone s = _
  simp only [execFlipCheckDone, runM_eq, whenRunning_eq hr, hbusy, Bool.not_true, Bool.false_eq_true, if_false, h]

end

/-! ### Writes of RTE_CTL (13 R363) -/

/-- Without a fence on group 30 a write stores ESC_EN and TREE_CHANGE, and FLIP asks for a flip. -/
theorem exec_flip {s : State} (hw : Writable s Reg.RTE_CTL) (h30 : s.mach.flt.fences.contains 30 = false) (value : Word) :
    let m1 := s.mach.writeRw Reg.RTE_CTL 9 value.toNat
    exec (.flip value) s = .next { s with mach := if bitOf value.toNat 2 then m1.flip else m1 } := by
  intro m1
  show execFlip value s = _
  simp only [execFlip, runM_eq, regCmd_eq hw, Mach.rteCtl, h30, Bool.false_and, Bool.false_eq_true, if_false, m1]

/-- Settles O34: loads and copies by what holds them back, the end of a copy and of a flip check by what runs, a write of
RTE_CTL by FLIP. -/
theorem routeBanksLoadAndFlip : Obligations.RouteBanksLoadAndFlip := by
  unfold Obligations.RouteBanksLoadAndFlip
  refine ⟨?commands, ?ends, ?writes⟩
  case commands =>
    intro s d data hr hu m n lo a es m1
    refine ⟨fun ht hgal hdesc hpos hfits hlen hgood => ?_, fun ht hgal hdesc => ?_⟩
    · rw [exec_rteLoad_taken hr ht, rteLoad_good (m := s.mach.tuBegin) hu s.store hgal hdesc hpos hfits hlen hgood]
      refine ⟨fun hwaits => ?_, fun hsync hfirst => ⟨fun hbusy => ?_, fun hold hflip => ?_⟩⟩
      · rw [if_pos hwaits]
      · rw [if_neg (routeCommand_notHeld hsync hfirst), if_pos hbusy]
      · rw [if_neg (routeCommand_notHeld hsync hfirst), if_neg (routeCommand_notBusy hold hflip)]
        rfl
    · rw [exec_rteSync_taken hr ht, rteSync_good hgal hdesc]
      refine ⟨fun hwaits => ?_, fun hsync hfirst => ⟨fun hbusy => ?_, fun hold hflip => ?_⟩⟩
      · rw [if_pos hwaits]
      · rw [if_neg (routeCommand_notHeld hsync hfirst), if_pos hbusy]
      · rw [if_neg (routeCommand_notHeld hsync hfirst), if_neg (routeCommand_notBusy hold hflip)]
  case ends =>
    intro s hr hu m
    refine ⟨exec_rteSyncDone_idle, fun bank d => exec_rteSyncDone_running hr hu, exec_flipCheckDone_idle hr,
      exec_flipCheckDone_good hr, fun hbusy f t hbad => ?_⟩
    rw [exec_flipCheckDone_bad hr hbusy hbad, Mach.flipRefuse, Nat.one_mul]
    rfl
  case writes =>
    intro s value hw h30 m1
    refine ⟨fun hflip => ?_, fun hflip => ?_⟩
    · rw [exec_flip hw h30, hflip, if_neg Bool.false_ne_true]
    · rw [exec_flip hw h30, if_pos hflip]

end Sys2Proof.Machine

namespace Sys2Proof.Machine

/-! ### Steps, and the state after reset (log 1; 22 R550, R554; 23 R566) -/

/-- Settles O57: a step takes the front of the queue, and with none waiting it is one edge. -/
theorem aStepRunsTheFrontCommand : Obligations.AStepRunsTheFrontCommand := by
  unfold Obligations.AStepRunsTheFrontCommand
  refine ⟨fun c s rest => rfl, fun s hs => ⟨?_, hs⟩⟩
  simp only [step, hs]

/-- Settles O58. -/
theorem resetLeavesEveryRegisterAtItsResetValue : Obligations.ResetLeavesEveryRegisterAtItsResetValue := by
  unfold Obligations.ResetLeavesEveryRegisterAtItsResetValue
  have hstage : State.reset.mach.stage = 0 := by decide
  refine ⟨fun off => rfl, rfl, rfl, rfl, rfl, rfl, hstage, ?_, ?_, ?_, ?_⟩
  · decide
  · decide
  · decide
  · rintro ⟨-, -, h⟩
    rw [hstage] at h
    omega

/-! ### A step goes on (22 R554; 23 R566) -/

/-- An outcome that goes on to a state with the given queue. -/
def Goes (o : Host.Outcome State Fault Refusal) (queue : List Sys2Proof.Instr) : Prop :=
  ∃ t, o = .next t ∧ t.pending = queue

theorem execTapInstruction_goes {instr : TapInstr} {data : BitVec 66} {s : State}
    (h : isTestTap (.tapInstruction instr data) = true → s.mach.flag Reg.GLB_LOCK 2 = true) :
    Goes (execTapInstruction instr data s) s.pending := by
  cases instr with
  | test code =>
    have hlocked : s.mach.flag Reg.GLB_LOCK 2 = true := h rfl
    exact ⟨s, by simp only [execTapInstruction, hlocked, if_true], rfl⟩
  | bypass | sample | preload | extest | idcode => exact ⟨_, rfl, rfl⟩

theorem exec_testTap_unlocked {c : Sys2Proof.Instr} {s : State} (hc : isTestTap c = true)
    (hl : s.mach.flag Reg.GLB_LOCK 2 = false) : exec c s = .refused .tapPrivate := by
  unfold isTestTap at hc
  split at hc
  · rename_i code data
    show execTapInstruction (.test code) data s = _
    simp only [execTapInstruction, hl, Bool.false_eq_true, if_false]
  · exact absurd hc Bool.false_ne_true

/-- Every meaning but that of TAP_INSTRUCTION maps the machine and its memories, and leaves the queue alone. -/
theorem exec_goes {c : Sys2Proof.Instr} {s : State} (h : isTestTap c = true → s.mach.flag Reg.GLB_LOCK 2 = true) :
    Goes (exec c s) s.pending := by
  cases c <;> unfold exec
  case tapInstruction instr data => exact execTapInstruction_goes h
  all_goals exact ⟨_, rfl, rfl⟩

/-- Settles O60: an edge goes on, and so does every command but a test instruction of an unlocked port. -/
theorem onlyATestInstructionOfTheTapStops : Obligations.OnlyATestInstructionOfTheTapStops := by
  unfold Obligations.OnlyATestInstructionOfTheTapStops
  refine fun s => ⟨?stopped, fun hgo => ?goes⟩
  case stopped =>
    rintro ⟨c, rest, hq, hc, hl⟩
    simp only [step, hq]
    exact exec_testTap_unlocked hc hl
  case goes =>
    cases hq : s.pending with
    | nil => exact ⟨s.tick, by simp only [step, hq], hq⟩
    | cons c rest =>
      have hlocked : isTestTap c = true → s.mach.flag Reg.GLB_LOCK 2 = true := fun hc =>
        Bool.not_eq_false _ |>.mp fun hl => hgo ⟨c, rest, hq, hc, hl⟩
      obtain ⟨t, ht, hp⟩ := exec_goes (s := { s with pending := rest }) hlocked
      exact ⟨t, by simp only [step, hq, ht], hp⟩

end Sys2Proof.Machine

/-! PROOFS. Shapers (14 R377 to R382): the refill, and writes of their registers. -/
namespace Sys2Proof.Machine

/-- The levels that a shaper is set to are those it has: a full one is not listed. -/
theorem buckets_setBuckets (m : Mach) (p v c q : Nat) : (m.setBuckets p v c q).buckets p v = (c, q) := by
  have hrest : (m.shapers.filter fun s => s.key != 8 * p + v).find? (fun s => s.key == 8 * p + v) = none := by
    simp [List.find?_eq_none]
  have hc (l : List Shaper) : ({ m with shapers := l } : Mach).cFull p v = m.cFull p v := rfl
  have hp (l : List Shaper) : ({ m with shapers := l } : Mach).pFull p v = m.pFull p v := rfl
  unfold Mach.setBuckets Mach.buckets
  by_cases hfull : c = m.cFull p v ∧ q = m.pFull p v
  · simp [hfull, hrest, hc, hp]
  · simp [hfull]

theorem exec_shaperRefill {s : State} (hr : s.mach.running = true) :
    let m := s.mach
    let n := m.advNs / 80 - m.time.refills
    let m1 : Mach := { m with time := { m.time with refills := max m.time.refills (m.advNs / 80) } }
    exec .shaperRefill s = .next { s with mach := m.shapers.foldl (fun a x =>
      let p := x.key / 8
      let v := x.key % 8
      a.setBuckets p v (min (m.cFull p v) (x.c + n * m.cir p v)) (min (m.pFull p v) (x.p + n * m.pir p v))) m1 } := by
  show execShaperRefill s = _
  rw [execShaperRefill, runM_eq, whenRunning_eq hr]
  rfl

theorem exec_shaperWrite {s : State} {port : BitVec 9} {vc : BitVec 3} {reg : ShpReg}
    (h : Writable s (shpOffset port.toNat vc.toNat reg)) (value : Word) :
    exec (.shaperWrite port vc reg value) s =
      .next { s with mach := s.mach.shaperWrite port.toNat vc.toNat reg value.toNat } := by
  show execShaperWrite port vc reg value s = _
  rw [execShaperWrite, runM_eq, regCmd_eq h]

section
variable {m : Mach} {p v value : Nat} {reg : ShpReg}

/-- EN 1 on VC 0 or 1 is no setting (14 R377). -/
theorem shaperWrite_barred (hreg : reg = .cfg) (hv : v < 2) (hen : bitOf value 31 = true) :
    m.shaperWrite p v reg value = m.count Reg.SHP_CFG_ERR_CNT := by
  simp only [Mach.shaperWrite, hreg, hv, hen, decide_true, Bool.and_self, if_true]

theorem shaperWrite_taken (h : ¬(reg = .cfg ∧ v < 2 ∧ bitOf value 31 = true)) :
    let m1 := m.writeRw (shpOffset p v reg) (shpMask reg) value
    m.shaperWrite p v reg value = { m1 with shapers := m1.shapers.filter fun x => x.key != 8 * p + v } := by
  have hno : ¬(reg = .cfg && v < 2 && bitOf value 31) = true := by simpa [and_assoc] using h
  exact if_neg hno

end

/-- Settles O35: a refill folds over the listed shapers, and a write either counts or leaves the shaper full. -/
theorem shapersRefillAndTakeTheirSettings : Obligations.ShapersRefillAndTakeTheirSettings := by
  unfold Obligations.ShapersRefillAndTakeTheirSettings
  refine ⟨fun s hr => ⟨exec_shaperRefill hr, fun x _ => buckets_setBuckets _ _ _ _ _⟩, fun s port vc reg value h => ?_⟩
  refine ⟨fun hreg hv hen => ?_, fun hno => ?_⟩
  · rw [exec_shaperWrite h, shaperWrite_barred hreg hv hen]
  · rw [exec_shaperWrite h, shaperWrite_taken hno]

end Sys2Proof.Machine

/-! PROOFS. MGMT_SEND (15 R410; 12 R347) and GAL_RESET (15 R412; 16 R435). -/
namespace Sys2Proof.Machine

/-! ### MGMT_SEND (15 R410) -/

section
variable {s : State} {d : TuDesc} (hr : s.mach.running = true) (pkt : Packet)
include hr

theorem exec_mgmtSend (ht : s.mach.tuTaken 0x30 (tuPlain d) = true) :
    exec (.mgmtSend d pkt) s = .next { s with mach := s.mach.tuBegin.mgmtSend s.store (tuPlain d) pkt false } := by
  show execMgmtSend d pkt s = _
  rw [execMgmtSend, runM_eq, tuCmd_eq hr ht]

theorem exec_mgmtSendRoute (ht : s.mach.tuTaken 0x30 (tuMarked d) = true) :
    exec (.mgmtSendRoute d pkt) s = .next { s with mach := s.mach.tuBegin.mgmtSend s.store (tuMarked d) pkt true } := by
  show execMgmtSendRoute d pkt s = _
  rw [execMgmtSendRoute, runM_eq, tuCmd_eq hr ht]

end

/-- A management packet: of type 2, on VC 1, of at most 4,096 bytes (15 R410). -/
def IsMgmt (p : Packet) : Prop := p.type = 2 ∧ p.vc = 1 ∧ p.length.toNat ≤ 4096

theorem mgmtSend_noPort {m : Mach} {d : TuDesc} (hp : m.port? d.arg0.toNat = none) (st : Store) (pkt : Packet) :
    m.mgmtSend st d pkt false = m.tuRefuse 0x30 d .badEntry := by
  simp [Mach.mgmtSend, hp]

section
variable {m : Mach} {d : TuDesc} {pkt : Packet} (hb : tuBad d (32 + pkt.length.toNat) = false) (hg : d.gallery = 0) (st : Store)
include hb hg

/-- A packet whose way is named well is checked for its form. -/
theorem mgmtSend_named {route : Bool} (hp : route = true ∨ (m.port? d.arg0.toNat).isSome = true) :
    let p := { pkt with hops := 0, epoch := m.sw.stamp }
    m.mgmtSend st d pkt route =
      if pkt.type != 2 || pkt.vc != 1 || 4096 < pkt.length.toNat then m.tuDone 0x30 d .badFormat (reasonCode .badEntry) 0
      else if route then (m.routePacket st p none true).tuDone 0x30 d .ok 0 0
      else if !m.portUsable d.arg0.toNat then (m.count Reg.SWC_UNREACH_CNT).tuDone 0x30 d .ok 0 0
      else (m.toPort d.arg0.toNat p none false false true).tuDone 0x30 d .ok 0 0 := by
  refine if_neg ?_
  rw [hb, hg]
  rcases hp with hroute | hsome
  · simp [hroute]
  · simp [Option.isSome_iff_ne_none.mp hsome]

theorem mgmtSend_badFormat {route : Bool} (hp : route = true ∨ (m.port? d.arg0.toNat).isSome = true) (hf : ¬IsMgmt pkt) :
    m.mgmtSend st d pkt route = m.tuDone 0x30 d .badFormat (reasonCode .badEntry) 0 := by
  rw [mgmtSend_named hb hg st hp, if_pos]
  simp only [IsMgmt, Classical.not_and_iff_not_or_not, Nat.not_le] at hf
  simpa [or_assoc] using hf

theorem mgmtSend_isMgmt {route : Bool} (hp : route = true ∨ (m.port? d.arg0.toNat).isSome = true) (hf : IsMgmt pkt) :
    let p := { pkt with hops := 0, epoch := m.sw.stamp }
    m.mgmtSend st d pkt route =
      if route then (m.routePacket st p none true).tuDone 0x30 d .ok 0 0
      else if !m.portUsable d.arg0.toNat then (m.count Reg.SWC_UNREACH_CNT).tuDone 0x30 d .ok 0 0
      else (m.toPort d.arg0.toNat p none false false true).tuDone 0x30 d .ok 0 0 := by
  obtain ⟨htype, hvc, hlen⟩ := hf
  rw [mgmtSend_named hb hg st hp, if_neg]
  simp [htype, hvc, hlen]

end

/-! ### GAL_RESET (15 R412) -/

section
variable {s : State} {d : TuDesc} (hr : s.mach.running = true)
include hr

theorem exec_galReset (ht : s.mach.tuTaken 0x38 (tuPlain d) = true) :
    let r := s.mach.tuBegin.galResetCmd s.store (tuPlain d)
    exec (.galReset d) s = .next { s with mach := r.1, store := r.2 } := by
  show execGalReset d s = _
  rw [execGalReset, runMS_eq, tuCmdS_eq hr ht]

theorem exec_galResetPort (ht : s.mach.tuTaken 0x38 (tuMarked d) = true) :
    let r := s.mach.tuBegin.galResetCmd s.store (tuMarked d)
    exec (.galResetPort d) s = .next { s with mach := r.1, store := r.2 } := by
  show execGalResetPort d s = _
  rw [execGalResetPort, runMS_eq, tuCmdS_eq hr ht]

end

section
variable {m : Mach} {d : TuDesc} {g : Nat} (hg : d.gallery.toNat = g) (hb : tuBad d 0 = false) (hf : d.flags.toNat < 2) (st : Store)
include hg hb hf

theorem galResetCmd_held (hh : m.resetHeld g = true) : m.galResetCmd st d = (m.park 0x38 d [], st) := by
  subst hg
  simp [Mach.galResetCmd, hb, Nat.not_le.mpr hf, hh]

theorem galResetCmd_free (hh : m.resetHeld g = false) :
    let r := m.galReset st g
    m.galResetCmd st d = ((if bitOf d.flags.toNat 0 then r.1.galPorts st g else r.1).tuDone 0x38 d .ok 0 0, r.2) := by
  subst hg
  simp [Mach.galResetCmd, hb, Nat.not_le.mpr hf, hh]

end

theorem tuPlain_flag_clear (d : TuDesc) : bitOf (tuPlain d).flags.toNat 0 = false := by
  simp [bitOf, tuPlain]

theorem tuMarked_flag_set (d : TuDesc) : bitOf (tuMarked d).flags.toNat 0 = true := by
  simp [bitOf, tuMarked]

/-- Settles O20: the two forms of MGMT_SEND and of GAL_RESET. -/
theorem managementCommandsSendAndReset : Obligations.ManagementCommandsSendAndReset := by
  unfold Obligations.ManagementCommandsSendAndReset
  refine fun s d hr => ⟨fun pkt hg => ⟨fun ht hb => ?toPort, fun ht hb => ?routed⟩, fun ht hb hlt => ?plain, fun ht hb hlt => ?ports⟩
  case toPort =>
    rw [exec_mgmtSend hr pkt ht]
    refine ⟨fun hp => ?_, fun hp => ⟨fun hf => ?_, fun hf hu => ?_, fun hf hu => ?_⟩⟩
    · rw [mgmtSend_noPort (d := tuPlain d) hp]
    · rw [mgmtSend_badFormat hb hg s.store (.inr hp) hf]
    · rw [mgmtSend_isMgmt hb hg s.store (.inr hp) hf]
      simp [hu, tuPlain]
    · rw [mgmtSend_isMgmt hb hg s.store (.inr hp) hf]
      simp [hu, tuPlain]
  case routed =>
    rw [exec_mgmtSendRoute hr pkt ht]
    refine ⟨fun hf => ?_, fun hf => ?_⟩
    · rw [mgmtSend_badFormat hb hg s.store (.inl rfl) hf]
    · rw [mgmtSend_isMgmt hb hg s.store (.inl rfl) hf, if_pos rfl]
  case plain =>
    have hsmall := tuPlain_flags_lt_two hlt
    rw [exec_galReset hr ht]
    refine ⟨fun hh => ?_, fun hh => ?_⟩
    · rw [galResetCmd_held (d := tuPlain d) rfl hb hsmall s.store hh]
    · rw [galResetCmd_free (d := tuPlain d) (g := d.gallery.toNat) rfl hb hsmall s.store hh, tuPlain_flag_clear, if_neg Bool.false_ne_true]
  case ports =>
    have hsmall := tuMarked_flags_lt_two hlt
    rw [exec_galResetPort hr ht]
    refine ⟨fun hh => ?_, fun hh => ?_⟩
    · rw [galResetCmd_held (d := tuMarked d) rfl hb hsmall s.store hh]
    · rw [galResetCmd_free (d := tuMarked d) (g := d.gallery.toNat) rfl hb hsmall s.store hh, tuMarked_flag_set, if_pos rfl]

end Sys2Proof.Machine

/-! PROOFS. Line requests of the memory window (15 R389 to R393; 07 R206, R207). -/
namespace Sys2Proof.Machine

/-! ### What bars a line request (15 R392, R393) -/

/-- The header of a line request is good: formed well, of the memory window, at a line. -/
def LineHeader (h : JnkHdr) : Prop := h.bad = false ∧ h.win = 1 ∧ h.addr.toNat % 64 = 0

section
variable {s : State} {h : JnkHdr} {c : Sys2Proof.Instr}
  (hc : c ∈ [Instr.rdOnce h .none, .rdShared h .none, .rdOwn h .none, .evict h, .wrFull h [], .wb h []])

include hc in
/-- Each of the six line requests is one `lineReq`. -/
theorem exec_lineRequest : ∃ f, exec c s =
    .next { s with mach := (s.mach.lineReq s.store h f).1, store := (s.mach.lineReq s.store h f).2 } := by
  simp only [List.mem_cons, List.not_mem_nil, or_false] at hc
  rcases hc with rfl | rfl | rfl | rfl | rfl | rfl
  all_goals exact ⟨_, rfl⟩

variable (hup : s.mach.jnkUp = true) (hsafe : s.mach.flt.safe = false)
include hup hsafe

section
variable (f : Mach → Mach × Store)

theorem lineReq_badHeader (hok : ¬LineHeader h) :
    s.mach.lineReq s.store h f = ((s.mach.jnkErrRsp h.tag.toNat h.addr.toNat .badFormat).count Reg.JNK_ERR_SENT_CNT, s.store) := by
  have hbad : (h.bad || h.win != 1 || h.addr.toNat % 64 ≠ 0) = true := by
    by_contra hno
    exact hok (by simpa [LineHeader, and_assoc] using hno)
  simp only [Mach.lineReq, hup, hsafe, hbad, Mach.jnkBadFormat, Bool.not_true, Bool.false_eq_true, if_false, if_true]

variable (hok : LineHeader h) (hfence : s.mach.flt.fences.contains 29 = false)
include hok hfence

theorem lineReq_outside (hout : s.mach.windowLine h.addr.toNat = false) : s.mach.lineReq s.store h f =
    ((s.mach.jnkErrRsp h.tag.toNat h.addr.toNat .badPointer).count Reg.FMM_WIN_ERR_CNT, s.store) := by
  obtain ⟨hbad, hwin, hline⟩ := hok
  simp only [Mach.lineReq, hup, hsafe, hbad, hwin, hline, hfence, hout, bne_self_eq_false, ne_eq, not_true, decide_false,
    Bool.not_true, Bool.not_false, Bool.or_self, Bool.false_eq_true, if_false, if_true]

theorem lineReq_inside (hin : s.mach.windowLine h.addr.toNat = true) : s.mach.lineReq s.store h f = f s.mach := by
  obtain ⟨hbad, hwin, hline⟩ := hok
  simp only [Mach.lineReq, hup, hsafe, hbad, hwin, hline, hfence, hin, bne_self_eq_false, ne_eq, not_true, decide_false,
    Bool.not_true, Bool.or_self, Bool.false_eq_true, if_false]

end

end

/-! ### Line reads, writes and evictions (07 R207; log 36) -/

/-- The answer to a line read: of a line not held, held shared, or owned (15 R390). -/
def lineOpc : Option Bool → Nat
  | none => 0x21
  | some false => 0x22
  | some true => 0x23

theorem lineServe_clean {m : Mach} (hu : Unspoiled m) (st : Store) (h : JnkHdr) (hold : Option Bool) :
    m.lineServe st h hold .none =
      (hold.elim m fun own => m.grant (h.addr.toNat / 64) own).jnkRsp (lineOpc hold)
        h.tag.toNat h.addr.toNat 0 (sgets zeroCell st.hbm h.addr.toNat 64) := by
  simp only [Mach.lineServe, hbmRead_clean hu.1, orErr]
  cases hold with
  | none => rfl
  | some own => cases own <;> rfl

section
variable {s : State} {h : JnkHdr} (hup : s.mach.jnkUp = true) (hsafe : s.mach.flt.safe = false) (hok : LineHeader h)
  (hfence : s.mach.flt.fences.contains 29 = false) (hin : s.mach.windowLine h.addr.toNat = true)
include hup hsafe hok hfence hin

/-- A read that would hold its line waits while the snoop filter is full. -/
theorem lineRead_full (hroom : s.mach.filterRoom (h.addr.toNat / 64) = false) (own : Bool) :
    let a := s.mach.snoop 0x10 (((s.mach.jnk.held.drop s.mach.jnk.waitRd.length).take 1).map (·.1))
    s.mach.lineRead s.store h (some own) .none =
      ({ a with jnk := { a.jnk with waitRd := a.jnk.waitRd ++ [(own, h)] } }, s.store) := by
  rw [Mach.lineRead, lineReq_inside hup hsafe _ hok hfence hin]
  simp only [hroom, Bool.false_eq_true, if_false]

theorem exec_evict : exec (.evict h) s = .next { s with
    mach := ((s.mach.letGo (h.addr.toNat / 64)).jnkRsp 0x20 h.tag.toNat h.addr.toNat 0 []).serveReads s.store } := by
  show execEvict h s = _
  rw [execEvict, runMS_eq, lineReq_inside hup hsafe _ hok hfence hin]

variable (hu : Unspoiled s.mach)
include hu

theorem exec_rdOnce : exec (.rdOnce h .none) s = .next { s with
    mach := s.mach.jnkRsp 0x21 h.tag.toNat h.addr.toNat 0 (sgets zeroCell s.store.hbm h.addr.toNat 64) } := by
  show execRdOnce h .none s = _
  rw [execRdOnce, runMS_eq, Mach.lineRead, lineReq_inside hup hsafe _ hok hfence hin, lineServe_clean hu]
  rfl

/-- A read that would hold its line, while the snoop filter has room for it. -/
theorem lineRead_room (hroom : s.mach.filterRoom (h.addr.toNat / 64) = true) (own : Bool) :
    s.mach.lineRead s.store h (some own) .none = ((s.mach.grant (h.addr.toNat / 64) own).jnkRsp (lineOpc (some own))
      h.tag.toNat h.addr.toNat 0 (sgets zeroCell s.store.hbm h.addr.toNat 64), s.store) := by
  rw [Mach.lineRead, lineReq_inside hup hsafe _ hok hfence hin]
  simp only [hroom, if_true, lineServe_clean hu, Option.elim_some]

theorem lineWrite_clean (data : List Byte) :
    let a := h.addr.toNat
    let m1 := s.mach.letGo (a / 64)
    let st1 : Store := { s.store with hbm := sputs zeroCell s.store.hbm a (data.take 64) }
    s.mach.lineWrite s.store h data =
      if h.poison then ((m1.jnkErrRsp h.tag.toNat a .uncorrectable).serveReads s.store, s.store)
      else ((m1.jnkRsp 0x20 h.tag.toNat a 0 []).serveReads st1, st1) := by
  have hclean : Unspoiled (s.mach.letGo (h.addr.toNat / 64)) := hu
  rw [Mach.lineWrite, lineReq_inside hup hsafe _ hok hfence hin]
  simp only [hbmWrote_clean hclean]

end

/-- Settles O36: what bars a request, then each of the six that reaches its line. -/
theorem windowLineRequestsReadAndWriteHbm : Obligations.WindowLineRequestsReadAndWriteHbm := by
  unfold Obligations.WindowLineRequestsReadAndWriteHbm
  intro s h hup hsafe m a tag line bytes ok
  refine ⟨fun hok c hc => ?_, fun hok hfence => ⟨fun hout c hc => ?_, fun hin hu => ⟨?once, ?room, ?full, ?evict, fun data => ?_⟩⟩⟩
  · obtain ⟨f, hf⟩ := exec_lineRequest (s := s) hc
    rw [hf, lineReq_badHeader hup hsafe f hok]
  · obtain ⟨f, hf⟩ := exec_lineRequest (s := s) hc
    rw [hf, lineReq_outside hup hsafe f hok hfence hout]
  case once => exact exec_rdOnce hup hsafe hok hfence hin hu
  case room =>
    intro hroom
    have hread := lineRead_room hup hsafe hok hfence hin hu hroom
    refine ⟨?_, ?_⟩
    · show execRdShared h .none s = _
      rw [execRdShared, runMS_eq, hread]
      rfl
    · show execRdOwn h .none s = _
      rw [execRdOwn, runMS_eq, hread]
      rfl
  case full =>
    intro hroom
    have hread := lineRead_full hup hsafe hok hfence hin hroom
    refine ⟨?_, ?_⟩
    · show execRdShared h .none s = _
      rw [execRdShared, runMS_eq, hread]
    · show execRdOwn h .none s = _
      rw [execRdOwn, runMS_eq, hread]
  case evict => exact exec_evict hup hsafe hok hfence hin
  · have hwrite := lineWrite_clean hup hsafe hok hfence hin hu data
    refine ⟨?_, ?_⟩
    · show execWrFull h data s = _
      rw [execWrFull, runMS_eq, hwrite]
      split <;> rfl
    · show execWb h data s = _
      rw [execWb, runMS_eq, hwrite]
      split <;> rfl

end Sys2Proof.Machine

/-! PROOFS. Requests of the configuration window (15 R390, R393, R398; 22 R544 to R547). -/
namespace Sys2Proof.Machine

/-- The header of a configuration request is good: formed well, of its window, at an aligned offset in it. -/
def CfgHeader (h : JnkHdr) : Prop := h.bad = false ∧ h.win = 0 ∧ h.addr.toNat % 4 = 0 ∧ h.addr.toNat < 2 ^ 26

/-- The windows that safe state still reads: BOOT and FLT (15 R398). -/
def EarlyWindow (off : Nat) : Prop := 0x10000 ≤ off ∧ off < 0x30000

/-! ### What a request meets (15 R393, R398) -/

section
variable {m : Mach} {h : JnkHdr}

/-- The answer ERR UNCORRECTABLE of safe state does not bar a request that it serves. -/
theorem cfgReq_unbarred {served : Bool} (hserved : m.flt.safe = false ∨ served = true) : ¬(m.flt.safe && !served) = true := by
  rcases hserved with hsafe | hserved
  · simp [hsafe]
  · simp [hserved]

variable (hup : m.jnkUp = true)
include hup

theorem cfgReq_safe (hsafe : m.flt.safe = true) (f : Mach → Mach) :
    m.cfgReq h false f = m.jnkErrRsp h.tag.toNat h.addr.toNat .uncorrectable := by
  simp only [Mach.cfgReq, hup, hsafe, Bool.not_true, Bool.not_false, Bool.and_self, Bool.false_eq_true, if_false, if_true]

variable {served : Bool} (hserved : m.flt.safe = false ∨ served = true) (f : Mach → Mach)
include hserved

theorem cfgReq_good (hok : CfgHeader h) : m.cfgReq h served f = f m := by
  obtain ⟨hbad, hwin, halign, hlt⟩ := hok
  have hpass : ¬(h.bad || h.win != 0 || h.addr.toNat % 4 ≠ 0 || 2 ^ 26 ≤ h.addr.toNat) = true := by
    simpa [hbad, hwin, halign] using hlt
  rw [Mach.cfgReq, if_neg (by simp [hup]), if_neg (cfgReq_unbarred hserved), if_neg hpass]

theorem cfgReq_badHeader (hok : ¬CfgHeader h) :
    m.cfgReq h served f = (m.jnkErrRsp h.tag.toNat h.addr.toNat .badFormat).count Reg.JNK_ERR_SENT_CNT := by
  have hfail : (h.bad || h.win != 0 || h.addr.toNat % 4 ≠ 0 || 2 ^ 26 ≤ h.addr.toNat) = true := by
    by_contra hno
    exact hok (by simpa [CfgHeader, and_assoc] using hno)
  rw [Mach.cfgReq, if_neg (by simp [hup]), if_neg (cfgReq_unbarred hserved), if_pos hfail, Mach.jnkBadFormat]

end

/-! ### CFG_RD and CFG_WR (22 R544 to R547) -/

/-- Safe state serves a configuration read of the BOOT and FLT windows. -/
def cfgServed (h : JnkHdr) : Bool := decide (0x10000 ≤ h.addr.toNat) && decide (h.addr.toNat < 0x30000)

theorem cfgServed_iff (h : JnkHdr) : cfgServed h = true ↔ EarlyWindow h.addr.toNat := by
  simp [cfgServed, EarlyWindow]

/-- What a configuration read answers, and what it leaves. -/
def Mach.cfgAnswer (m : Mach) (st : Store) (h : JnkHdr) : Mach :=
  (m.cfgRead st h.addr.toNat).2.jnkRsp 0x21 h.tag.toNat h.addr.toNat (m.cfgRead st h.addr.toNat).1 []

theorem exec_cfgRd (s : State) (h : JnkHdr) :
    exec (.cfgRd h) s = .next { s with mach := s.mach.cfgReq h (cfgServed h) fun m => m.cfgAnswer s.store h } := rfl

theorem exec_cfgWr (s : State) (h : JnkHdr) (value : Word) :
    exec (.cfgWr h value) s = .next { s with mach := s.mach.cfgReq h false fun m =>
      (m.onWrite h.addr.toNat fun m => m.writeReg s.store h.addr.toNat value.toNat).jnkRsp 0x20 h.tag.toNat h.addr.toNat 0 [] } := rfl

section
variable {s : State} {h : JnkHdr} (hup : s.mach.jnkUp = true) (hok : CfgHeader h)
include hup hok

theorem exec_cfgRd_good (hserved : s.mach.flt.safe = false ∨ EarlyWindow h.addr.toNat) :
    exec (.cfgRd h) s = .next { s with mach := s.mach.cfgAnswer s.store h } := by
  rw [exec_cfgRd, cfgReq_good hup (hserved.imp_right (cfgServed_iff h).mpr) _ hok]

variable (hsafe : s.mach.flt.safe = false) (value : Word)
include hsafe

theorem exec_cfgWr_good : exec (.cfgWr h value) s = .next { s with
    mach := (s.mach.onWrite h.addr.toNat fun m => m.writeReg s.store h.addr.toNat value.toNat).jnkRsp 0x20
      h.tag.toNat h.addr.toNat 0 [] } := by
  rw [exec_cfgWr, cfgReq_good hup (.inl hsafe) _ hok]

theorem exec_cfgWr_discarded (ha : s.mach.access h.addr.toNat ≠ .live) : exec (.cfgWr h value) s = .next { s with
    mach := (s.mach.count Reg.JNK_CFG_MISS_CNT).jnkRsp 0x20 h.tag.toNat h.addr.toNat 0 [] } := by
  rw [exec_cfgWr_good hup hok hsafe, Mach.onWrite, if_neg ha, Mach.cfgMiss]

end

/-- Settles O37, by what the offset meets and by the header. -/
theorem configurationAccessesReachTheirRegister : Obligations.ConfigurationAccessesReachTheirRegister := by
  unfold Obligations.ConfigurationAccessesReachTheirRegister
  intro s h value hup m a tag ok early answer done
  refine ⟨fun hok hserved => ?reads, fun hok hsafe => ?writes, fun hsafe hlate => ?_, fun hsafe => ?_, fun hbad hsafe => ?_⟩
  case reads =>
    rw [exec_cfgRd_good hup hok hserved, Mach.cfgAnswer]
    refine ⟨fun ha => ?_, fun ha => ?_, fun ha => ?_, fun ha => ?_⟩
    all_goals
      replace ha : s.mach.access h.addr.toNat = _ := ha
      simp only [Mach.cfgRead, ha]
      rfl
  case writes =>
    refine ⟨fun ha => ?_, exec_cfgWr_discarded hup hok hsafe value⟩
    rw [exec_cfgWr_good hup hok hsafe, Mach.onWrite, if_pos ha]
  · have hserved : cfgServed h = false := Bool.eq_false_iff.mpr fun hs => hlate ((cfgServed_iff h).mp hs)
    rw [exec_cfgRd, hserved, cfgReq_safe hup hsafe]
  · rw [exec_cfgWr, cfgReq_safe hup hsafe]
  · simp only [List.forall_mem_cons, List.not_mem_nil, false_imp_iff, implies_true, and_true]
    rw [exec_cfgRd, exec_cfgWr, cfgReq_badHeader hup (.inl hsafe) _ hbad, cfgReq_badHeader hup (.inl hsafe) _ hbad]
    exact ⟨rfl, rfl⟩

end Sys2Proof.Machine

/-! PROOFS. Unimplemented offsets of the configuration window (22 R546): an answer also leaves as a flit. -/
namespace Sys2Proof.Machine

/-- A read of an offset without a register sends two outputs: its answer, and the DATA flit that carries it (15 R387, log 70). -/
theorem cfgAnswer_hole_out_length {m : Mach} {h : JnkHdr} (hnone : regDesc? h.addr.toNat = none) (st : Store) :
    (m.cfgAnswer st h).out.length = m.out.length + 2 := by
  have ha : m.access h.addr.toNat = .miss := by simp only [Mach.access, hnone]
  simp [Mach.cfgAnswer, Mach.cfgRead, ha, Mach.cfgMiss, Mach.jnkRsp, Mach.sendJnk, Mach.emit]

/-- The reset state, with the link up. -/
def linkUpAtReset : State := { State.reset with mach := State.reset.mach.setFlag Reg.JNK_STATUS 31 true }

/-- A read of the first offset past the register blocks. -/
def readPastBlocks : JnkHdr := { addr := 0x240000 }

/-- Refutes O56: at reset with the link up, a read at 0x0024_0000 sends two outputs, its answer and the flit that carries it,
where the statement has the answer alone, and a flit number that stands still. -/
theorem not_unimplementedOffsetsReadZeroAndCount : ¬ Obligations.UnimplementedOffsetsReadZeroAndCount := by
  unfold Obligations.UnimplementedOffsetsReadZeroAndCount
  rintro ⟨hholes, hreads⟩
  have hnone : regDesc? readPastBlocks.addr.toNat = none := hholes _ (by decide)
  have hup : linkUpAtReset.mach.jnkUp = true := by decide
  have hok : CfgHeader readPastBlocks := ⟨rfl, rfl, by decide, by decide⟩
  obtain ⟨hbad, hwin, halign, hlt⟩ := hok
  obtain ⟨⟨hstated, -⟩, -⟩ := And.imp_left (· hnone) (hreads linkUpAtReset readPastBlocks 0 hup rfl hbad hwin halign hlt)
  rw [exec_cfgRd_good hup ⟨hbad, hwin, halign, hlt⟩ (.inl rfl)] at hstated
  injection hstated with hstated
  have hsent : (linkUpAtReset.mach.cfgAnswer linkUpAtReset.store readPastBlocks).out.length = 1 :=
    congrArg (fun t => t.mach.out.length) hstated
  rw [cfgAnswer_hole_out_length hnone] at hsent
  exact absurd hsent (by decide)

end Sys2Proof.Machine

/-! PROOFS. Answers to the module's requests on Jionuk, and the want of one (15 R390, R396, R400, R404 to R406; 07 R207). -/
namespace Sys2Proof.Machine

/-! ### The request that an answer names -/

/-- The outstanding requests of a tag are taken. -/
def Mach.dropReq (m : Mach) (tag : Nat) : Mach := { m with jnk := { m.jnk with reqs := m.jnk.reqs.filter fun r => r.tag != tag } }

theorem answered_none {m : Mach} {tag : Nat} (h : ∀ r ∈ m.jnk.reqs, r.tag ≠ tag) : m.answered tag = (none, m.dropReq tag) := by
  have hnone : m.jnk.reqs.find? (fun r => r.tag == tag) = none := by simpa [List.find?_eq_none] using h
  rw [Mach.answered, hnone, Mach.dropReq]

theorem answered_some {m : Mach} {tag : Nat} {r : JnkReq} (h : m.jnk.reqs.find? (fun r => r.tag == tag) = some r) :
    m.answered tag = (some r, m.dropReq tag) := by
  rw [Mach.answered, h, Mach.dropReq]

theorem awake_linked {m : Mach} (ha : m.awake = true) (hup : m.jnkUp = true) : (!m.awake || !m.jnkUp) = false := by
  simp [ha, hup]

section
variable {s : State} (ha : s.mach.awake = true) (hup : s.mach.jnkUp = true) {tag : BitVec 12}
include ha hup

/-- A tag that no request holds. -/
theorem exec_answer_unknown (h : ∀ r ∈ s.mach.jnk.reqs, r.tag ≠ tag.toNat) :
    ∀ c ∈ [Instr.cmp tag, .cmpD tag false [], .cmpS tag false [], .snpAck tag, .snpRspd tag [], .jnkErr tag, .jnkTimeout tag],
      exec c s = .next s := by
  have hno := answered_none h
  have hgo := awake_linked ha hup
  have hdue : s.mach.overdue tag.toNat = false := by
    have hnone : s.mach.jnk.reqs.find? (fun r => r.tag == tag.toNat) = none := by simpa [List.find?_eq_none] using h
    rw [Mach.overdue, hnone, Option.any_none]
  simp only [List.forall_mem_cons, List.not_mem_nil, false_imp_iff, implies_true, and_true]
  show execCmp tag s = _ ∧ execCmpD tag false [] s = _ ∧ execCmpS tag false [] s = _ ∧ execSnpAck tag s = _ ∧
    execSnpRspd tag [] s = _ ∧ execJnkErr tag s = _ ∧ execJnkTimeout tag s = _
  simp only [execCmp, execCmpD, execCmpS, execSnpAck, execSnpRspd, execJnkErr, execJnkTimeout, runM_eq, runMS_eq, hgo, hno, hdue,
    Bool.not_false, Bool.or_true, Bool.false_eq_true, if_false, if_true, and_self]

variable {r : JnkReq} (hr : s.mach.jnk.reqs.find? (fun r => r.tag == tag.toNat) = some r)
include hr

/-! ### CMP (15 R404) -/

theorem exec_cmp_record {set i : Nat} {evt last : Bool} (hw : r.why = .record set evt i last) :
    let a := s.mach.dropReq tag.toNat
    exec (.cmp tag) s = .next { s with mach := if last then a.setRing { a.ring set with
      unsignalled := modNth (fun o => some (o.getD a.advNs)) (b2n evt) (a.ring set).unsignalled } else a } := by
  show execCmp tag s = _
  simp only [execCmp, runM_eq, awake_linked ha hup, answered_some hr, hw, Bool.false_eq_true, if_false]

theorem exec_cmp_audit {i : Nat} (hw : r.why = .audit i) : exec (.cmp tag) s = .next { s with mach := s.mach.dropReq tag.toNat } := by
  show execCmp tag s = _
  simp only [execCmp, runM_eq, awake_linked ha hup, answered_some hr, hw, Bool.false_eq_true, if_false]

theorem exec_cmp_cmdData {set i : Nat} (hw : r.why = .cmdData set i) :
    exec (.cmp tag) s = .next { s with mach := (s.mach.dropReq tag.toNat).cmdWritten set i } := by
  show execCmp tag s = _
  simp only [execCmp, runM_eq, awake_linked ha hup, answered_some hr, hw, Bool.false_eq_true, if_false]

/-! ### CMP_D and CMP_S (15 R391, R400, R405; 17 R454) -/

section
variable (poison : Bool) (data : List Byte)

theorem exec_cmpD_desc {set i : Nat} (hw : r.why = .desc set i) :
    let a := s.mach.dropReq tag.toNat
    exec (.cmpD tag poison data) s = .next { s with
      mach := if poison then a.ringStop set 0 .errRsp i r.addr
      else if set = 64 then a.tuDesc i (bytesWords (data.take 64))
      else a.cmdDesc s.store set i (bytesWords ((data ++ List.replicate 64 0).take 64)) } := by
  show execCmpD tag poison data s = _
  simp only [execCmpD, runM_eq, awake_linked ha hup, answered_some hr, hw, Bool.false_eq_true, if_false]

theorem exec_cmpD_caddr {set i : Nat} (hw : r.why = .caddr set i) :
    let a := s.mach.dropReq tag.toNat
    exec (.cmpD tag poison data) s = .next { s with mach := if poison then a.cmdFail set i else a } := by
  show execCmpD tag poison data s = _
  simp only [execCmpD, runM_eq, awake_linked ha hup, answered_some hr, hw, Bool.false_eq_true, if_false]

theorem exec_cmpD_tuData {i : Nat} (hw : r.why = .tuData i) :
    let a := s.mach.dropReq tag.toNat
    exec (.cmpD tag poison data) s = .next { s with
      mach := if poison then a.ringStop 64 0 .errRsp i r.addr
      else { a with jnk := { a.jnk with tu := a.jnk.tu.map fun t => { t with ready := true } } } } := by
  show execCmpD tag poison data s = _
  simp only [execCmpD, runM_eq, awake_linked ha hup, answered_some hr, hw, Bool.false_eq_true, if_false]

theorem exec_cmpS_doorbell {set : Nat} (hw : r.why = .doorbell set) :
    let a := s.mach.dropReq tag.toNat
    exec (.cmpS tag poison data) s = .next { s with
      mach := if poison then a.ringStop set 0 .errRsp 0 r.addr else a.doorbellSeen set (bytesWords (data.take 16)) } := by
  show execCmpS tag poison data s = _
  simp only [execCmpS, runM_eq, awake_linked ha hup, answered_some hr, hw, Bool.false_eq_true, if_false]

end

/-! ### SNP_ACK and SNP_RSPD (07 R207) -/

theorem exec_snpAck_snoop {line : Nat} (hw : r.why = .snoop line) :
    exec (.snpAck tag) s = .next { s with mach := ((s.mach.dropReq tag.toNat).snoopDone r line).serveReads s.store } := by
  show execSnpAck tag s = _
  simp only [execSnpAck, runM_eq, awake_linked ha hup, answered_some hr, hw, Bool.false_eq_true, if_false]

omit ha hup hr in
theorem unspoiled_snoopDone {m : Mach} (hu : Unspoiled m) (r : JnkReq) (line : Nat) : Unspoiled (m.snoopDone r line) := by
  unfold Mach.snoopDone
  split
  · exact hu
  · exact hu

theorem exec_snpRspd_snoop {line : Nat} (hw : r.why = .snoop line) (hu : Unspoiled s.mach) (data : List Byte) :
    let st1 : Store := { s.store with hbm := sputs zeroCell s.store.hbm (64 * line) (data.take 64) }
    exec (.snpRspd tag data) s =
      .next { s with mach := ((s.mach.dropReq tag.toNat).snoopDone r line).serveReads st1, store := st1 } := by
  have hclean := unspoiled_snoopDone (m := s.mach.dropReq tag.toNat) hu r line
  show execSnpRspd tag data s = _
  simp only [execSnpRspd, runMS_eq, awake_linked ha hup, answered_some hr, hw, hbmWrote_clean hclean, Bool.false_eq_true, if_false]

/-! ### ERR and JNK_TIMEOUT (15 R396, R419) -/

theorem exec_jnkErr_known : exec (.jnkErr tag) s =
    .next { s with mach := ((s.mach.dropReq tag.toNat).count Reg.JNK_ERR_RSP_CNT).reqFailed r .errRsp } := by
  show execJnkErr tag s = _
  simp only [execJnkErr, runM_eq, awake_linked ha hup, answered_some hr, Bool.false_eq_true, if_false]

omit ha hup in
theorem overdue_iff : s.mach.overdue tag.toNat = true ↔ r.at_ + 1000 * max 1 (s.mach.fld Reg.JNK_TIMEOUT 15 0) ≤ s.mach.aon := by
  simp only [Mach.overdue, hr, Option.any_some, decide_eq_true_eq]

omit hup in
theorem exec_jnkTimeout_overdue (h : r.at_ + 1000 * max 1 (s.mach.fld Reg.JNK_TIMEOUT 15 0) ≤ s.mach.aon) :
    exec (.jnkTimeout tag) s =
      .next { s with mach := ((s.mach.dropReq tag.toNat).count Reg.JNK_TIMEOUT_CNT).reqFailed r .timeout } := by
  have hdue := (overdue_iff hr).mpr h
  show execJnkTimeout tag s = _
  simp only [execJnkTimeout, runM_eq, ha, hdue, answered_some hr, Bool.not_true, Bool.or_self, Bool.false_eq_true, if_false]

omit ha hup in
theorem exec_jnkTimeout_early (h : s.mach.aon < r.at_ + 1000 * max 1 (s.mach.fld Reg.JNK_TIMEOUT 15 0)) :
    exec (.jnkTimeout tag) s = .next s := by
  have hdue : s.mach.overdue tag.toNat = false := Bool.eq_false_iff.mpr fun hd => Nat.not_le.mpr h ((overdue_iff hr).mp hd)
  show execJnkTimeout tag s = _
  simp only [execJnkTimeout, runM_eq, hdue, Bool.not_false, Bool.or_true, if_true]

end

/-- Settles O38, by the answer and by what its request was for. -/
theorem answersEndTheirRequest : Obligations.AnswersEndTheirRequest := by
  unfold Obligations.AnswersEndTheirRequest
  intro s tag ha hup m left goes
  refine ⟨exec_answer_unknown ha hup, fun r hr => ⟨?last, ?more, ?audit, ?cmdData, ?desc, ?caddr, ?tuData, ?doorbell, ?snoop,
    exec_jnkErr_known ha hup hr, exec_jnkTimeout_overdue ha hr, exec_jnkTimeout_early hr⟩⟩
  case last =>
    intro set evt i hw
    rw [exec_cmp_record ha hup hr hw, if_pos rfl]
    rfl
  case more =>
    intro set evt i hw
    rw [exec_cmp_record ha hup hr hw, if_neg Bool.false_ne_true]
    rfl
  case audit => exact fun i hw => exec_cmp_audit ha hup hr hw
  case cmdData => exact fun set i hw => exec_cmp_cmdData ha hup hr hw
  case desc =>
    refine fun set i data hw => ⟨?_, fun hset => ?_, fun hset => ?_⟩
    · rw [exec_cmpD_desc ha hup hr true data hw, if_pos rfl]
      rfl
    · rw [exec_cmpD_desc ha hup hr false data hw, if_neg Bool.false_ne_true, if_neg hset]
      rfl
    · rw [exec_cmpD_desc ha hup hr false data hw, if_neg Bool.false_ne_true, if_pos hset]
      rfl
  case caddr =>
    refine fun set i data hw => ⟨?_, ?_⟩
    · rw [exec_cmpD_caddr ha hup hr true data hw, if_pos rfl]
      rfl
    · rw [exec_cmpD_caddr ha hup hr false data hw, if_neg Bool.false_ne_true]
      rfl
  case tuData =>
    refine fun i data hw => ⟨?_, ?_⟩
    · rw [exec_cmpD_tuData ha hup hr true data hw, if_pos rfl]
      rfl
    · rw [exec_cmpD_tuData ha hup hr false data hw, if_neg Bool.false_ne_true]
      rfl
  case doorbell =>
    refine fun set data hw => ⟨?_, ?_⟩
    · rw [exec_cmpS_doorbell ha hup hr true data hw, if_pos rfl]
      rfl
    · rw [exec_cmpS_doorbell ha hup hr false data hw, if_neg Bool.false_ne_true]
      rfl
  case snoop => exact fun line hw => ⟨exec_snpAck_snoop ha hup hr hw, fun data hu => exec_snpRspd_snoop ha hup hr hw hu data⟩

end Sys2Proof.Machine

/-! PROOFS. The Jionuk link, enabling of ring sets, doorbell snoops and interrupts (15 R386, R397, R400, R403, R408). -/
namespace Sys2Proof.Machine

/-! ### The link goes up and down (15 R386, R397) -/

/-- The PHY may train: out of reset, powered, in M0 or M1, past stage B0, and past B1 in a halt (19 R481, R485). -/
def Mach.linkMayRise (m : Mach) (half : BitVec 2) : Prop :=
  m.boot.resetN = false ∧ m.boot.warmN = false ∧ m.pwr.lost = false ∧ m.mstate < 2 ∧ half ≠ 3 ∧ 1 ≤ m.stage ∧
    (m.halted = true → 2 ≤ m.stage)

theorem linkMayRise_iff (m : Mach) (half : BitVec 2) : m.linkMayRise half ↔ ¬(m.boot.resetN || m.boot.warmN || m.pwr.lost ||
    2 ≤ m.mstate || half = 3 || m.stage < 1 || (m.halted && m.stage < 2)) = true := by
  simp [Mach.linkMayRise, and_assoc, Nat.succ_le_iff, Nat.pos_iff_ne_zero]

theorem exec_jnkLinkUp_barred {s : State} {half : BitVec 2} (h : ¬s.mach.linkMayRise half) :
    exec (.jnkLinkUp half) s = .next s := by
  rw [linkMayRise_iff, not_not] at h
  show execJnkLinkUp half s = _
  rw [execJnkLinkUp, runM_eq, if_pos h]

theorem exec_jnkLinkUp_rises {s : State} {half : BitVec 2} (h : s.mach.linkMayRise half) :
    let width := (if half = 0 then 16 else 8) * 2 ^ 16 + half.toNat
    let m1 : Mach := { s.mach with jnk := { s.mach.jnk with txSeq := 0 } }
    exec (.jnkLinkUp half) s = .next { s with
      mach := (m1.setFlag Reg.JNK_STATUS 31 true).setFld Reg.JNK_STATUS 20 0 width } := by
  show execJnkLinkUp half s = _
  rw [execJnkLinkUp, runM_eq, if_neg ((linkMayRise_iff _ _).mp h)]

theorem exec_jnkLinkDown_isDown {s : State} (h : s.mach.jnkUp = false) : exec .jnkLinkDown s = .next s := by
  show execJnkLinkDown s = _
  simp only [execJnkLinkDown, runM_eq, Mach.jnkDown, h, Bool.not_false, if_true]

theorem exec_jnkLinkDown_isUp {s : State} (h : s.mach.jnkUp = true) :
    let m1 := ((s.mach.setFlag Reg.JNK_STATUS 31 false).setFld Reg.JNK_STATUS 20 0 0).count Reg.JNK_LINK_DOWN_CNT
    let m2 := ((List.range 65).reverse.filter m1.ringOpen).foldl (fun a k => a.ringStop k 0 .link 0 0) m1
    exec .jnkLinkDown s = .next { s with
      mach := { m2.countN Reg.RNG_DISCARD_CNT m2.jnk.reports.length with jnk := { m2.jnk with reports := [] } } } := by
  show execJnkLinkDown s = _
  simp only [execJnkLinkDown, runM_eq, Mach.jnkDown, h, Bool.not_true, Bool.false_eq_true, if_false]

/-! ### Enabling a ring set (15 R402, R408) -/

theorem exec_rngEnable {s : State} {set : BitVec 7} (hset : set.toNat ≤ 64) (h : Writable s (ringReg set.toNat 0)) :
    exec (.rngEnable set) s = .next { s with mach := s.mach.ringEnable set.toNat } := by
  show execRngEnable set s = _
  rw [execRngEnable, runM_eq, if_neg (Nat.not_lt.mpr hset), regCmd_eq h]

theorem ringEnable_enabled {m : Mach} {set : Nat} (he : m.ringEn set = true) : m.ringEnable set = m := by
  simp only [Mach.ringEnable, he, if_true]

section
variable {m : Mach} {set : Nat} (he : m.ringEn set = false)
include he

theorem ringEnable_bad {f addr : Nat} {c : RingCause} (hc : m.ringCheck set = some (f, c, addr)) :
    m.ringEnable set = m.ringHalt set f c 0 addr := by
  simp only [Mach.ringEnable, he, hc, Bool.false_eq_true, if_false]

/-- The set starts empty and its doorbell is read; the module set then sends what waited for it (19 R487, 21 R541). -/
theorem ringEnable_good (hc : m.ringCheck set = none) :
    let m1 := (m.setFld (ringReg set 0) 31 30 2).setRing { set := set }
    let m2 := (((m1.wr (ringReg set 0x30) 0).wr (ringReg set 0x34) 0).wr (ringReg set 0x38) 0).readDoorbell set
    let m3 := m2.boot.reports.foldl (fun a r => a.report r.1 r.2) { m2 with boot := { m2.boot with reports := [] } }
    m.ringEnable set = if set = 64 then
        m2.pwr.lateEvents.foldl (fun a b => a.modEvent 0x1A noFault b) { m3 with pwr := { m3.pwr with lateEvents := [] } }
      else m2 := by
  simp only [Mach.ringEnable, he, hc, Bool.false_eq_true, if_false]

end

/-! ### Doorbell snoops and interrupts (15 R400, R403) -/

/-- An entry of the ring has stood unsignalled for RNG_HOLDOFF. -/
theorem heldOff_iff (m : Mach) (k f : Nat) : m.heldOff k f = true ↔
    ∃ t, (m.ring k).unsignalled.getD f none = some t ∧ t + 64 * m.fld (ringReg k 0x0C) 15 0 ≤ m.advNs := by
  simp only [Mach.heldOff, Option.any_eq_true, decide_eq_true_eq]

section
variable {s : State} (ha : s.mach.awake = true) (hup : s.mach.jnkUp = true)
include ha hup

theorem exec_snpInv (tag : BitVec 12) (addr : Quad) :
    let m := s.mach
    let mine := (List.range 65).filter fun k => m.ringEn k && m.doorbell k == addr.toNat / 64 * 64
    exec (.snpInv tag addr) s = .next { s with mach := mine.foldl (fun b k =>
      let c := b.setRing { b.ring k with held := false }
      if c.ringOpen k then c.readDoorbell k else c) (m.jnkRsp 0x24 tag.toNat addr.toNat 0 []) } := by
  show execSnpInv tag addr s = _
  simp only [execSnpInv, runM_eq, ha, hup, Bool.not_true, Bool.and_true, Bool.false_eq_true, if_false]

variable {set : BitVec 7} {evt : Bool}

theorem exec_jnkInt_sent (hset : set.toNat ≤ 64) (he : s.mach.ringEn set.toNat = true)
    (hdue : s.mach.heldOff set.toNat (b2n evt) = true)
    (hsent : (s.mach.ring set.toNat).intSent.getD (b2n evt) false = false)
    (harm : bitOf (s.mach.ring set.toNat).arm (b2n evt) = true) :
    let k := set.toNat
    let f := b2n evt
    let r := s.mach.ring k
    exec (.jnkInt set evt) s = .next { s with
      mach := (s.mach.setRing { r with
        intSent := modNth (fun _ => true) f r.intSent, unsignalled := modNth (fun _ => none) f r.unsignalled }).sendJnk
          { opc := 0x0A, tag := 0, addr := 0, value := s.mach.fld (ringReg k 8) (16 * f + 15) (16 * f) } } := by
  show execJnkInt set evt s = _
  simp only [execJnkInt, runM_eq, ha, hup, he, hdue, hsent, harm, Nat.not_lt.mpr hset, Bool.not_true, decide_false, Bool.or_self,
    Bool.false_eq_true, if_false]

omit ha hup in
theorem exec_jnkInt_silent (h : s.mach.heldOff set.toNat (b2n evt) = false ∨
    (s.mach.ring set.toNat).intSent.getD (b2n evt) false = true ∨ bitOf (s.mach.ring set.toNat).arm (b2n evt) = false) :
    exec (.jnkInt set evt) s = .next s := by
  show execJnkInt set evt s = _
  rw [execJnkInt, runM_eq, if_pos]
  rcases h with h | h | h
  all_goals simp only [h, Bool.not_false, Bool.or_true, Bool.true_or]

end

/-- Settles O39: the link, the enabling of a ring set, and what is sent unasked. -/
theorem linkStateSnoopsAndInterruptsFollowTheRings : Obligations.LinkStateSnoopsAndInterruptsFollowTheRings := by
  unfold Obligations.LinkStateSnoopsAndInterruptsFollowTheRings
  refine ⟨fun s half => ⟨exec_jnkLinkUp_rises, exec_jnkLinkUp_barred⟩, fun s => exec_jnkLinkDown_isDown,
    fun s => exec_jnkLinkDown_isUp, fun s set hset h => ?enable, fun s ha hup => ⟨exec_snpInv ha hup, ?interrupt⟩⟩
  case enable =>
    rw [exec_rngEnable hset h]
    refine ⟨fun he => ?_, fun he f c addr hc => ?_, fun he hc => ⟨fun hk => ?_, fun hk => ?_⟩⟩
    · rw [ringEnable_enabled he]
    · rw [ringEnable_bad he hc]
    · rw [ringEnable_good he hc, if_neg hk]
    · rw [ringEnable_good he hc, if_pos hk]
  case interrupt =>
    intro set evt hset he k f r due sent
    refine ⟨fun hdue hsent harm => ?_, fun hno => ?_⟩
    · exact exec_jnkInt_sent ha hup hset he ((heldOff_iff _ _ _).mpr hdue) hsent harm
    · refine exec_jnkInt_silent (hno.imp_left fun hnot => ?_)
      exact Bool.eq_false_iff.mpr fun hd => hnot ((heldOff_iff _ _ _).mp hd)

end Sys2Proof.Machine

/-! PROOFS. Taking commands from their rings, PROG_START, and parked commands (15 R405 to R411; 05 R128). -/
namespace Sys2Proof.Machine

/-! ### DESC_TAKE and TU_DESC_TAKE (15 R407, R411, R415) -/

/-- The gallery ring of set `k` may take its next command (15 R407). -/
structure RingMayTake (m : Mach) (k : Nat) : Prop where
  isOpen : m.ringOpen k = true
  news : (m.rd (ringReg k 0x30)).toNat ≠ (m.ring k).prod
  few : (m.jnk.taken.filter fun c => c.set == k).length < 256
  room : (m.jnk.taken.filter fun c => c.set == k).length + ahead (m.rd (ringReg k 0x34)).toNat (m.ring k).cplCons + 1 ≤ m.ringSize k 1
  fence : m.flt.galFences.contains k = false
  noReset : m.resetParked k = false
  begun : ∀ c ∈ m.jnk.taken.filter fun c => c.set == k, c.words ≠ [] ∧ c.index ≠ (m.rd (ringReg k 0x30)).toNat

section
variable {s : State} (hr : s.mach.running = true)
include hr

theorem exec_descTake (hup : s.mach.jnkUp = true) {set : BitVec 6} (h : RingMayTake s.mach set.toNat) :
    let m := s.mach
    let k := set.toNat
    let i := (m.rd (ringReg k 0x30)).toNat
    let m1 := m.wr (ringReg k 0x30) (BitVec.ofNat 32 (i + 1))
    let m2 : Mach := { m1 with jnk := { m1.jnk with taken := m1.jnk.taken ++ [{ set := k, index := i }] } }
    exec (.descTake set) s = .next { s with
      mach := m2.jnkReq 1 (m.rd64 (ringReg k 0x10) (ringReg k 0x14) + 64 * (i % m.ringSize k 0)) [] (.desc k i) } := by
  obtain ⟨hopen, hnews, hfew, hroom, hfence, hreset, hbegun⟩ := h
  have hmine : ((s.mach.jnk.taken.filter fun c => c.set == set.toNat).any fun c =>
      c.words.isEmpty || c.index == (s.mach.rd (ringReg set.toNat 0x30)).toNat) = false := by
    rw [List.any_eq_false]
    intro c hc
    have ⟨hwords, hindex⟩ := hbegun c hc
    simp [hwords, hindex]
  show execDescTake set s = _
  simp only [execDescTake, runM_eq, whenRunning_eq hr, hopen, hup, hnews, Nat.not_le.mpr hfew, Nat.not_lt.mpr hroom, hfence, hreset,
    hmine, Bool.not_true, decide_false, Bool.or_self, Bool.false_eq_true, if_false]

/-- The module ring may take its next command (15 R411, R415). -/
structure ModuleRingMayTake (m : Mach) : Prop where
  isOpen : m.ringOpen 64 = true
  news : (m.rd (ringReg 64 0x30)).toNat ≠ (m.ring 64).prod
  fetched : ∀ x ∈ m.jnk.reqs, ∀ n, x.why ≠ .desc 64 n ∧ x.why ≠ .tuData n
  begun : m.jnk.tu = none
  written : m.jnk.reports = []
  few : m.jnk.parked.length < 8
  free : tuStuck [] m.jnk.parked = false

theorem exec_tuDescTake (hup : s.mach.jnkUp = true) (h : ModuleRingMayTake s.mach) :
    let m := s.mach
    let i := (m.rd (ringReg 64 0x30)).toNat
    exec .tuDescTake s = .next { s with
      mach := (m.wr (ringReg 64 0x30) (BitVec.ofNat 32 (i + 1))).jnkReq 1
        (m.rd64 (ringReg 64 0x10) (ringReg 64 0x14) + 64 * (i % m.ringSize 64 0)) [] (.desc 64 i) } := by
  obtain ⟨hopen, hnews, hfetched, hbegun, hwritten, hfew, hfree⟩ := h
  show execTuDescTake s = _
  simp only [execTuDescTake, runM_eq, whenRunning_eq hr, hopen, hup, hnews, hbegun, hwritten, Nat.not_le.mpr hfew, hfree,
    Option.isSome_none, List.isEmpty_nil, Bool.not_true, decide_false, Bool.or_false, Bool.false_or]
  refine congrArg Host.Outcome.next (congrArg (fun m => State.mk m s.store s.pending) (if_neg ?_))
  rw [Bool.not_eq_true, List.any_eq_false]
  intro x hx
  split
  · rename_i set n hw
    simpa using fun hset : set = 64 => (hfetched x hx n).1 (hset ▸ hw)
  · rename_i n hw
    exact absurd hw (hfetched x hx n).2
  · exact Bool.false_ne_true

/-! ### PROG_START (15 R405; 05 R128) -/

/-- The start that a PROG_START's words name. -/
def startOf (set : BitVec 6) (index : Word) (words : List Word) : Start :=
  let w (j : Nat) : Nat := (words.getD j 0).toNat
  { entry := w 1 % 32768, gallery := set.toNat, scrBase := w 2 % 2 ^ 17, scrLimit := w 3 % 2 ^ 17
    hbmBase := w 4 % 2 ^ 31, hbmLimit := w 5 % 2 ^ 31
    regs := (List.range 8).map fun j => (j + 1, words.getD (8 + j) 0)
    cmd := some (set.toNat, index.toNat, w 0 % 65536) }

section
variable {set : BitVec 6} {index : Word} {words : List Word}
  (ht : (s.mach.taken? set.toNat index.toNat).map (·.words) = some words) (hopc : bits (words.getD 0 0).toNat 31 28 = 0xF)
include ht hopc

theorem exec_progStart_refused {r : Reason}
    (h : s.mach.queueStart (bits (words.getD 0 0).toNat 20 16) (startOf set index words) = (some r, s.mach)) :
    exec (.progStart set index words) s = .next { s with mach := s.mach.startRefused (startOf set index words) .noSlot r } := by
  show execProgStart set index words s = _
  rw [startOf] at h
  simp only [execProgStart, runM_eq, whenRunning_eq hr, ht, hopc, h, startOf, ne_eq, not_true, decide_false, Bool.or_self,
    Bool.false_eq_true, if_false]

theorem exec_progStart_queued {a : Mach}
    (h : s.mach.queueStart (bits (words.getD 0 0).toNat 20 16) (startOf set index words) = (none, a)) :
    exec (.progStart set index words) s = .next { s with mach := a } := by
  show execProgStart set index words s = _
  rw [startOf] at h
  simp only [execProgStart, runM_eq, whenRunning_eq hr, ht, hopc, h, ne_eq, not_true, decide_false, Bool.or_self,
    Bool.false_eq_true, if_false]

end

/-! ### PARKED_RELEASE (15 R411) -/

/-- The only parked command, run again; one that waits again stays as it was. -/
theorem exec_parkedRelease_only {w : TuWait} (hw : s.mach.jnk.parked = [w]) (hopc : w.opc ≠ 0x38) :
    let r := Mach.rerun { s.mach with jnk := { s.mach.jnk with parked := [] } } s.store w
    exec (.parkedRelease 0) s = if r.1.jnk.parked = [] then .next { s with mach := r.1, store := r.2 } else .next s := by
  intro r
  show execParkedRelease 0 s = _
  have hreset : (w.opc == 0x38) = false := by simpa using hopc
  have hlist : s.mach.jnk.parked[(0 : BitVec 3).toNat]? = some w := by rw [hw]; rfl
  have hbefore : s.mach.jnk.parked.take (0 : BitVec 3).toNat = [] := List.take_zero
  have hafter : s.mach.jnk.parked.drop ((0 : BitVec 3).toNat + 1) = [] := by rw [hw]; rfl
  simp only [execParkedRelease, runMS_eq, hlist, hbefore, hafter, hreset, hr, Bool.not_true, Bool.false_or, List.length_nil,
    List.append_nil, decide_eq_true_eq, List.length_pos_iff, ite_not, Bool.false_eq_true, if_false]
  split <;> rfl

end

theorem exec_parkedRelease_none {s : State} {index : BitVec 3} (h : s.mach.jnk.parked[index.toNat]? = none) :
    exec (.parkedRelease index) s = .next s := by
  show execParkedRelease index s = _
  simp only [execParkedRelease, runMS_eq, h]

section
variable {m : Mach} {k : Nat} (start : Start)

theorem queueStart_gone (h : m.coreGone k = true) : m.queueStart k start = (some .coreAbsent, m) := by
  rw [Mach.queueStart, if_pos h]

variable (h : m.coreGone k = false)
include h

theorem queueStart_full (hq : 16 ≤ (m.core k).queue.length) : m.queueStart k start = (some .busy, m) := by
  simp only [Mach.queueStart, h, hq, Bool.false_eq_true, if_false, if_true]

theorem queueStart_room (hq : (m.core k).queue.length < 16) : m.queueStart k start =
    (none, m.modCore k fun c => { c with queue := c.queue ++ [{ start with held := !c.longHeld.isEmpty }] }) := by
  simp only [Mach.queueStart, h, Nat.not_le.mpr hq, Bool.false_eq_true, if_false]

end

/-- Settles O40: the two rings, a taken PROG_START, and a parked command alone. -/
theorem commandsAreTakenFromTheirRingInOrder : Obligations.CommandsAreTakenFromTheirRingInOrder := by
  unfold Obligations.CommandsAreTakenFromTheirRingInOrder
  intro s hr hup m
  refine ⟨?gallery, ?module, fun set index words ht hopc => ⟨fun hgone => ?_, fun hgone hq => ?_, fun hgone hq => ?_⟩,
    fun index h => exec_parkedRelease_none h, fun w hw hopc => ⟨fun hwaits => ?_, fun hruns => ?_⟩⟩
  case gallery =>
    intro set k r i mine hopen hnews hfew hroom hfence hreset hbegun
    exact exec_descTake hr hup ⟨hopen, hnews, hfew, hroom, hfence, hreset, hbegun⟩
  case module =>
    intro i hopen hnews hfetched hbegun hwritten hfew hfree
    exact exec_tuDescTake hr hup ⟨hopen, hnews, hfetched, hbegun, hwritten, hfew, hfree⟩
  · exact exec_progStart_refused hr ht hopc (queueStart_gone _ hgone)
  · exact exec_progStart_refused hr ht hopc (queueStart_full _ hgone hq)
  · exact exec_progStart_queued hr ht hopc (queueStart_room _ hgone hq)
  · rw [exec_parkedRelease_only hr hw hopc, if_neg hwaits]
  · rw [exec_parkedRelease_only hr hw hopc, if_pos hruns]

end Sys2Proof.Machine

/-! PROOFS. Measurements, quotes, anti-rollback and the push of an image (20 R511, R512, R518 to R521). -/
namespace Sys2Proof.Machine

/-! ### Writes of SEC_CTL (20 R511, R512, R519) -/

section
variable {s : State} (h : Writable s Reg.SEC_CTL) (value : Word)
include h

theorem exec_extend : exec (.extend value) s = .next { s with mach := s.mach.secCtl value.toNat } := by
  show execExtend value s = _
  rw [execExtend, runM_eq, regCmd_eq h]

theorem exec_quote : exec (.quote value) s = .next { s with mach := s.mach.secCtl value.toNat } := exec_extend h value

theorem exec_arbAdvance : exec (.arbAdvance value) s = .next { s with mach := s.mach.secCtl value.toNat } := exec_extend h value

end

section
variable {m : Mach} {value : Nat}

theorem secCtl_extend (he : bitOf value 31 = true) (hq : bitOf value 30 = false) (ha : bitOf value 29 = false) :
    m.secCtl value = m.extendWrite (value % 8) := by
  simp only [Mach.secCtl, he, hq, ha, Bool.false_eq_true, if_false, if_true]

theorem secCtl_quote (he : bitOf value 31 = false) (hq : bitOf value 30 = true) (ha : bitOf value 29 = false) :
    m.secCtl value = m.quoteWrite := by
  simp only [Mach.secCtl, he, hq, ha, Bool.false_eq_true, if_false, if_true]

theorem secCtl_arbAdvance (he : bitOf value 31 = false) (hq : bitOf value 30 = false) (ha : bitOf value 29 = true) :
    m.secCtl value = m.arbWrite := by
  simp only [Mach.secCtl, he, hq, ha, Bool.false_eq_true, if_false, if_true]

end

section
variable {m : Mach} {n : Nat}

theorem extendWrite_low (hn : n < 6) : m.extendWrite n = m.count Reg.SEC_ERR_CNT := by
  rw [Mach.extendWrite, if_pos hn]

theorem extendWrite_quoting (hn : 6 ≤ n) (hq : m.sec.quoting = true) :
    m.extendWrite n = { m with sec := { m.sec with extends_ := m.sec.extends_ ++ [n] } } := by
  rw [Mach.extendWrite, if_neg (Nat.not_lt.mpr hn), if_pos hq]

theorem extendWrite_idle (hn : 6 ≤ n) (hq : m.sec.quoting = false) : m.extendWrite n = m.extend_ n := by
  rw [Mach.extendWrite, if_neg (Nat.not_lt.mpr hn), if_neg (Bool.eq_false_iff.mp hq)]

/-- What bars a quote (20 R512). -/
theorem quoteBar_iff (m : Mach) : (m.stage < 9 || m.sec.quoting || m.secFenced) = true ↔
    m.stage < 9 ∨ m.sec.quoting = true ∨ 37 ∈ m.flt.fences := by
  simp [Mach.secFenced, or_assoc]

/-- What bars an advance of the anti-rollback count (20 R519). -/
theorem arbBar_iff (m : Mach) : (m.sec.svn ≤ m.sec.arb || (imgFails m.sec.arb m.sec.image).isSome || imgSvn m.sec.image < m.sec.svn ||
      m.flag Reg.SEC_FW_CTL 30 || m.secFenced) = true ↔
    m.sec.svn ≤ m.sec.arb ∨ imgFails m.sec.arb m.sec.image ≠ none ∨ imgSvn m.sec.image < m.sec.svn ∨
      m.flag Reg.SEC_FW_CTL 30 = true ∨ 37 ∈ m.flt.fences := by
  simp [Mach.secFenced, or_assoc, Option.isSome_iff_ne_none]

end

/-! ### The end of a quote (20 R512) -/

/-- Writes of registers alone leave the security state. -/
theorem foldl_wr_sec {α : Type} (off : α → Nat) (v : α → Word) (l : List α) (m : Mach) :
    (l.foldl (fun a k => a.wr (off k) (v k)) m).sec = m.sec :=
  List.foldlRecOn (motive := fun (a : Mach) => a.sec = m.sec) l _ rfl fun _ ha _ _ => ha

/-- The quote is signed with a nonce in its range, and the extensions that waited are applied to the module that shows it. -/
theorem quoteDone_eq (m : Mach) : ∃ nonce, 1 ≤ nonce ∧ nonce < sm2N ∧
    let d : Mach := { m with free := m.free + 1 }
    let words := bytesWords (d.quoteBody ++ sm2Sign nonce d.quoteBody)
    let m1 := ((List.range 100).foldl (fun a k => a.wr (Reg.SEC_QUOTE_W k) (words.getD k 0)) d).setFlag Reg.SEC_CTL 28 true
    m.quoteDone = m.sec.extends_.foldl Mach.extend_ { m1 with sec := { m1.sec with quoting := false, extends_ := [] } } := by
  have hn : 1 < sm2N := by decide
  refine ⟨(m.draw 256).1 % (sm2N - 1) + 1, Nat.le_add_left _ _, ?_, ?_⟩
  · have := Nat.mod_lt (m.draw 256).1 (Nat.sub_pos_of_lt hn)
    omega
  · rw [Mach.quoteDone]
    simp only [draw_snd]
    rw [setFlag_sec, foldl_wr_sec]

theorem exec_quoteDone {s : State} (ha : s.mach.awake = true) :
    exec .quoteDone s = .next { s with mach := if s.mach.sec.quoting then s.mach.quoteDone else s.mach } := by
  show execQuoteDone s = _
  simp only [execQuoteDone, runM_eq, ha, Bool.true_and]

/-! ### A push of an image (20 R518) -/

theorem exec_fwPush {s : State} (h : Writable s Reg.SEC_FW_CTL) (value : Word) :
    exec (.fwPush value) s = .next { s with mach := if bitOf value.toNat 31 then s.mach.pushGo else s.mach } := by
  show execFwPush value s = _
  rw [execFwPush, runM_eq, regCmd_eq h]

section
variable {m : Mach}

theorem pushGo_busy (hbusy : m.flag Reg.SEC_FW_CTL 30 = true) : m.pushGo = m.pushRefuse 11 := by
  simp only [Mach.pushGo, hbusy, if_true]

variable (hbusy : m.flag Reg.SEC_FW_CTL 30 = false)
include hbusy

theorem pushGo_flashFenced (hf : m.flt.fences.contains 36 = true) : m.pushGo = m.pushRefuse 9 := by
  simp only [Mach.pushGo, hbusy, hf, Bool.false_eq_true, if_false, if_true]

variable (hf : m.flt.fences.contains 36 = false)
include hf

theorem pushGo_held (hh : (m.flt.lanternReset && !m.boot.waitingImage) = true) : m.pushGo = m.pushRefuse 10 := by
  simp only [Mach.pushGo, hbusy, hf, hh, Bool.false_eq_true, if_false, if_true]

variable (hh : (m.flt.lanternReset && !m.boot.waitingImage) = false)
include hh

/-- Past the first three causes, the address decides. -/
theorem pushGo_address : m.pushGo =
    let addr := m.rd64 Reg.SEC_FW_ADDR_LO Reg.SEC_FW_ADDR_HI
    if addr % 4096 ≠ 0 ∨ m.ownWindow addr (m.rd Reg.SEC_FW_LEN).toNat = true then (m.draw 8).2.pushRefuse (m.draw 8).1
    else { m.wr Reg.SEC_FW_CTL 0x41000000 with
      boot := { m.boot with attempts := m.boot.attempts + b2n m.boot.waitingImage } } := by
  simp only [Mach.pushGo, hbusy, hf, hh, Bool.or_eq_true, decide_eq_true_eq, Bool.false_eq_true, if_false]
  rfl

end

theorem exec_pushPhaseDone {s : State} (ha : s.mach.awake = true) (e : PushEnd) (image : List Byte) :
    exec (.pushPhaseDone e image) s =
      .next { s with mach := if s.mach.flag Reg.SEC_FW_CTL 30 then s.mach.pushPhase s.store e image else s.mach } := by
  show execPushPhaseDone e image s = _
  simp only [execPushPhaseDone, runM_eq, ha, Bool.true_and]

/-- The image that a push reads: as many bytes as SEC_FW_LEN says. -/
def Mach.pushedImage (m : Mach) (image : List Byte) : List Byte := image.take (m.rd Reg.SEC_FW_LEN).toNat

section
variable {m : Mach} (st : Store) (image : List Byte)

section
variable (hp : m.fld Reg.SEC_FW_CTL 26 24 = 1)
include hp

theorem pushPhase_verify_fetch : m.pushPhase st .fetch image = m.pushFails 8 false := by
  unfold Mach.pushPhase
  rw [hp]
  rfl

/-- A recovery programs whatever it has read (19 R485). -/
theorem pushPhase_verify_done : m.pushPhase st .done image =
    (imgFails m.sec.arb (m.pushedImage image)).elim (m.setFld Reg.SEC_FW_CTL 26 24 2) fun v =>
      if m.boot.waitingImage then m.setFld Reg.SEC_FW_CTL 26 24 2 else m.pushFails v false := by
  unfold Mach.pushPhase
  rw [hp]
  show (match imgFails m.sec.arb (m.pushedImage image) with
    | some v => if m.boot.waitingImage then m.setFld Reg.SEC_FW_CTL 26 24 2 else m.pushFails v false
    | none => m.setFld Reg.SEC_FW_CTL 26 24 2) = _
  cases imgFails m.sec.arb (m.pushedImage image) <;> rfl

end

section
variable (hp : m.fld Reg.SEC_FW_CTL 26 24 = 2)
include hp

theorem pushPhase_program_fetch : m.pushPhase st .fetch image = m.pushFails 8 true := by
  unfold Mach.pushPhase
  rw [hp]
  rfl

theorem pushPhase_program_flash (n : BitVec 16) : m.pushPhase st (.flash n) image =
    ((m.setFld Reg.SEC_FW_CTL 15 0 n.toNat).pushFails 9 true).raisePin 36 2 0 0x30C := by
  unfold Mach.pushPhase
  rw [hp]
  rfl

theorem pushPhase_program_done :
    let img := m.pushedImage image
    let m1 := (m.setFld Reg.SEC_FW_CTL 26 24 3).setFld Reg.SEC_FW_CTL 15 0 ((img.length + 4095) / 4096)
    m.pushPhase st .done image = { m1 with sec := { m1.sec with image := img } } := by
  unfold Mach.pushPhase
  rw [hp]
  rfl

end

theorem pushPhase_check_done (hp : m.fld Reg.SEC_FW_CTL 26 24 = 3) : m.pushPhase st .done image =
    (imgFails m.sec.arb m.sec.image).elim (m.pushPasses st) fun v => m.pushFails v false := by
  unfold Mach.pushPhase
  rw [hp]
  show (match imgFails m.sec.arb m.sec.image with
    | some v => m.pushFails v false
    | none => m.pushPasses st) = _
  cases imgFails m.sec.arb m.sec.image <;> rfl

end

/-- Settles O51: writes of SEC_CTL, the end of a quote, GO of a push, and the end of each of its phases. -/
theorem measurementsQuotesAndImagesFollowTheirCommands : Obligations.MeasurementsQuotesAndImagesFollowTheirCommands := by
  unfold Obligations.MeasurementsQuotesAndImagesFollowTheirCommands
  refine ⟨fun s value h => ?control, fun s ha => ?quoted, fun s value h => ?go, fun s image ha => ?phases⟩
  case control =>
    refine ⟨fun he hq hr => ?_, fun he hq hr => ⟨fun hbar => ?_, fun hfree => ?_⟩, fun he hq hr => ⟨fun hbar => ?_, fun hfree => ?_⟩⟩
    · rw [exec_extend h, secCtl_extend he hq hr]
      refine ⟨fun hn => ?_, fun hn hquoting => ?_, fun hn hquoting => ?_⟩
      · rw [extendWrite_low hn]
      · rw [extendWrite_quoting hn hquoting]
      · rw [extendWrite_idle hn hquoting, Mach.extend_]
    · rw [exec_quote h, secCtl_quote he hq hr, Mach.quoteWrite, if_pos ((quoteBar_iff _).mpr hbar)]
    · rw [exec_quote h, secCtl_quote he hq hr, Mach.quoteWrite, if_neg fun hb => hfree ((quoteBar_iff _).mp hb)]
      rfl
    · rw [exec_arbAdvance h, secCtl_arbAdvance he hq hr, Mach.arbWrite, if_pos ((arbBar_iff _).mpr hbar)]
    · rw [exec_arbAdvance h, secCtl_arbAdvance he hq hr, Mach.arbWrite, if_neg fun hb => hfree ((arbBar_iff _).mp hb)]
      rfl
  case quoted =>
    rw [exec_quoteDone ha]
    refine ⟨fun hq => ?_, fun hq => ?_⟩
    · rw [hq, if_neg Bool.false_ne_true]
    · obtain ⟨nonce, hlo, hhi, hdone⟩ := quoteDone_eq s.mach
      refine ⟨nonce, hlo, hhi, ?_⟩
      rw [hq, if_pos rfl, hdone]
  case go =>
    rw [exec_fwPush h]
    refine ⟨fun hgo => ?_, fun hgo => ?_⟩
    · rw [hgo, if_neg Bool.false_ne_true]
    · rw [hgo, if_pos rfl]
      refine ⟨fun hb => ?_, fun hb hf => ?_, fun hb hf hh => ?_, fun hb hf hh hbad => ⟨(s.mach.draw 8).1, ?_, ?_⟩, fun hb hf hh hgood => ?_⟩
      · rw [pushGo_busy hb]
      · rw [pushGo_flashFenced hb hf]
      · rw [pushGo_held hb hf hh]
      · exact Nat.mod_lt _ (by decide)
      · rw [pushGo_address hb hf hh]
        exact congrArg _ (congrArg (fun m => State.mk m s.store s.pending) (if_pos hbad))
      · rw [pushGo_address hb hf hh]
        exact congrArg _ (congrArg (fun m => State.mk m s.store s.pending) (if_neg hgood))
  case phases =>
    refine ⟨fun hoff e => ?_, fun hon => ⟨fun hp => ⟨?_, fun hi => ?_, fun v hi => ?_⟩, fun hp => ⟨?_, fun n => ?_, ?_⟩,
      fun hp => ⟨fun hi => ?_, fun v hi => ?_⟩⟩⟩
    all_goals rw [exec_pushPhaseDone ha]
    · rw [hoff, if_neg Bool.false_ne_true]
    all_goals rw [hon, if_pos rfl]
    · rw [pushPhase_verify_fetch _ _ hp]
    · rw [pushPhase_verify_done _ _ hp, Mach.pushedImage, hi, Option.elim_none]
    · rw [pushPhase_verify_done _ _ hp, Mach.pushedImage, hi, Option.elim_some]
    · rw [pushPhase_program_fetch _ _ hp]
    · rw [pushPhase_program_flash _ _ hp]
    · rw [pushPhase_program_done _ _ hp, Mach.pushedImage]
    · rw [pushPhase_check_done _ _ hp, hi, Option.elim_none]
    · rw [pushPhase_check_done _ _ hp, hi, Option.elim_some]

end Sys2Proof.Machine

/-! PROOFS. Writes of SVC_PORT_CTL and the plan's grace (16 R431, R432, R443). -/
namespace Sys2Proof.Machine

section
variable {s : State} {port : BitVec 9} (h : Writable s (Reg.SVC_PORT_CTL port.toNat)) (value : Word)
include h

theorem exec_quarantine : exec (.quarantine port value) s =
    .next { s with mach := s.mach.svcPortCtl s.store port.toNat value.toNat } := by
  show execQuarantine port value s = _
  rw [execQuarantine, runM_eq, regCmd_eq h]

theorem exec_accept : exec (.accept port value) s =
    .next { s with mach := s.mach.svcPortCtl s.store port.toNat value.toNat } := exec_quarantine h value

theorem exec_recheck : exec (.recheck port value) s =
    .next { s with mach := s.mach.svcPortCtl s.store port.toNat value.toNat } := exec_quarantine h value

end

section
variable {m : Mach} {f value : Nat} (st : Store)

theorem svcPortCtl_none (hq : bitOf value 29 = false) (ha : bitOf value 30 = false) (hc : bitOf value 31 = false) :
    m.svcPortCtl st f value = m.writeRw (Reg.SVC_PORT_CTL f) 0x20000000 value := by
  simp only [Mach.svcPortCtl, hq, ha, hc, Bool.false_eq_true, if_false]

theorem svcPortCtl_quarantine (hq : bitOf value 29 = true) (ha : bitOf value 30 = false) (hc : bitOf value 31 = false) :
    m.svcPortCtl st f value = (m.writeRw (Reg.SVC_PORT_CTL f) 0x20000000 value).portQuarantine st f 6 := by
  simp only [Mach.svcPortCtl, hq, ha, hc, Bool.false_eq_true, if_false, if_true]

theorem svcPortCtl_accept (hq : bitOf value 29 = false) (ha : bitOf value 30 = true) (hc : bitOf value 31 = false) :
    m.svcPortCtl st f value =
      (((m.writeRw (Reg.SVC_PORT_CTL f) 0x20000000 value).acceptPeer f).recheck st f 10).updatePlan := by
  simp only [Mach.svcPortCtl, hq, ha, hc, Bool.false_eq_true, if_false, if_true]

theorem svcPortCtl_recheck (hq : bitOf value 29 = false) (ha : bitOf value 30 = false) (hc : bitOf value 31 = true) :
    m.svcPortCtl st f value = (m.writeRw (Reg.SVC_PORT_CTL f) 0x20000000 value).recheck st f 0 := by
  simp only [Mach.svcPortCtl, hq, ha, hc, Bool.false_eq_true, if_false, if_true]

end

section
variable {m : Mach} {f : Nat} {p : Port} (hp : m.port? f = some p) (st : Store)
include hp

theorem portQuarantine_unusable (hu : p.usable = false) (cause : Nat) : m.portQuarantine st f cause = m := by
  simp only [Mach.portQuarantine, hp, hu, Bool.not_false, if_true]

/-- A usable port tells its partner, leaves its queues and its groups (16 R427, R430, R435). -/
theorem portQuarantine_usable (hu : p.usable = true) (cause : Nat) :
    let m2 := (if 3 ≤ p.negRev then m.sendLink f false 3 else m).setPortState f .quarantine cause
    let m3 := (List.range 8).foldl (fun a v => a.flushQueue (.port f v)) m2
    let idle (q : Port) : Port := { q with
      ptr := [0, 0], turnOpen := [false, false], fiHeld := [], deficit := [List.replicate 8 0, List.replicate 8 0] }
    m.portQuarantine st f cause =
      ((m3.countN Reg.SWC_FLUSH_CNT p.fiHeld.length).modPort f idle).groupsLinkLost st f .lost 0 := by
  simp only [Mach.portQuarantine, hp, hu, Bool.not_true, Bool.false_eq_true, if_false]

end

theorem exec_planGrace {s : State} {port : BitVec 9} {p : Port} (hr : s.mach.running = true)
    (hp : s.mach.port? port.toNat = some p) : exec (.planGrace port) s = .next { s with
      mach := if s.mach.planned port.toNat = true ∧ p.usable = false ∧ s.mach.graceOver p = true then
        (s.mach.modPort port.toNat fun q => { q with missing := true }).updatePlan else s.mach } := by
  show execPlanGrace port s = _
  simp only [execPlanGrace, runM_eq, whenRunning_eq hr, hp, Bool.and_eq_true, Bool.not_eq_true', and_assoc]

/-- Settles O44: each of the three bits alone, and a planned port that is missed. -/
theorem portsAreCheckedAcceptedAndQuarantined : Obligations.PortsAreCheckedAcceptedAndQuarantined := by
  unfold Obligations.PortsAreCheckedAcceptedAndQuarantined
  intro s port f st
  refine ⟨fun value h => ⟨fun hq ha hc => ?_, fun hq ha hc => ⟨fun p hp hu => ?_, fun p hp hu => ?_⟩, fun hq ha hc => ?_,
    fun hq ha hc => ?_⟩, fun p hr hp => exec_planGrace hr hp⟩
  · rw [exec_quarantine h, svcPortCtl_none st hq ha hc]
  · rw [exec_quarantine h, svcPortCtl_quarantine st hq ha hc, portQuarantine_unusable hp st hu]
  · rw [exec_quarantine h, svcPortCtl_quarantine st hq ha hc, portQuarantine_usable hp st hu]
  · rw [exec_accept h, svcPortCtl_accept st hq ha hc]
  · rw [exec_recheck h, svcPortCtl_recheck st hq ha hc]

end Sys2Proof.Machine

/-! PROOFS. Buttons and Beacon, and the isolation of lane groups (16 R437 to R440). -/
namespace Sys2Proof.Machine

/-! ### LOCATE and Beacon (16 R438) -/

/-- A LOCATE press has counted, and Beacon is on from it. -/
def Mach.located (m : Mach) : Mach := Mach.beaconSet { m.countPress 24 with boot := { m.boot with beaconAt := m.aon } } true

/-- The lane group that the cursor of a lit Beacon moves to. -/
def Mach.nextGroup (m : Mach) : Option Nat :=
  if m.flag Reg.SVC_BEACON 28 then (m.portGroups.find? fun g => decide (m.fld Reg.SVC_BEACON 9 5 < g)).or m.portGroups.head?
  else m.portGroups.head?

section
variable {m : Mach}

theorem locate_dark (h : m.flag Reg.SVC_BEACON 30 = false) :
    m.locate = if m.flag Reg.SVC_BEACON 29 then m.located.setCursor (m.fld Reg.SVC_BEACON 4 0) else m.located := by
  simp only [Mach.locate, h, Bool.not_false, if_true]
  rfl

theorem locate_lit (h : m.flag Reg.SVC_BEACON 30 = true) : m.locate = m.nextGroup.elim m.located m.located.setCursor := by
  simp only [Mach.locate, h, Bool.not_true, Bool.false_eq_true, if_false]
  show (match m.nextGroup with
    | some n => m.located.setCursor n
    | none => m.located) = _
  cases m.nextGroup <;> rfl

theorem nextGroup_noPorts (h : m.portGroups = []) : m.nextGroup = none := by
  simp [Mach.nextGroup, h]

end

section
variable {s : State}

theorem exec_locate (ha : s.mach.awake = true) : exec .locate s = .next { s with mach := s.mach.locate } := by
  show execLocate s = _
  simp only [execLocate, runM_eq, ha, if_true]

theorem exec_beaconTimeout (ha : s.mach.awake = true) : exec .beaconTimeout s = .next { s with
    mach := if s.mach.boot.beacon = true ∧ s.mach.boot.beaconAt + 600000000000 ≤ s.mach.aon then s.mach.beaconSet false else s.mach } := by
  show execBeaconTimeout s = _
  simp only [execBeaconTimeout, runM_eq, ha, Bool.and_eq_true, decide_eq_true_eq, true_and]

/-! ### ISOLATE and SVC_ISOLATE (16 R439) -/

theorem exec_isolate (ha : s.mach.awake = true) :
    let n := s.mach.fld Reg.SVC_BEACON 9 5
    let m1 := s.mach.countPress 16
    exec .isolate s = .next { s with
      mach := if s.mach.flag Reg.SVC_BEACON 28 = false ∨ s.mach.flag Reg.SVC_PROTECT n = true then
          { m1.count Reg.SVC_BTN_REFUSE_CNT with boot := { s.mach.boot with refusedAt := some s.mach.aon } }
        else if s.mach.flag Reg.SVC_ISO_DONE n then m1.releaseGroup s.store n else m1.isolateGroup s.store n } := by
  show execIsolate s = _
  simp only [execIsolate, runM_eq, ha, Bool.or_eq_true, Bool.not_eq_true', Bool.true_eq_false, if_false]
  rfl

theorem exec_svcIsolate (h : Writable s Reg.SVC_ISOLATE) (value : Word) :
    exec (.svcIsolate value) s = .next { s with mach := s.mach.svcIsolate s.store value.toNat } := by
  show execSvcIsolate value s = _
  rw [execSvcIsolate, runM_eq, regCmd_eq h]

/-! ### Steps 3 and 4 of an isolation (16 R439) -/

/-- What keeps a port in step 1, or bars the step: another step, or packets that still wait while there is time. -/
theorem drainBar_iff (m : Mach) (f : Nat) (p : Port) :
    (p.isoStep ≠ 1 || (m.aon < p.isoDue && (List.range 8).any fun v => !(m.queue (.port f v)).pkts.isEmpty)) = true ↔
      p.isoStep ≠ 1 ∨ (m.aon < p.isoDue ∧ ∃ v ∈ List.range 8, (m.queue (.port f v)).pkts ≠ []) := by
  simp only [Bool.or_eq_true, Bool.and_eq_true, decide_eq_true_eq, List.any_eq_true, Bool.not_eq_true', List.isEmpty_eq_false_iff]

variable {port : BitVec 9} {p : Port} (hr : s.mach.running = true) (hp : s.mach.port? port.toNat = some p)
include hr hp

theorem exec_isolationDrain_waits (h : p.isoStep ≠ 1 ∨
    (s.mach.aon < p.isoDue ∧ ∃ v ∈ List.range 8, (s.mach.queue (.port port.toNat v)).pkts ≠ [])) :
    exec (.isolationDrain port) s = .next s := by
  show execIsolationDrain port s = _
  simp only [execIsolationDrain, runM_eq, whenRunning_eq hr, hp]
  rw [if_pos ((drainBar_iff _ _ _).mpr h)]

/-- Step 3: what remains is flushed, and the partner is told. -/
theorem exec_isolationDrain_drains (h : ¬(p.isoStep ≠ 1 ∨
    (s.mach.aon < p.isoDue ∧ ∃ v ∈ List.range 8, (s.mach.queue (.port port.toNat v)).pkts ≠ []))) :
    let f := port.toNat
    let m1 := (List.range 8).foldl (fun a v => a.flushQueue (.port f v)) s.mach
    exec (.isolationDrain port) s = .next { s with
      mach := (if p.linked && 3 ≤ p.negRev then m1.sendLink f false 3 else m1).modPort f fun q => { q with
        isoStep := 2, isoDue := s.mach.aon + 1000 } } := by
  show execIsolationDrain port s = _
  simp only [execIsolationDrain, runM_eq, whenRunning_eq hr, hp]
  rw [if_neg fun hb => h ((drainBar_iff _ _ _).mp hb)]

theorem exec_isolationLanesOff : exec (.isolationLanesOff port) s = .next { s with
    mach := if p.isoStep = 2 ∧ p.isoDue ≤ s.mach.aon then s.mach.isolated port.toNat else s.mach } := by
  show execIsolationLanesOff port s = _
  simp only [execIsolationLanesOff, runM_eq, whenRunning_eq hr, hp, Bool.and_eq_true, decide_eq_true_eq]

end

/-- Settles O45: the two buttons and the timeout, the register, and the last two steps of an isolation. -/
theorem buttonsMoveBeaconAndIsolateLaneGroups : Obligations.ButtonsMoveBeaconAndIsolateLaneGroups := by
  unfold Obligations.ButtonsMoveBeaconAndIsolateLaneGroups
  refine ⟨fun s ha => ?buttons, fun s value h => ?register, fun s port p hr hp => ?steps⟩
  case buttons =>
    refine ⟨fun hoff hstored => ?_, fun hoff hstored => ?_, fun hon hno => ?_, fun n hon => ?_, fun hb hdue => ?_, fun hno => ?_,
      fun hbar => ?_, fun hcur hfree => ?_⟩
    · rw [exec_locate ha, locate_dark hoff, hstored, if_neg Bool.false_ne_true]
      rfl
    · rw [exec_locate ha, locate_dark hoff, hstored, if_pos rfl]
      rfl
    · rw [exec_locate ha, locate_lit hon, nextGroup_noPorts hno]
      rfl
    · intro cur next hnext
      rw [exec_locate ha, locate_lit hon, show s.mach.nextGroup = some n from hnext]
      rfl
    · rw [exec_beaconTimeout ha, if_pos ⟨hb, hdue⟩]
    · rw [exec_beaconTimeout ha, if_neg]
      rintro ⟨hb, hdue⟩
      exact hno.elim (fun h => Bool.false_ne_true (h.symm.trans hb)) fun h => Nat.not_le.mpr h hdue
    · rw [exec_isolate ha, if_pos hbar]
      rfl
    · rw [exec_isolate ha, if_neg (by simp [hcur, hfree])]
      rfl
  case register => exact exec_svcIsolate h value
  case steps =>
    refine ⟨fun hstep hdue => exec_isolationDrain_drains hr hp ?_, exec_isolationDrain_waits hr hp, fun hno => ?_, fun hstep hdue => ?_⟩
    · rintro (hno | ⟨hearly, hbusy⟩)
      · exact hno hstep
      · exact hdue.elim (Nat.not_le.mpr hearly) fun hidle => hidle hbusy
    · rw [exec_isolationLanesOff hr hp, if_neg]
      rintro ⟨hstep, hdue⟩
      exact hno.elim (fun h => h hstep) fun h => Nat.not_le.mpr h hdue
    · rw [exec_isolationLanesOff hr hp, if_pos ⟨hstep, hdue⟩]

end Sys2Proof.Machine

/-! PROOFS. Held long-lived masks, restarts of halted channels, the error log and the retire map (17 R448, R455 to R460). -/
namespace Sys2Proof.Machine

/-! ### Held masks (17 R448) -/

section
variable {s : State} {core : BitVec 5}

/-- Masks that wait, on a core without a running or queued program. -/
def Core.masksDue (c : Core) : Prop := c.running = none ∧ (∀ q ∈ c.queue, q.held = true) ∧ c.longHeld ≠ []

theorem masksDue_iff (c : Core) : (c.running.isNone && c.queue.all (·.held) && !c.longHeld.isEmpty) = true ↔ c.masksDue := by
  simp [Core.masksDue, and_assoc]

theorem exec_scrLongApply (hr : s.mach.running = true) :
    exec (.scrLongApply core) s = .next { s with mach := s.mach.applyLong core.toNat } := by
  show execScrLongApply core s = _
  rw [execScrLongApply, runM_eq, whenRunning_eq hr]

variable {m : Mach} {k : Nat}

theorem applyLong_not_due (h : ¬(m.core k).masksDue) : m.applyLong k = m :=
  if_neg fun hb => h ((masksDue_iff _).mp hb)

theorem applyLong_due (h : (m.core k).masksDue) :
    let c := m.core k
    m.applyLong k = (c.longHeld.foldl (fun a x => a.setLong x.1 x.2) m).setCore
      { c with longHeld := [], queue := c.queue.map fun q => { q with held := false } } :=
  if_pos ((masksDue_iff _).mpr h)

end

/-! ### Restarts of halted channels, and the error log (17 R455, R457, R460) -/

/-- Bits of a word cleared by those written 1. -/
theorem ofNat_and_not (x v : Word) : BitVec.ofNat 32 (x.toNat &&& (v.toNat ^^^ 0xFFFFFFFF)) = x &&& ~~~v := by
  have hall : 0xFFFFFFFF = (BitVec.allOnes 32).toNat := rfl
  rw [hall, ← BitVec.toNat_xor, ← BitVec.toNat_and, BitVec.ofNat_toNat, BitVec.setWidth_eq, BitVec.xor_allOnes]

section
variable {s : State} (value : Word)

/-- The pins of a halted transfer channel that a restart releases. -/
abbrev dmaPin (value : Word) (p : Pin) : Prop := 4 ≤ p.group ∧ p.group < 12 ∧ p.detail = 0x38 ∧ bitOf value.toNat p.unit = true

theorem exec_eccDmaRestart (h : Writable s Reg.ECC_DMA_RESTART) :
    exec (.eccDmaRestart value) s = .next { s with
      mach := (s.mach.wr Reg.ECC_DMA_HALT (s.mach.rd Reg.ECC_DMA_HALT &&& ~~~value)).dropPins fun p => decide (dmaPin value p) } := by
  show execEccDmaRestart value s = _
  rw [execEccDmaRestart, runM_eq, regCmd_eq h, Mach.dmaRestart, Mach.unhalt, ofNat_and_not]
  simp only [dmaPin, Bool.decide_and, beq_eq_decide, Bool.decide_eq_true, Bool.and_assoc]

theorem exec_eccSumpRestart (h : Writable s Reg.ECC_SUMP_RESTART) :
    exec (.eccSumpRestart value) s = .next { s with mach := s.mach.sumpRestart value.toNat } := by
  show execEccSumpRestart value s = _
  rw [execEccSumpRestart, runM_eq, regCmd_eq h]

theorem exec_eccLogPop (h : Writable s Reg.ECC_LOG_CTL) :
    exec (.eccLogPop value) s = .next { s with mach := s.mach.eccLogCtl value.toNat } := by
  show execEccLogPop value s = _
  rw [execEccLogPop, runM_eq, regCmd_eq h]

end

theorem sumpRestart_eq (m : Mach) (value : Nat) :
    let named (q : Queue) : Bool := q.pages.head?.any fun p => bitOf value (pageStack p)
    let fix (x : QPkt) : QPkt := if x.failed then { x with failed := false, pkt := { x.pkt with poison := true } } else x
    let mend (q : Queue) : Queue := if named q then { q with pkts := q.pkts.map fix } else q
    let halts := (m.rd Reg.ECC_SUMP_HALT).toNat &&& (value % 256 ^^^ 0xFFFFFFFF)
    let m1 : Mach := { m with sw := { m.sw with queues := m.sw.queues.map mend } }
    m.sumpRestart value = (m1.wr Reg.ECC_SUMP_HALT (BitVec.ofNat 32 halts)).dropPins fun p =>
      decide (20 ≤ p.group) && decide (p.group < 28) && p.detail == 0x30 && bitOf value (p.group - 20) := by
  have hnamed (q : Queue) : (match q.pages with | p :: _ => bitOf value (pageStack p) | [] => false) =
      q.pages.head?.any fun p => bitOf value (pageStack p) := by
    cases q.pages <;> rfl
  simp only [← hnamed]
  rfl

theorem eccLogCtl_selects {m : Mach} {value : Nat} (h : bitOf value 31 = false) :
    m.eccLogCtl value = m.writeRw Reg.ECC_LOG_CTL 0x40000000 value := by
  simp only [Mach.eccLogCtl, h, Bool.false_eq_true, if_false]

theorem eccLogCtl_pops {m : Mach} {value : Nat} (h : bitOf value 31 = true) {a b : List EccEntry} (hl : m.ecc.logs = [a, b]) :
    m.eccLogCtl value = { m.writeRw Reg.ECC_LOG_CTL 0x40000000 value with
      ecc := { m.ecc with logs := if bitOf value 30 then [a, b.drop 1] else [a.drop 1, b] } } := by
  simp only [Mach.eccLogCtl, h, if_true, writeRw_ecc, hl]
  cases bitOf value 30 <;> rfl

/-! ### The retire map (17 R458, R460; log 40) -/

section
variable {s : State} (value : Word) (h : Writable s Reg.ECC_RETIRE_CTL)
include h

theorem exec_retireAdd : exec (.retireAdd value) s = .next { s with mach := s.mach.retireCtl value.toNat } := by
  show execRetireAdd value s = _
  rw [execRetireAdd, runM_eq, regCmd_eq h]

theorem exec_retireCommit : exec (.retireCommit value) s = .next { s with mach := s.mach.retireCtl value.toNat } :=
  exec_retireAdd value h

end

/-- The map has room, and the entry names a page or a position of a cluster (17 R458). -/
def retireTakes (m : Mach) (kind loc : Nat) : Prop :=
  m.ecc.retire.length < 1024 ∧ (kind = 0 ∨ (kind = 1 ∧ loc < 64 ∧ loc % 8 < 5))

theorem retireTakes_iff (m : Mach) (kind loc : Nat) :
    retireTakes m kind loc ↔ ¬(1024 ≤ m.ecc.retire.length || !retireOk kind loc) = true := by
  simp [retireTakes, retireOk, or_iff_not_imp_left]

section
variable {m : Mach} {value : Nat}

theorem retireCtl_busy (hb : m.ecc.busy = true) : m.retireCtl value = m := by
  simp only [Mach.retireCtl, hb, if_true]

theorem retireAdd_takes
    (h : retireTakes m (bits (m.rd Reg.ECC_RETIRE_ENTRY).toNat 31 30) (bits (m.rd Reg.ECC_RETIRE_ENTRY).toNat 26 0)) :
    let e := (m.rd Reg.ECC_RETIRE_ENTRY).toNat
    m.retireAdd = { m.setFlag Reg.ECC_RETIRE_CTL 28 false with
      ecc := { m.ecc with retire := m.ecc.retire ++ [(bits e 31 30, bits e 26 0)] } } :=
  if_neg ((retireTakes_iff _ _ _).mp h)

theorem retireAdd_refuses
    (h : ¬retireTakes m (bits (m.rd Reg.ECC_RETIRE_ENTRY).toNat 31 30) (bits (m.rd Reg.ECC_RETIRE_ENTRY).toNat 26 0)) :
    m.retireAdd = m.setFlag Reg.ECC_RETIRE_CTL 28 true :=
  if_pos (not_not.mp fun hb => h ((retireTakes_iff _ _ _).mpr hb))

variable (hb : m.ecc.busy = false)
include hb

theorem retireCtl_add (hadd : bitOf value 31 = true) (hc : bitOf value 30 = false) : m.retireCtl value = m.retireAdd := by
  simp only [Mach.retireCtl, hb, hadd, hc, Bool.false_and, Bool.false_eq_true, if_false, if_true]

variable (hadd : bitOf value 31 = false)
include hadd

theorem retireCtl_commits (hc : bitOf value 30 = true) (hl : m.flt.lanternReset = false) (hf : m.flt.fences.contains 36 = false) :
    m.retireCtl value = { m with ecc := { m.ecc with busy := true } } := by
  simp only [Mach.retireCtl, hb, hadd, hc, hl, hf, Bool.not_false, Bool.and_self, Bool.false_eq_true, if_false, if_true]

theorem retireCtl_barred (h : m.flt.lanternReset = true ∨ m.flt.fences.contains 36 = true) : m.retireCtl value = m := by
  have hno : (bitOf value 30 && !m.flt.lanternReset && !m.flt.fences.contains 36) = false := by
    rcases h with h | h <;> simp only [h, Bool.not_true, Bool.and_false, Bool.false_and]
  simp only [Mach.retireCtl, hb, hadd, hno, Bool.false_eq_true, if_false]

end

theorem exec_retireCommitDone_none {s : State} (h : s.mach.awake = false ∨ s.mach.ecc.busy = false) (ok : Bool) :
    exec (.retireCommitDone ok) s = .next s := by
  have hno : (!s.mach.awake || !s.mach.ecc.busy) = true := by
    rcases h with h | h <;> simp only [h, Bool.not_false, Bool.or_true, Bool.true_or]
  show execRetireCommitDone ok s = _
  rw [execRetireCommitDone, runM_eq, if_pos hno]

theorem exec_retireCommitDone {s : State} (ha : s.mach.awake = true) (hb : s.mach.ecc.busy = true) (ok : Bool) :
    let m1 : Mach := { s.mach with ecc := { s.mach.ecc with
      busy := false, flash := if ok then s.mach.ecc.retire else s.mach.ecc.flash } }
    exec (.retireCommitDone ok) s = .next { s with
      mach := if ok then m1.dropPins fun p => p.group == 36 else m1.raisePin 36 2 0 0x44 } := by
  show execRetireCommitDone ok s = _
  simp only [execRetireCommitDone, runM_eq, ha, hb, Bool.not_true, Bool.or_self, Bool.false_eq_true, if_false]

/-- Settles O46: held masks, restarts, the log, and the retire map with its commit. -/
theorem haltsErrorLogsAndRetiredUnitsAreManaged : Obligations.HaltsErrorLogsAndRetiredUnitsAreManaged := by
  unfold Obligations.HaltsErrorLogsAndRetiredUnitsAreManaged
  refine ⟨fun s core hr => ⟨fun hno => ?_, fun hidle hqueue hheld => ?_⟩,
    fun s value => ⟨exec_eccDmaRestart value, fun h => ?_, fun h a b hl => ⟨fun hp => ?_, fun hp => ?_⟩⟩,
    fun s value h => ⟨fun hb => ⟨?_, ?_⟩, fun hb hc hadd => ⟨fun hroom => ?_, fun hroom => ?_⟩, fun hb hadd hc hl hf => ?_,
      fun hb hadd _ hbar => ?_⟩,
    fun s => ⟨exec_retireCommitDone_none, fun ha hb => ⟨exec_retireCommitDone ha hb true, exec_retireCommitDone ha hb false⟩⟩⟩
  · rw [exec_scrLongApply hr, applyLong_not_due]
    rintro ⟨hidle, hqueue, hheld⟩
    rcases hno with hrun | ⟨q, hq, hfree⟩ | hnone
    · simp [hidle] at hrun
    · exact Bool.false_ne_true (hfree.symm.trans (hqueue q hq))
    · exact hheld hnone
  · rw [exec_scrLongApply hr, applyLong_due ⟨hidle, hqueue, hheld⟩]
  · rw [exec_eccSumpRestart value h, sumpRestart_eq]
  · rw [exec_eccLogPop value h, eccLogCtl_selects hp]
  · rw [exec_eccLogPop value h, eccLogCtl_pops hp hl]
  · rw [exec_retireAdd value h, retireCtl_busy hb]
  · rw [exec_retireCommit value h, retireCtl_busy hb]
  · rw [exec_retireAdd value h, retireCtl_add hb hadd hc, retireAdd_takes hroom]
  · rw [exec_retireAdd value h, retireCtl_add hb hadd hc, retireAdd_refuses hroom]
  · rw [exec_retireCommit value h, retireCtl_commits hb hadd hc hl hf]
  · rw [exec_retireCommit value h, retireCtl_barred hb hadd hbar]

end Sys2Proof.Machine

/-! PROOFS. In-service BIST (19 R494 to R498). -/
namespace Sys2Proof.Machine

/-! ### A write of BST_REQ (19 R494, R495) -/

theorem exec_bstReq {s : State} (h : Writable s Reg.BST_REQ) (value : Word) :
    exec (.bstReq value) s = .next { s with mach := s.mach.bstReq value.toNat } := by
  show execBstReq value s = _
  rw [execBstReq, runM_eq, regCmd_eq h]

section
variable {m : Mach} {value : Nat}

theorem bstReq_stores (hgo : bitOf value 31 = false) : m.bstReq value = m.writeRw Reg.BST_REQ 0x7F value := by
  simp only [Mach.bstReq, hgo, Bool.not_false, if_true]

variable (hgo : bitOf value 31 = true)
include hgo

theorem bstReq_refused {cause holder : Nat}
    (hb : (m.writeRw Reg.BST_REQ 0x7F value).bistBar (value % 128) = some (cause, holder)) :
    m.bstReq value = ((m.writeRw Reg.BST_REQ 0x7F value).count Reg.BST_REFUSE_CNT).wr Reg.BST_REFUSE_LAST
      (BitVec.ofNat 32 (cause * 2 ^ 28 + holder * 2 ^ 16 + value % 128)) := by
  simp only [Mach.bstReq, hgo, hb, Bool.not_true, Bool.false_eq_true, if_false]

theorem bstReq_taken (hb : (m.writeRw Reg.BST_REQ 0x7F value).bistBar (value % 128) = none) :
    let d := value % 128
    let m1 := m.writeRw Reg.BST_REQ 0x7F value
    let m2 := (m1.wr Reg.BST_STATUS (BitVec.ofNat 32 (2 ^ 31 + 12000 * 2 ^ 7 + d))).bypassOn (bistGroup d)
    m.bstReq value = { m2 with boot := { m2.boot with bist := some d } } := by
  simp only [Mach.bstReq, hgo, hb, Bool.not_true, Bool.false_eq_true, if_false]
  rfl

end

/-! ### What bars a test (19 R495) -/

theorem bistBar_noDomain {m : Mach} {d : Nat} (h : d < 36 ∨ 76 ≤ d) : m.bistBar d = some (0, 0) := by
  have hcore : (decide (44 ≤ d) && decide (d < 76)) = false := by
    rw [Bool.and_eq_false_iff, decide_eq_false_iff_not, decide_eq_false_iff_not]
    omega
  have hcluster : (decide (36 ≤ d) && decide (d < 44)) = false := by
    rw [Bool.and_eq_false_iff, decide_eq_false_iff_not, decide_eq_false_iff_not]
    omega
  simp only [Mach.bistBar, hcore, hcluster, Bool.not_false, Bool.and_self, Bool.true_or, if_true]

section
variable {m : Mach} {d : Nat} (hlo : 44 ≤ d) (hhi : d < 76)
include hlo hhi

/-- A core's domain is testable at all. -/
theorem bistBar_core_testable :
    ¬(!(decide (44 ≤ d) && decide (d < 76)) && !(decide (36 ≤ d) && decide (d < 44)) ||
      ((decide (36 ≤ d) && decide (d < 44)) && !m.flag Reg.ENG_SPARE (d - 36) && !m.flag Reg.ENG_SPARE (8 + (d - 36)))) = true := by
  have hcluster : ¬d < 44 := by omega
  simp [hlo, hhi, hcluster]

theorem bistBar_early (hs : m.stage < 9) : m.bistBar d = some (1, 0) := by
  rw [Mach.bistBar, if_neg (bistBar_core_testable hlo hhi), if_pos hs]

variable (hs : 9 ≤ m.stage)
include hs

theorem bistBar_lanternHeld (hl : m.flt.lanternReset = true) : m.bistBar d = some (2, 0) := by
  rw [Mach.bistBar, if_neg (bistBar_core_testable hlo hhi), if_neg (Nat.not_lt.mpr hs), if_pos hl]

theorem bistBar_another (hl : m.flt.lanternReset = false) {x : Nat} (hb : m.boot.bist = some x) : m.bistBar d = some (3, x) := by
  rw [Mach.bistBar, if_neg (bistBar_core_testable hlo hhi), if_neg (Nat.not_lt.mpr hs), if_neg (Bool.eq_false_iff.mp hl)]
  simp only [hb]

end

/-! ### Slices, and the end of a test (19 R496, R497; 17 R454) -/

/-- A slice may run: a test has slices left, and calendar and power allow it. -/
def Mach.sliceMayRun (m : Mach) : Prop :=
  m.boot.bist ≠ none ∧ m.fld Reg.BST_STATUS 20 7 ≠ 0 ∧ m.calPermits 29 = true ∧
    (∀ e left, m.runningEntry = some (e, left) → 1000 ≤ left) ∧ m.pwr.brake = false ∧ m.flag Reg.PWR_STATUS 27 = false

/-- The machine with the signature of a test. -/
def Mach.signed (m : Mach) (sig : Quad) : Mach :=
  (m.wr Reg.BST_SIG_LO (BitVec.ofNat 32 sig.toNat)).wr Reg.BST_SIG_HI (BitVec.ofNat 32 (sig.toNat / 2 ^ 32))

/-- What bars a slice, as the model tests it. -/
def Mach.sliceBarred (m : Mach) : Bool :=
  m.boot.bist.isNone || m.fld Reg.BST_STATUS 20 7 = 0 || !m.calPermits 29 || !(m.runningEntry.all fun x => decide (1000 ≤ x.2)) ||
    m.pwr.brake || m.flag Reg.PWR_STATUS 27

theorem sliceBarred_iff (m : Mach) : m.sliceBarred = false ↔ m.sliceMayRun := by
  have hroom : (m.runningEntry.all fun x => decide (1000 ≤ x.2)) = true ↔
      ∀ e left, m.runningEntry = some (e, left) → 1000 ≤ left := by
    simp only [Option.all_eq_true, decide_eq_true_eq, Prod.forall]
  simp only [Mach.sliceBarred, Mach.sliceMayRun, Bool.or_eq_false_iff, Option.isNone_eq_false_iff, Option.isSome_iff_ne_none,
    decide_eq_false_iff_not, Bool.not_eq_false', hroom, and_assoc, ne_eq]

section
variable {s : State} (hr : s.mach.running = true)
include hr

theorem exec_bistSlice : exec .bistSlice s = .next { s with
    mach := if s.mach.sliceBarred then s.mach
      else s.mach.setFld Reg.BST_STATUS 20 7 (s.mach.fld Reg.BST_STATUS 20 7 - 1) } := by
  show execBistSlice s = _
  rw [execBistSlice, runM_eq, whenRunning_eq hr, Mach.sliceBarred]
  cases s.mach.runningEntry <;> rfl

omit hr in
theorem exec_bistEnd_none (h : s.mach.boot.bist = none ∨ s.mach.fld Reg.BST_STATUS 20 7 ≠ 0) (pass : Bool) (sig : Quad) :
    exec (.bistEnd pass sig) s = .next s := by
  show execBistEnd pass sig s = _
  cases hb : s.mach.boot.bist with
  | none => simp only [execBistEnd, runMS_eq, hb]
  | some d =>
    have hn : s.mach.fld Reg.BST_STATUS 20 7 ≠ 0 := h.resolve_left (by simp [hb])
    simp only [execBistEnd, runMS_eq, hb, hn, ne_eq, not_false_eq_true, decide_true, Bool.or_true, if_true]

variable {d : Nat} (hb : s.mach.boot.bist = some d) (hn : s.mach.fld Reg.BST_STATUS 20 7 = 0) (sig : Quad)
include hb hn

theorem exec_bistEnd_spare (hd : d < 44) (pass : Bool) : exec (.bistEnd pass sig) s = .next { s with
    mach := if pass then (s.mach.signed sig).bistOver d 1 else ((s.mach.signed sig).bistOver d 2).spareFails (d - 36) } := by
  show execBistEnd pass sig s = _
  simp only [execBistEnd, runMS_eq, hb, hr, hn, hd, Bool.not_true, ne_eq, not_true, decide_false, Bool.or_self, Bool.false_eq_true,
    if_false, if_true]
  cases pass with
  | false => simp only [Mach.signed, Bool.false_eq_true, if_false]
  | true => simp only [Mach.signed, if_true]

theorem exec_bistEnd_corePasses (hd : 44 ≤ d) :
    let k := d - 44
    let clean : Store := { s.store with
      scratch := sclear s.store.scratch (k * 2 ^ 23) ((k + 1) * 2 ^ 23)
      prog := sclear s.store.prog (k * 32768) ((k + 1) * 32768) }
    exec (.bistEnd true sig) s = .next { s with
      mach := (((s.mach.signed sig).bistOver d 1).codeWritten 3 k 0 (2 ^ 20)).modCore k fun c => { c with
        poisoned := [], badFetch := [] }
      store := clean } := by
  show execBistEnd true sig s = _
  simp only [execBistEnd, runMS_eq, hb, hr, hn, Nat.not_lt.mpr hd, Bool.not_true, ne_eq, not_true, decide_false, Bool.or_self,
    Bool.false_eq_true, if_false, if_true]
  rfl

theorem exec_bistEnd_coreFails (hd : 44 ≤ d) : exec (.bistEnd false sig) s = .next { s with
    mach := ((s.mach.signed sig).bistOver d 2).coreFence s.store (d - 44) .uncorrectable 0x08 } := by
  show execBistEnd false sig s = _
  simp only [execBistEnd, runMS_eq, hb, hr, hn, Nat.not_lt.mpr hd, Bool.not_true, ne_eq, not_true, decide_false, Bool.or_self,
    Bool.false_eq_true, if_false]
  rfl

end

/-- Settles O50: the request, what bars it, the slices, and the end of a test on a spare and on a core. -/
theorem domainsAreTestedInServiceOneAtATime : Obligations.DomainsAreTestedInServiceOneAtATime := by
  unfold Obligations.DomainsAreTestedInServiceOneAtATime
  refine ⟨fun s value h => ⟨fun hgo => ?_, fun hgo => ⟨fun cause holder hb => ?_, fun hb => ?_⟩⟩,
    fun m d => ⟨bistBar_noDomain, bistBar_early, bistBar_lanternHeld, fun hlo hhi hs hl x => bistBar_another hlo hhi hs hl⟩,
    fun s hr => ⟨fun hmay => ?_, fun hno => ?_, fun pass sig h => exec_bistEnd_none h pass sig,
      fun d sig hb hn => ⟨fun hd => ⟨?_, ?_⟩, fun hd => ⟨?_, ?_⟩⟩⟩⟩
  · rw [exec_bstReq h, bstReq_stores hgo]
  · rw [exec_bstReq h, bstReq_refused hgo hb]
  · rw [exec_bstReq h, bstReq_taken hgo hb]
  · rw [exec_bistSlice hr, (sliceBarred_iff _).mpr hmay, if_neg Bool.false_ne_true]
  · rw [exec_bistSlice hr, if_pos (Bool.not_eq_false _ |>.mp fun hb => hno ((sliceBarred_iff _).mp hb))]
  · rw [exec_bistEnd_spare hr hb hn sig hd, if_pos rfl]
    rfl
  · rw [exec_bistEnd_spare hr hb hn sig hd, if_neg Bool.false_ne_true]
    rfl
  · exact exec_bistEnd_corePasses hr hb hn sig hd
  · exact exec_bistEnd_coreFails hr hb hn sig hd

end Sys2Proof.Machine

/-! PROOFS. Escalation, clearing, Lantern with its watchdog, and fault injection (18 R465, R466, R474 to R476, R480). -/
namespace Sys2Proof.Machine

/-! ### Snuffer (18 R466) -/

/-- The Snuffer timer of a group runs and is due. -/
def Mach.timerDue (m : Mach) (g : Nat) : Prop := ∃ t ∈ m.flt.timers, t.1 = g ∧ t.2 ≤ m.aon

section
variable {s : State} (ha : s.mach.awake = true) {group : BitVec 6}

theorem timerDue_iff (m : Mach) (g : Nat) :
    (m.flt.timers.any fun t => t.1 == g && decide (t.2 ≤ m.aon)) = true ↔ m.timerDue g := by
  simp only [Mach.timerDue, List.any_eq_true, Bool.and_eq_true, beq_iff_eq, decide_eq_true_eq]

theorem exec_snufferExpiry_notDue (h : ¬s.mach.timerDue group.toNat) : exec (.snufferExpiry group) s = .next s := by
  have hno := Bool.eq_false_iff.mpr fun hd => h ((timerDue_iff _ _).mp hd)
  show execSnufferExpiry group s = _
  simp only [execSnufferExpiry, runMS_eq, hno, Bool.and_false, Bool.false_eq_true, if_false]

include ha in
theorem exec_snufferExpiry_due (h : s.mach.timerDue group.toNat) :
    let r := s.mach.snufferExpiry s.store group.toNat
    exec (.snufferExpiry group) s = .next { s with mach := r.1, store := r.2 } := by
  have hdue := (timerDue_iff _ _).mpr h
  show execSnufferExpiry group s = _
  simp only [execSnufferExpiry, runMS_eq, ha, hdue, Bool.and_self, if_true]

end

section
variable {m : Mach} {g : Nat} (st : Store)

theorem snufferExpiry_fc2 (h : m.gclass g = 2) :
    let u := m.latchedBy g
    let m2 := (((m.stopTimer g).setGclass g 3).startTimer g).count Reg.FLT_ESC_CNT
    m.snufferExpiry st g =
      (Mach.faultEvent { m2 with flt := { m2.flt with fences := g :: m2.flt.fences.filter (· != g) } } g 2 3 1 u.1 u.2).fc3Effects st g := by
  rw [Mach.snufferExpiry, if_pos h]

theorem snufferExpiry_fc3 (h : m.gclass g ≠ 2) :
    let u := m.latchedBy g
    m.snufferExpiry st g = ((((m.stopTimer g).count Reg.FLT_ESC_CNT).setGclass g 4).enterSafe g 3 1 u.1 u.2, st) := by
  rw [Mach.snufferExpiry, if_neg h]

end

/-! ### Clearing a group (18 R465) -/

theorem setBitsOf_two_pow : ∀ j < 32, setBitsOf 32 (BitVec.ofNat 32 (2 ^ j)).toNat = [j] := by decide

/-- A write of one bit of the fault summary word. -/
theorem exec_fswClear {s : State} {hi : Bool} {j : Nat} (hj : j < 32)
    (h : Writable s (if hi then Reg.FLT_FSW_HI else Reg.FLT_FSW_LO)) :
    exec (.fswClear hi (BitVec.ofNat 32 (2 ^ j))) s = .next { s with mach := s.mach.fswClear (j + if hi then 32 else 0) } := by
  show execFswClear hi _ s = _
  rw [execFswClear, runM_eq, regCmd_eq h, Mach.fswWrite, setBitsOf_two_pow j hj, List.foldl_cons, List.foldl_nil]

section
variable {m : Mach} {g : Nat}

theorem fswClear_unlatched (h : g = 63 ∨ m.fsw g = false) : m.fswClear g = m := by
  have hno : (g = 63 || !m.fsw g) = true := by simpa using h
  simp only [Mach.fswClear, hno, if_true]

variable (h63 : g ≠ 63) (hf : m.fsw g = true)
include h63 hf

theorem fswClear_asserted (hp : ∃ p ∈ m.flt.pins, p.group = g) :
    let u := m.latchedBy g
    m.fswClear g = (m.count Reg.FLT_CLR_REFUSE_CNT).faultEvent g (m.gclass g) (m.gclass g) 3 u.1 u.2 := by
  have hpin : (m.flt.pins.any fun p => p.group == g) = true := by simpa using hp
  simp only [Mach.fswClear, h63, hf, hpin, decide_false, Bool.not_true, Bool.or_self, Bool.false_eq_true, if_false, if_true]

/-- A latched group whose pins are released is cleared; a port die's ports train again. -/
theorem fswClear_released (hp : ∀ p ∈ m.flt.pins, p.group ≠ g) :
    let u := m.latchedBy g
    let m1 := ((m.stopTimer g).setFsw g false).setGclass g 0
    let flt := { m1.flt with
      fences := m.flt.fences.filter (· != g), latched := m.flt.latched.filter fun x => x.1 != g
      galFences := if g = 28 then [] else m.flt.galFences }
    let m2 := Mach.faultEvent { m1 with flt := flt } g (m.gclass g) 7 2 u.1 u.2
    let back (a : Mach) (p : Port) : Mach := (p.lanes.foldl (fun b n => b.laneTrain n false) a).portWake p.first
    m.fswClear g = if g < 4 then (m2.ports.filter fun p => p.first / 128 == g).foldl back m2 else m2 := by
  have hpin : (m.flt.pins.any fun p => p.group == g) = false := by simpa using hp
  simp only [Mach.fswClear, h63, hf, hpin, decide_false, Bool.not_true, Bool.or_self, Bool.false_eq_true, if_false]
  rfl

end

/-! ### Lantern and its watchdog (18 R474, R475, R480) -/

theorem exec_wdogKick {s : State} (h : Writable s Reg.FLT_WDOG) (value : Word) :
    let m1 := s.mach.writeRw Reg.FLT_WDOG 0x3FFF value.toNat
    exec (.wdogKick value) s = .next { s with mach := if bitOf value.toNat 31 then
      { m1 with flt := { m1.flt with wdogMs := max 1 (m1.fld Reg.FLT_WDOG 13 0), wdogKick := s.mach.aon } } else m1 } := by
  show execWdogKick value s = _
  rw [execWdogKick, runM_eq, regCmd_eq h]
  rfl

section
variable {s : State} (ha : s.mach.awake = true)
include ha

theorem exec_wdogExpiry : exec .wdogExpiry s = .next { s with
    mach := if s.mach.flt.lanternReset = false ∧ s.mach.flt.wdogKick + 1000000 * s.mach.flt.wdogMs ≤ s.mach.aon then
      s.mach.lanternFault 0x48 else s.mach } := by
  show execWdogExpiry s = _
  simp only [execWdogExpiry, runM_eq, ha, Bool.and_eq_true, Bool.not_eq_true', decide_eq_true_eq, true_and]

omit ha in
theorem exec_lanternVerifyDone_none (h : s.mach.flt.lanternVerify = false) (r : Bool) :
    exec (.lanternVerifyDone r) s = .next s := by
  show execLanternVerifyDone r s = _
  simp only [execLanternVerifyDone, runM_eq, h, Bool.not_false, Bool.or_true, if_true]

/-- The check of the flash image has ended, and Lantern is held or runs on. -/
def Mach.verifyEnded (m : Mach) (held : Bool) : Mach :=
  { m with flt := { m.flt with lanternVerify := false, lanternReset := held, wdogKick := m.aon } }

theorem exec_lanternVerifyDone (h : s.mach.flt.lanternVerify = true) (r : Bool) :
    exec (.lanternVerifyDone r) s = .next { s with
      mach := if r && s.mach.imageRuns then (s.mach.verifyEnded false).dropPins fun p => p.group == 35 else s.mach.verifyEnded true } := by
  show execLanternVerifyDone r s = _
  simp only [execLanternVerifyDone, runM_eq, ha, h, Bool.not_true, Bool.or_self, Bool.false_eq_true, if_false]
  cases r && s.mach.imageRuns <;> rfl

end

theorem cfgMiss_flt (m : Mach) : m.cfgMiss.flt = m.flt := rfl

theorem writeLocked_flt (m : Mach) (off mask locked value : Nat) : (m.writeLocked off mask locked value).flt = m.flt := by
  simp only [Mach.writeLocked]
  split
  · rw [cfgMiss_flt]; rfl
  · rfl

theorem exec_lanternRestart {s : State} (h : Writable s Reg.FLT_CTL) (value : Word) :
    let m1 := s.mach.writeLocked Reg.FLT_CTL 0x70000000 0x30000000 value.toNat
    exec (.lanternRestart value) s = .next { s with
      mach := if bitOf value.toNat 27 = true ∧ s.mach.flt.lanternReset = true ∧ 3 ≤ m1.stage then
        { m1 with flt := { m1.flt with lanternVerify := true } } else m1 } := by
  show execLanternRestart value s = _
  rw [execLanternRestart, runM_eq, regCmd_eq h]
  simp only [Mach.fltCtl, writeLocked_flt, Bool.and_eq_true, decide_eq_true_eq, and_assoc]

/-! ### Fault injection (18 R476) -/

theorem exec_fltInjGo {s : State} (h : Writable s Reg.FLT_INJ) (value : Word) :
    exec (.fltInjGo value) s = .next { s with mach := s.mach.injWriteReg value.toNat } := by
  show execFltInjGo value s = _
  rw [execFltInjGo, runM_eq, regCmd_eq h]

section
variable {m : Mach} {value : Nat}

theorem injWriteReg_off (h : bitOf value 31 = false ∨ m.flag Reg.FLT_CTL 29 = false) :
    m.injWriteReg value = m.writeRw Reg.FLT_INJ 0x7FC001FF value := by
  have hno : (!bitOf value 31 || !m.flag Reg.FLT_CTL 29) = true := by simpa using h
  simp only [Mach.injWriteReg, hno, if_true]

variable (hgo : bitOf value 31 = true) (hen : m.flag Reg.FLT_CTL 29 = true)
include hgo hen

theorem injWriteReg_arms (hk : bits value 30 29 ≠ 3) :
    let j := (bits value 30 29, bits value 26 22, bits value 8 0, (m.rd Reg.FLT_INJ_ADDR).toNat, max 1 (bits value 28 27))
    m.injWriteReg value = { m.writeRw Reg.FLT_INJ 0x7FC001FF value with
      flt := { m.flt with injections := m.flt.injections ++ [j] } } := by
  simp only [Mach.injWriteReg, hgo, hen, hk, Bool.not_true, Bool.or_self, Bool.false_eq_true, if_false]
  rfl

variable (hk : bits value 30 29 = 3)
include hk

theorem injWriteReg_parity_barred (hok : m.flag Reg.FLT_CTL 28 = false) :
    m.injWriteReg value = m.writeRw Reg.FLT_INJ 0x7FC001FF value := by
  simp only [Mach.injWriteReg, hgo, hen, hk, hok, Bool.not_true, Bool.or_self, Bool.false_eq_true, if_false, if_true]

theorem injWriteReg_parity (hok : m.flag Reg.FLT_CTL 28 = true) :
    let m1 := m.writeRw Reg.FLT_INJ 0x7FC001FF value
    m.injWriteReg value = ((m1.setFsw 38 true).setGclass 38 4).enterSafe 38 (m1.gclass 38) 0 0 0x44 := by
  simp only [Mach.injWriteReg, hgo, hen, hk, hok, Bool.not_true, Bool.or_self, Bool.false_eq_true, if_false, if_true]

end

/-- Settles O47, a case of each function at a time. -/
theorem faultsEscalateClearAndHoldLantern : Obligations.FaultsEscalateClearAndHoldLantern := by
  unfold Obligations.FaultsEscalateClearAndHoldLantern
  refine ⟨fun s group ha => ⟨fun h => ?_, fun hd h2 => ?_, fun hd h2 => ?_⟩,
    fun s hi j hj hw => ⟨fun h => ?_, fun h63 hf hp => ?_, fun h63 hf hp => ⟨fun h4 => ?_, fun h4 => ?_⟩⟩,
    fun s value hw => ⟨fun hb => ?_, fun hb => ?_⟩,
    fun s ha => ⟨fun h => ?_, fun hl hd => ?_, exec_lanternVerifyDone_none, fun hv r => ⟨fun h => ?_, fun h => ?_⟩⟩,
    fun s value hw => ⟨fun h => ?_, fun h => ?_⟩,
    fun s value hw => ⟨fun h => ?_, fun hgo hen => ⟨fun hk => ?_, fun hk hok => ?_, fun hk hok => ?_⟩⟩⟩
  · exact exec_snufferExpiry_notDue fun ⟨t, ht, hg, hle⟩ => absurd hle (Nat.not_le.mpr (h t ht hg))
  · rw [exec_snufferExpiry_due ha hd, snufferExpiry_fc2 s.store h2]
  · rw [exec_snufferExpiry_due ha hd, snufferExpiry_fc3 s.store h2]
  · rw [exec_fswClear hj hw, fswClear_unlatched h]
  · rw [exec_fswClear hj hw, fswClear_asserted h63 hf hp]
  · rw [exec_fswClear hj hw, fswClear_released h63 hf hp, if_neg (Nat.not_lt.mpr h4)]
  · rw [exec_fswClear hj hw, fswClear_released h63 hf hp, if_pos h4]
  · rw [exec_wdogKick hw, hb]; rfl
  · rw [exec_wdogKick hw, hb]; rfl
  · rw [exec_wdogExpiry ha, if_neg]
    rintro ⟨hl, hd⟩
    exact h.elim (fun hl' => Bool.false_ne_true (hl.symm.trans hl')) fun hn => hn hd
  · rw [exec_wdogExpiry ha, if_pos ⟨hl, hd⟩]
  · rw [exec_lanternVerifyDone ha hv, h.1, h.2]; rfl
  · have hno : (r && s.mach.imageRuns) = false := Bool.and_eq_false_iff.mpr h
    rw [exec_lanternVerifyDone ha hv, hno]; rfl
  · rw [exec_lanternRestart hw, if_neg h]
  · rw [exec_lanternRestart hw, if_pos h]
  · rw [exec_fltInjGo hw, injWriteReg_off h]
  · rw [exec_fltInjGo hw, injWriteReg_arms hgo hen hk]
  · rw [exec_fltInjGo hw, injWriteReg_parity_barred hgo hen hk hok]
  · rw [exec_fltInjGo hw, injWriteReg_parity hgo hen hk hok]

end Sys2Proof.Machine

/-! PROOFS. The ends of a bring-up stage: its report, its bound, and its agents (19 R481 to R490). -/
namespace Sys2Proof.Machine

section
variable {s : State}

/-! ### When no stage runs -/

section
variable (h : s.mach.staging = false)
include h

theorem exec_stageEnd_idle (rep : StageRep) (fail : StageFail) : exec (.stageEnd rep fail) s = .next s := by
  show execStageEnd rep fail s = _
  simp only [execStageEnd, runM_eq, h, Bool.false_eq_true, if_false]

theorem exec_stageTimeout_idle : exec .stageTimeout s = .next s := by
  show execStageTimeout s = _
  simp only [execStageTimeout, runM_eq, h, Bool.false_and, Bool.false_eq_true, if_false]

theorem exec_agentTimeout_idle (agent : BitVec 10) : exec (.agentTimeout agent) s = .next s := by
  show execAgentTimeout agent s = _
  simp only [execAgentTimeout, runM_eq, h, Bool.not_false, Bool.true_or, if_true]

end

/-! ### The report of a stage (19 R485, R487) -/

theorem exec_stageEnd (h : s.mach.staging = true) (rep : StageRep) (fail : StageFail) :
    exec (.stageEnd rep fail) s = .next { s with mach := s.mach.stageEnd s.store rep fail } := by
  show execStageEnd rep fail s = _
  simp only [execStageEnd, runM_eq, h, if_true]

end

/-- What B3 and B4 exclude is added before their end is judged; the other stages exclude nothing (19 R490, R493). -/
def Mach.excludes (m : Mach) (fail : StageFail) : Mach :=
  { m with boot := { m.boot with
      excluded := m.boot.excluded ++ fail.positions.map BitVec.toNat
      badClusters := m.boot.badClusters ++ if m.stage = 4 then fail.clusters.map BitVec.toNat else [] } }

section
variable {m : Mach} {n : Nat}

theorem stageBar_strap (hn : n = 1) (h : m.fld Reg.SVC_STRAPS 13 12 = 3) : m.stageBar n = some 1 := by
  simp only [Mach.stageBar, hn, h, decide_true, Bool.and_self, if_true]

theorem stageBar_agent (hn : n = 7) (h : ∃ a ∈ m.boot.agentsFailed, 552 ≤ a) : m.stageBar n = some 0x0B := by
  have hany : (m.boot.agentsFailed.any fun a => decide (552 ≤ a)) = true := by simpa using h
  simp only [Mach.stageBar, hn, hany, decide_true, Bool.and_self, if_true, Nat.reduceEqDiff, decide_false, Bool.false_and,
    Bool.false_eq_true, if_false]

theorem stageBar_none (h1 : n = 1 → m.fld Reg.SVC_STRAPS 13 12 ≠ 3) (h7 : n = 7 → ∀ a ∈ m.boot.agentsFailed, a < 552) :
    m.stageBar n = none := by
  have hs : (decide (n = 1) && decide (m.fld Reg.SVC_STRAPS 13 12 = 3)) = false := by simpa using h1
  have ha : (decide (n = 7) && m.boot.agentsFailed.any fun a => decide (552 ≤ a)) = false := by simpa using h7
  rw [Mach.stageBar, hs, ha]
  rfl

/-- The end of a stage other than B3 and B4. -/
theorem stageEnd_of_barred (st : Store) (rep : StageRep) (fail : StageFail) {c : Nat} (hn : m.stage = n)
    (h34 : n ≠ 3 ∧ n ≠ 4) (hb : m.stageBar n = some c) :
    m.stageEnd st rep fail = m.stageFails n c (m.stageDetail n (rep.detail.map BitVec.toNat)) rep.failMap.toNat := by
  subst hn
  simp only [Mach.stageEnd, h34.1, h34.2, decide_false, Bool.or_self, Bool.false_eq_true, if_false, hb]

section
variable (st : Store) (rep : StageRep) (fail : StageFail) (hn : m.stage = n)

section
variable (h34 : n ≠ 3 ∧ n ≠ 4) (hb : m.stageBar n = none)
include hn h34 hb

theorem stageEnd_fails (h2 : n ≠ 2) (h6 : n ≠ 6) (hr : rep.result = 3) :
    m.stageEnd st rep fail =
      m.stageFails n rep.cause.toNat (m.stageDetail n (rep.detail.map BitVec.toNat)) rep.failMap.toNat := by
  subst hn
  simp only [Mach.stageEnd, h34.1, h34.2, decide_false, Bool.or_self, Bool.false_eq_true, if_false, hb, h2, h6, hr, ne_eq,
    not_false_eq_true, decide_true, Bool.and_self, if_true]

/-- A stage passes when its report is not FAIL; B6 passes whatever its report says. -/
theorem stageEnd_passes (h2 : n ≠ 2) (hr : rep.result ≠ 3 ∨ n = 6) :
    m.stageEnd st rep fail = m.stagePass st n (b2n (decide (n = 7) && !m.boot.agentsFailed.isEmpty))
      (rep.detail.map BitVec.toNat) rep.failMap.toNat := by
  subst hn
  have hno : (decide (rep.result = 3) && decide (m.stage ≠ 6)) = false := by simpa [or_iff_not_imp_left] using hr
  simp only [Mach.stageEnd, h34.1, h34.2, decide_false, Bool.or_self, Bool.false_eq_true, if_false, hb, h2, hno,
    Bool.false_and, Bool.false_or]

end

end

section
variable (st : Store) (rep : StageRep) (fail : StageFail) (hn : m.stage = 2)
include hn

theorem stageEnd_two : m.stageEnd st rep fail =
    if rep.result = 3 ∨ (imgFails m.sec.arb m.sec.image).isSome = true then m.stageWaits
    else m.stagePass st 2 0 (rep.detail.map BitVec.toNat) rep.failMap.toNat := by
  have hb : m.stageBar 2 = none := stageBar_none (by simp) (by simp)
  simp only [Mach.stageEnd, hn, hb, Nat.reduceEqDiff, decide_false, Bool.or_self, Bool.false_eq_true, if_false, if_true,
    Bool.or_eq_true, decide_eq_true_eq]

end

section
variable (st : Store) (rep : StageRep) (fail : StageFail) (hn : m.stage = n) (h34 : n = 3 ∨ n = 4)
include hn h34

theorem stageEnd_excludes : m.stageEnd st rep fail =
    let m1 := m.excludes fail
    if rep.result = 3 then m1.stageFails n rep.cause.toNat (m1.stageDetail n (rep.detail.map BitVec.toNat)) rep.failMap.toNat
    else m1.stagePass st n (b2n !(fail.positions.isEmpty && fail.clusters.isEmpty)) (rep.detail.map BitVec.toNat)
      rep.failMap.toNat := by
  subst hn
  have hb : (m.excludes fail).stageBar m.stage = none := stageBar_none (by omega) (by omega)
  have hor : (decide (m.stage = 3) || decide (m.stage = 4)) = true := by simpa using h34
  have h2 : m.stage ≠ 2 := by omega
  have h6 : m.stage ≠ 6 := by omega
  have h7 : m.stage ≠ 7 := by omega
  simp only [Mach.excludes] at hb
  simp only [Mach.stageEnd, Mach.excludes, hor, if_true, hb, h2, h6, h7, if_false, ne_eq, not_false_eq_true, decide_true,
    Bool.and_true, Bool.true_and, decide_false, Bool.false_and, Bool.or_false, decide_eq_true_eq]

end
end

/-- A stage with no work of its own. -/
theorem stageWork_none (h : n ≠ 0 ∧ n ≠ 2 ∧ n ≠ 7 ∧ n ≠ 8) (m : Mach) : m.stageWork n = m := by
  obtain ⟨h0, h2, h7, h8⟩ := h
  simp only [Mach.stageWork]

theorem b2n_not_isEmpty {α : Type} (l : List α) : b2n (!l.isEmpty) = if l = [] then 0 else 1 := by
  cases l <;> rfl

theorem b2n_not_both_isEmpty {α β : Type} (l : List α) (k : List β) :
    b2n (!(l.isEmpty && k.isEmpty)) = if l = [] ∧ k = [] then 0 else 1 := by
  cases l <;> cases k <;> rfl

/-! ### The bound of a stage (19 R484) -/

section
variable {s : State} (hst : s.mach.staging = true)
include hst

theorem exec_stageTimeout_early (h : s.mach.aon < s.mach.boot.stageAt + 1000000 * stageBound s.mach.stage) :
    exec .stageTimeout s = .next s := by
  show execStageTimeout s = _
  simp only [execStageTimeout, runM_eq, hst, Nat.not_le.mpr h, decide_false, Bool.and_false, Bool.false_eq_true, if_false]

theorem exec_stageTimeout_late (h : s.mach.boot.stageAt + 1000000 * stageBound s.mach.stage ≤ s.mach.aon) :
    let m1 := s.mach.stageFails s.mach.stage 0x0D (s.mach.stageDetail s.mach.stage []) 0
    exec .stageTimeout s = .next { s with mach := { m1 with flt := { m1.flt with lanternReset := true } } } := by
  show execStageTimeout s = _
  simp only [execStageTimeout, runM_eq, hst, h, decide_true, Bool.and_self, if_true]

/-! ### The agents of B7 (19 R489) -/

variable {agent : BitVec 10}

omit hst in
theorem exec_agentTimeout_notLoading
    (h : s.mach.stage ≠ 7 ∨ s.mach.agentLoaded agent.toNat = false ∨ agent.toNat ∈ s.mach.boot.agentsFailed) :
    exec (.agentTimeout agent) s = .next s := by
  have hno : (!s.mach.staging || decide (s.mach.stage ≠ 7) || !s.mach.agentLoaded agent.toNat ||
      s.mach.boot.agentsFailed.contains agent.toNat) = true := by
    rcases h with h | h | h <;> simp [h]
  show execAgentTimeout agent s = _
  simp only [execAgentTimeout, runM_eq, hno, if_true]

/-- How often an agent's section has been sent again. -/
def Mach.resent (m : Mach) (a : Nat) : Nat := ((m.boot.resends.find? fun r => r.1 == a).map (·.2)).getD 0

theorem exec_agentTimeout (h7 : s.mach.stage = 7) (hl : s.mach.agentLoaded agent.toNat = true)
    (hf : agent.toNat ∉ s.mach.boot.agentsFailed) :
    let a := agent.toNat
    let k := s.mach.resent a
    exec (.agentTimeout agent) s = .next { s with
      mach := if k < 2 then
          { s.mach with boot := { s.mach.boot with resends := (a, k + 1) :: s.mach.boot.resends.filter fun r => r.1 != a } }
        else { s.mach with boot := { s.mach.boot with agentsFailed := s.mach.boot.agentsFailed ++ [a] } } } := by
  have hno : (!s.mach.staging || decide (s.mach.stage ≠ 7) || !s.mach.agentLoaded agent.toNat ||
      s.mach.boot.agentsFailed.contains agent.toNat) = false := by simp [hst, h7, hl, hf]
  show execAgentTimeout agent s = _
  simp only [execAgentTimeout, runM_eq, hno, Bool.false_eq_true, if_false, Mach.resent]
  rfl

end

/-- Settles O49, stage by stage. -/
theorem stagesEndPassHaltOrWait : Obligations.StagesEndPassHaltOrWait := by
  unfold Obligations.StagesEndPassHaltOrWait
  refine fun s => ⟨fun h rep fail agent => ⟨exec_stageEnd_idle h rep fail, exec_stageTimeout_idle h, exec_agentTimeout_idle h agent⟩,
    fun hst => ⟨fun rep fail => ?_, ⟨exec_stageTimeout_early hst, exec_stageTimeout_late hst⟩,
      fun agent => ⟨exec_agentTimeout_notLoading, fun h7 hl hf => ⟨fun hk => ?_, fun hk => ?_⟩⟩⟩⟩
  · intro d map
    refine ⟨fun hn h3 => ?_, fun hn ha => ?_, fun hn => ?_, fun hn => ?_, fun hn => ?_, fun hn ha => ?_, fun hn => ?_⟩
    · rw [exec_stageEnd hst, stageEnd_of_barred s.store rep fail hn (by decide) (stageBar_strap rfl h3)]
    · rw [exec_stageEnd hst, stageEnd_of_barred s.store rep fail hn (by decide) (stageBar_agent rfl ha)]
    · have hb : s.mach.stageBar s.mach.stage = none := stageBar_none (by omega) (by omega)
      have h7 : s.mach.stage ≠ 7 := by omega
      refine ⟨fun hr => ?_, fun hr => ?_⟩
      · rw [exec_stageEnd hst, stageEnd_fails s.store rep fail rfl (by omega) hb (by omega) (by omega) hr]
      · rw [exec_stageEnd hst, stageEnd_passes s.store rep fail rfl (by omega) hb (by omega) (.inl hr), decide_eq_false h7]
        rfl
    · refine ⟨fun h => ?_, fun hr hv => ?_⟩
      · rw [exec_stageEnd hst, stageEnd_two s.store rep fail hn, if_pos h]
      · rw [exec_stageEnd hst, stageEnd_two s.store rep fail hn, if_neg (not_or.mpr ⟨hr, by simp [hv]⟩)]
        rfl
    · refine ⟨fun hr => ?_, fun hr => ?_⟩
      · rw [exec_stageEnd hst, stageEnd_excludes s.store rep fail rfl hn, if_pos hr]
        rfl
      · rw [exec_stageEnd hst, stageEnd_excludes s.store rep fail rfl hn, if_neg hr, b2n_not_both_isEmpty, Mach.stagePass,
          stageWork_none (by omega)]
        rfl
    · have hb : s.mach.stageBar 7 = none := stageBar_none (by simp) fun _ => ha
      refine ⟨fun hr => ?_, fun hr => ?_⟩
      · rw [exec_stageEnd hst, stageEnd_fails s.store rep fail hn (by decide) hb (by decide) (by decide) hr]
      · rw [exec_stageEnd hst, stageEnd_passes s.store rep fail hn (by decide) hb (by decide) (.inl hr), decide_eq_true rfl,
          Bool.true_and, b2n_not_isEmpty]
        rfl
    · have hb : s.mach.stageBar 6 = none := stageBar_none (by simp) (by simp)
      rw [exec_stageEnd hst, stageEnd_passes s.store rep fail hn (by decide) hb (by decide) (.inr rfl)]
      rfl
  · rw [exec_agentTimeout hst h7 hl hf, if_pos (show s.mach.resent _ < 2 from hk)]
    rfl
  · rw [exec_agentTimeout hst h7 hl hf, if_neg (show ¬s.mach.resent _ < 2 from Nat.not_lt.mpr hk)]

end Sys2Proof.Machine

/-! PROOFS. What each kind of reset keeps, and the stage its release starts (16 R435; 18 R478; 19 R481, R488, R499). -/
namespace Sys2Proof.Machine

/-! ### Transmitters off, and an image torn (16 R435, 19 R500) -/

theorem foldl_emit {α : Type} (f : α → Out) (xs : List α) (m : Mach) :
    xs.foldl (fun a x => a.emit (f x)) m = { m with out := m.out ++ xs.map f } := by
  induction xs generalizing m with
  | nil => simp only [List.foldl_nil, List.map_nil, List.append_nil]
  | cons x xs ih =>
    rw [List.foldl_cons, ih, List.map_cons, List.append_cons]
    rfl

/-- What the two leave of a machine: all but its output log and its image. -/
theorem tornOff_eq (m : Mach) : ∃ out image, m.transmittersOff.tearFlash =
    { m with out := out, sec := { m.sec with image := image } } := by
  simp only [Mach.transmittersOff, foldl_emit, Mach.tearFlash]
  split
  · exact ⟨_, _, rfl⟩
  · exact ⟨_, _, rfl⟩

/-! ### Assertion -/

section
variable {s : State}

theorem exec_resetAssert (w : Bool) : exec (.resetAssert w) s =
    .next { s with mach := (s.mach.resetAssert s.store w).1, store := (s.mach.resetAssert s.store w).2 } := rfl

theorem resetAssert_safe {m : Mach} (h : m.flt.safe = true) (st : Store) (w : Bool) : m.resetAssert st w = (m, st) := by
  rw [Mach.resetAssert, h, if_pos rfl]

/-- Reset pins as given. -/
def Mach.pinned (m : Mach) (r w : Bool) : Mach := { m with boot := { m.boot with resetN := r, warmN := w } }

/-- A cold reset finds the pins and keeps them. -/
theorem coldState_boot (m : Mach) :
    m.transmittersOff.tearFlash.coldState.boot = { resetN := m.boot.resetN, warmN := m.boot.warmN } := by
  obtain ⟨out, image, h⟩ := tornOff_eq m
  rw [h]
  rfl

theorem warmState_resetN (m : Mach) : m.transmittersOff.tearFlash.warmState.boot.resetN = m.boot.resetN := by
  obtain ⟨out, image, h⟩ := tornOff_eq m
  rw [h]
  rfl

section
variable {m : Mach} (h : m.flt.safe = false) (st : Store)
include h

theorem resetAssert_cold :
    m.resetAssert st false = (m.transmittersOff.tearFlash.coldState.pinned true m.boot.warmN, {}) := by
  rw [Mach.resetAssert, h]
  show (m.transmittersOff.tearFlash.coldState.pinned true m.transmittersOff.tearFlash.coldState.boot.warmN, _) = _
  rw [coldState_boot]

/-- WARM_RESET_N without a valid token acts as RESET_N (19 R488). -/
theorem resetAssert_noToken (ht : m.transmittersOff.tearFlash.flag Reg.BOOT_STATUS 23 = false) :
    m.resetAssert st true = (m.transmittersOff.tearFlash.coldState.pinned m.boot.resetN true, {}) := by
  simp only [Mach.resetAssert, h, ht, Bool.false_eq_true, if_false, if_true]
  show (m.transmittersOff.tearFlash.coldState.pinned m.transmittersOff.tearFlash.coldState.boot.resetN true, _) = _
  rw [coldState_boot]

theorem resetAssert_token (ht : m.transmittersOff.tearFlash.flag Reg.BOOT_STATUS 23 = true) :
    m.resetAssert st true = (m.transmittersOff.tearFlash.warmState.pinned m.boot.resetN true, { hbm := st.hbm }) := by
  simp only [Mach.resetAssert, h, ht, Bool.false_eq_true, if_false, if_true]
  show (m.transmittersOff.tearFlash.warmState.pinned m.transmittersOff.tearFlash.warmState.boot.resetN true, _) = _
  rw [warmState_resetN]
  rfl

end
end

/-! ### Release -/

section
variable {s : State} (straps : BitVec 18)

theorem exec_resetRelease_released (h : s.mach.boot.resetN = false) : exec (.resetRelease straps) s = .next s := by
  show execResetRelease straps s = _
  simp only [execResetRelease, runM_eq, h, Bool.not_false, if_true]

theorem exec_warmResetRelease_released (h : s.mach.boot.warmN = false) : exec (.warmResetRelease straps) s = .next s := by
  show execWarmResetRelease straps s = _
  simp only [execWarmResetRelease, runM_eq, h, Bool.not_false, if_true]

theorem exec_resetRelease (h : s.mach.boot.resetN = true) :
    let m1 := s.mach.pinned false s.mach.boot.warmN
    exec (.resetRelease straps) s = .next { s with
      mach := if s.mach.boot.warmN || s.mach.pwr.lost then m1 else m1.startCold straps } := by
  show execResetRelease straps s = _
  simp only [execResetRelease, runM_eq, h, Bool.not_true, Bool.false_eq_true, if_false]
  rfl

theorem exec_warmResetRelease (h : s.mach.boot.warmN = true) :
    let m1 := s.mach.pinned s.mach.boot.resetN false
    exec (.warmResetRelease straps) s = .next { s with
      mach := if s.mach.boot.resetN || s.mach.pwr.lost then m1
        else if m1.flag Reg.BOOT_STATUS 23 then m1.startStages.setFlag Reg.BOOT_STATUS 24 true else m1.startCold straps } := by
  show execWarmResetRelease straps s = _
  simp only [execWarmResetRelease, runM_eq, h, Bool.not_true, Bool.false_eq_true, if_false]
  rfl

end

/-- What RESET_N keeps of a machine that it finds. -/
theorem coldState_keeps (m : Mach) :
    let m1 := m.transmittersOff.tearFlash
    let cold := m1.coldState
    (cold.regs = m1.regs.filter (fun c => (decide (0xA0010 ≤ c.1 ∧ c.1 < 0xA0018) || decide (0x20050 ≤ c.1 ∧ c.1 < 0x20060) ||
          decide (0x10050 ≤ c.1 ∧ c.1 < 0x10058))) ∧
      cold.sec = { arb := m.sec.arb, image := m1.sec.image } ∧ cold.ecc = { retire := m.ecc.flash, flash := m.ecc.flash } ∧
      cold.flt = { records := m.flt.records, safeEntries := m.flt.safeEntries } ∧ cold.aon = m.aon ∧ cold.out = m1.out) := by
  obtain ⟨out, image, h⟩ := tornOff_eq m
  simp only [h]
  refine ⟨?_, rfl, rfl, rfl, rfl, rfl⟩
  simp only [Mach.coldState, Mach.regsIn, coldRanges, fuseRanges, List.singleton_append, List.any_cons, List.any_nil, Bool.or_false,
    Bool.decide_and, Bool.or_assoc]

theorem warmState_keeps (m : Mach) :
    let m1 := m.transmittersOff.tearFlash
    let warm := m1.warmState
    warm.time = { acc := m.time.acc, adv := m.time.adv, heard := m.time.heard, refills := m.time.refills } ∧
      warm.boot.excluded = m.boot.excluded ∧ warm.boot.badClusters = m.boot.badClusters ∧ warm.ecc.retire = m.ecc.retire ∧
      warm.flt = m1.coldState.flt := by
  obtain ⟨out, image, h⟩ := tornOff_eq m
  simp only [h]
  exact ⟨rfl, rfl, rfl, rfl, rfl⟩

/-- Settles O48, pin by pin. -/
theorem resetsKeepWhatTheyKeepAndStartStages : Obligations.ResetsKeepWhatTheyKeepAndStartStages := by
  unfold Obligations.ResetsKeepWhatTheyKeepAndStartStages
  intro s m m1 token cold warm held
  refine ⟨fun h w => ?_, fun h => ⟨?_, fun ht => ?_, fun ht => ?_⟩, ?_, rfl, fun straps => ⟨exec_resetRelease_released straps,
    exec_warmResetRelease_released straps, fun hr hw => ?_, fun hw hr => ?_, fun hr hw hp => ?_, fun hw hr hp => ?_⟩⟩
  · rw [exec_resetAssert, resetAssert_safe h]
  · rw [exec_resetAssert, resetAssert_cold h]
    rfl
  · rw [exec_resetAssert, resetAssert_noToken h s.store ht]
    rfl
  · rw [exec_resetAssert, resetAssert_token h s.store ht]
    rfl
  · obtain ⟨hregs, hsec, hecc, hflt, haon, hout⟩ := coldState_keeps s.mach
    exact ⟨hregs, hsec, hecc, hflt, haon, hout, warmState_keeps s.mach⟩
  · have hno : (s.mach.boot.warmN || s.mach.pwr.lost) = true := by simpa using hw
    rw [exec_resetRelease straps hr, hno]
    rfl
  · have hno : (s.mach.boot.resetN || s.mach.pwr.lost) = true := by simpa using hr
    rw [exec_warmResetRelease straps hw, hno]
    rfl
  · have hno : (s.mach.boot.warmN || s.mach.pwr.lost) = false := by simpa using And.intro hw hp
    rw [exec_resetRelease straps hr, hno, hw]
    rfl
  · have hno : (s.mach.boot.resetN || s.mach.pwr.lost) = false := by simpa using And.intro hr hp
    rw [exec_warmResetRelease straps hw, hno, hr]
    rfl

end Sys2Proof.Machine

/-! PROOFS. Window bases and locks, clock, rail and die-to-die faults, and the management buses (22 R552, R554; 18 R462; 23 R565,
R566). -/
namespace Sys2Proof.Machine

/-! ### The window bases (22 R552) -/

/-- Both windows are aligned to their size and do not overlap. -/
def Mach.basesGood (m : Mach) : Prop :=
  let c := m.rd64 Reg.GLB_CFG_BASE_LO Reg.GLB_CFG_BASE_HI
  let f := m.rd64 Reg.GLB_FMW_BASE_LO Reg.GLB_FMW_BASE_HI
  c % 2 ^ 26 = 0 ∧ f % 2 ^ 39 = 0 ∧ (c + 2 ^ 26 ≤ f ∨ f + 2 ^ 39 ≤ c)

theorem windowsOk_iff (m : Mach) : m.windowsOk = true ↔ m.basesGood := by
  simp only [Mach.windowsOk, Mach.basesGood, Bool.and_eq_true, beq_iff_eq, Bool.or_eq_true, decide_eq_true_eq, and_assoc]

/-- The windows are valid and a ring set is enabled. -/
def Mach.windowsBusy (m : Mach) : Prop := m.flag Reg.GLB_WIN_CTL 31 = true ∧ ∃ k < 65, m.ringEn k = true

theorem windowsBusy_iff (m : Mach) :
    (m.flag Reg.GLB_WIN_CTL 31 && (List.range 65).any m.ringEn) = true ↔ m.windowsBusy := by
  simp only [Mach.windowsBusy, Bool.and_eq_true, List.any_eq_true, List.mem_range]

theorem exec_glbWinValid {s : State} (h : Writable s Reg.GLB_WIN_CTL) (value : Word) :
    exec (.glbWinValid value) s = .next { s with mach := s.mach.winCtl value.toNat } := by
  show execGlbWinValid value s = _
  rw [execGlbWinValid, runM_eq, regCmd_eq h]

section
variable {m : Mach} {value : Nat}

section
variable (hv : bitOf value 31 = true)
include hv

theorem winCtl_good (h : m.basesGood) :
    m.winCtl value = (m.setFlag Reg.GLB_WIN_CTL 31 true).setFlag Reg.GLB_WIN_CTL 30 false := by
  rw [Mach.winCtl, if_pos hv, if_pos ((windowsOk_iff m).mpr h)]

theorem winCtl_bad (h : ¬m.basesGood) :
    m.winCtl value = (m.setFlag Reg.GLB_WIN_CTL 31 false).setFlag Reg.GLB_WIN_CTL 30 true := by
  rw [Mach.winCtl, if_pos hv, if_neg (mt (windowsOk_iff m).mp h)]

end

section
variable (hv : bitOf value 31 = false)
include hv

theorem winCtl_busy (h : m.windowsBusy) : m.winCtl value = m.count Reg.JNK_CFG_MISS_CNT := by
  rw [Mach.winCtl, if_neg (Bool.eq_false_iff.mp hv), if_pos ((windowsBusy_iff m).mpr h)]
  rfl

theorem winCtl_clears (h : ¬m.windowsBusy) : m.winCtl value = m.setFlag Reg.GLB_WIN_CTL 31 false := by
  rw [Mach.winCtl, if_neg (Bool.eq_false_iff.mp hv), if_neg (mt (windowsBusy_iff m).mp h)]

end
end

/-! ### The locks (22 R554) -/

/-- A write of GLB_LOCK by any of its three commands. -/
theorem exec_lock {s : State} (h : Writable s Reg.GLB_LOCK) (value : Word) :
    ∀ c ∈ [Instr.lockFeat value, .lockInj value, .lockJtag value],
      exec c s = .next { s with mach := s.mach.lockWrite value.toNat } := by
  simp only [List.forall_mem_cons, List.not_mem_nil, false_implies, implies_true, and_true]
  refine ⟨?_, ?_, ?_⟩
  · show execLockFeat value s = _
    rw [execLockFeat, runM_eq, regCmd_eq h]
  · show execLockInj value s = _
    rw [execLockInj, runM_eq, regCmd_eq h]
  · show execLockJtag value s = _
    rw [execLockJtag, runM_eq, regCmd_eq h]

/-- GLB_LOCK with the written bits set, and none cleared. -/
def Mach.locked (m : Mach) (value : Word) : Mach := m.wr Reg.GLB_LOCK (m.rd Reg.GLB_LOCK ||| (value &&& 7))

theorem ofNat_or_and_seven (a value : Word) : BitVec.ofNat 32 (a.toNat ||| (value.toNat &&& 7)) = a ||| (value &&& 7) :=
  BitVec.eq_of_toNat_eq (by simp)

section
variable {m : Mach} {value : Word}

theorem lockWrite_open (h : (m.locked value).flag Reg.GLB_LOCK 1 = false) : m.lockWrite value.toNat = m.locked value := by
  unfold Mach.locked at h ⊢
  simp only [Mach.lockWrite, ofNat_or_and_seven, h, Bool.false_eq_true, if_false]

/-- With INJ locked, injection is off and nothing stays armed. -/
theorem lockWrite_inj (h : (m.locked value).flag Reg.GLB_LOCK 1 = true) :
    let m1 := m.locked value
    let m2 := ((m1.setFlag Reg.FLT_CTL 29 false).setFlag Reg.FLT_CTL 28 false).setFlag Reg.TRL_FI_EN 31 false
    m.lockWrite value.toNat = { m2 with flt := { m2.flt with injections := [] } } := by
  unfold Mach.locked at h ⊢
  simp only [Mach.lockWrite, ofNat_or_and_seven, h, if_true]

end

/-! ### Faults of the board (18 R462, R469) -/

/-- Held in reset or without power: no board fault enters the collector. -/
def Mach.offBoard (m : Mach) : Prop := m.boot.resetN = true ∨ m.boot.warmN = true ∨ m.pwr.lost = true

theorem offBoard_iff (m : Mach) : (m.boot.resetN || m.boot.warmN || m.pwr.lost) = true ↔ m.offBoard := by
  simp only [Mach.offBoard, Bool.or_eq_true, or_assoc]

theorem hardFault_held {m : Mach} (h : m.offBoard) (g : Nat) : m.hardFault g = m := by
  rw [Mach.hardFault, if_pos ((offBoard_iff m).mpr h)]

theorem hardFault_raises {m : Mach} (h : ¬m.offBoard) (g : Nat) :
    m.hardFault g = Mach.raisePin { m with free := m.free + 1 } g 4 0 (Config.freeValue m.free % 2 ^ 16) := by
  rw [Mach.hardFault, if_neg (mt (offBoard_iff m).mp h), draw_fst, draw_snd]

section
variable {s : State}

theorem exec_pllLockLoss_early (h : s.mach.stage < 2) : exec .pllLockLoss s = .next s := by
  show execPllLockLoss s = _
  rw [execPllLockLoss, runM_eq, if_neg (Nat.not_le.mpr h)]

theorem exec_pllLockLoss (h : 2 ≤ s.mach.stage) : exec .pllLockLoss s = .next { s with mach := s.mach.hardFault 34 } := by
  show execPllLockLoss s = _
  rw [execPllLockLoss, runM_eq, if_pos h]

theorem exec_railOutOfRegulation (x : Byte) :
    exec (.railOutOfRegulation x) s = .next { s with mach := s.mach.hardFault 32 } := rfl

theorem exec_d2dLinkFault (x : Byte) : exec (.d2dLinkFault x) s = .next { s with mach := s.mach.hardFault 31 } := rfl

/-! ### PMBus (23 R565) -/

theorem exec_pmbusCommand (code : Byte) : exec (.pmbusCommand code) s = .next { s with
    mach := s.mach.emit (.pmbus (if s.mach.boot.resetN then none else s.mach.pmbus code.toNat)) } := rfl

theorem exec_pmbusCommand_reset (h : s.mach.boot.resetN = true) (code : Byte) :
    exec (.pmbusCommand code) s = .next { s with mach := s.mach.emit (.pmbus none) } := by
  rw [exec_pmbusCommand, h, if_pos rfl]

theorem exec_pmbusCommand_out (h : s.mach.boot.resetN = false) (code : Byte) :
    exec (.pmbusCommand code) s = .next { s with mach := s.mach.emit (.pmbus (s.mach.pmbus code.toNat)) } := by
  rw [exec_pmbusCommand, h, if_neg Bool.false_ne_true]

end

/-- The codes that 23 R565 gives. -/
def pmbusCodes : List Byte := [0x79, 0x88, 0x89, 0x8D, 0x8E, 0x97, 0x98]

theorem pmbus_other (m : Mach) {code : Byte} (h : code ∉ pmbusCodes) : m.pmbus code.toNat = none := by
  simp only [pmbusCodes, List.mem_cons, List.not_mem_nil, or_false, not_or, ← BitVec.toNat_inj, BitVec.reduceToNat] at h
  obtain ⟨h79, h88, h89, h8D, h8E, h97, h98⟩ := h
  rw [Mach.pmbus, if_neg h79, if_neg h88, if_neg h89, if_neg h8D, if_neg h8E, if_neg h97, if_neg h98]

/-! ### The test access port (23 R566) -/

/-- A number of the shape that IDCODE has. Comparing IDCODE's own expression with itself makes the kernel count through its
literals; a constant of the same shape unfolds at once beside it. -/
def codeOf (base version b e : Nat) : Nat := base + version * b ^ e

theorem codeOf_eq (base version b e : Nat) : codeOf base version b e = base + version * b ^ e := rfl

theorem idcode_eq_codeOf : idcode = codeOf 0x05120DAB Config.stepping.val 2 28 := rfl

theorem idcode_eq : idcode = 0x05120DAB + Config.stepping.val * 2 ^ 28 :=
  idcode_eq_codeOf.trans (codeOf_eq _ _ _ _)

section
variable {s : State} (data : BitVec 66)

theorem exec_tap_preload : exec (.tapInstruction .preload data) s = .next { s with mach := { s.mach with tap := data } } := by
  show State.runM s (fun _ m => { m with tap := BitVec.ofNat 66 data.toNat }) = _
  rw [runM_eq, BitVec.ofNat_toNat, BitVec.setWidth_eq]

theorem exec_tap_test (h : s.mach.flag Reg.GLB_LOCK 2 = true) (i) : exec (.tapInstruction (.test i) data) s = .next s := by
  show (if s.mach.flag Reg.GLB_LOCK 2 then _ else _) = _
  rw [if_pos h]

theorem exec_tap_bypass : exec (.tapInstruction .bypass data) s = .next { s with
    mach := if s.mach.boot.resetN then s.mach else s.mach.emit (.tap .bypass (data.toNat * 2 % 2 ^ 66)) } := rfl

theorem exec_tap_idcode : exec (.tapInstruction .idcode data) s = .next { s with
    mach := if s.mach.boot.resetN then s.mach else s.mach.emit (.tap .idcode idcode) } := rfl

theorem exec_tap_sample :
    let m1 : Mach := { s.mach with free := s.mach.free + 1 }
    exec (.tapInstruction .sample data) s = .next { s with
      mach := if s.mach.boot.resetN then m1 else m1.emit (.tap .sample (Config.freeValue s.mach.free % 2 ^ 66)) } := rfl

theorem exec_tap_extest : exec (.tapInstruction .extest data) s = .next { s with
    mach := if s.mach.boot.resetN then { s.mach.emit (.tap .extest s.mach.tap.toNat) with tap := data } else s.mach } := by
  show State.runM s (fun _ m => if m.boot.resetN then
    { m.emit (.tap .extest m.tap.toNat) with tap := BitVec.ofNat 66 data.toNat } else m) = _
  rw [runM_eq, BitVec.ofNat_toNat, BitVec.setWidth_eq]

end

/-- Settles O54, block by block. -/
theorem locksWindowsBoardFaultsAndManagementBuses : Obligations.LocksWindowsBoardFaultsAndManagementBuses := by
  unfold Obligations.LocksWindowsBoardFaultsAndManagementBuses
  refine ⟨fun s value hw => ⟨fun hv => ⟨fun h => ?_, fun h => ?_⟩, fun hv => ⟨fun h => ?_, fun h => ?_⟩⟩,
    fun s value hw c hc => ⟨fun h => ?_, fun h => ?_⟩,
    fun s => ⟨exec_pllLockLoss_early, fun h x => ⟨?_, ?_, ?_⟩, fun h x => ?_⟩,
    fun s => ⟨exec_pmbusCommand_reset, fun hr => ⟨exec_pmbusCommand_out hr _, exec_pmbusCommand_out hr _,
      exec_pmbusCommand_out hr _, exec_pmbusCommand_out hr _, exec_pmbusCommand_out hr _, exec_pmbusCommand_out hr _,
      exec_pmbusCommand_out hr _, fun code hc => ?_⟩⟩,
    fun s data => ⟨exec_tap_preload data, fun i h => exec_tap_test data h i, fun hr => ?_, fun hr => ?_⟩⟩
  · rw [exec_glbWinValid hw, winCtl_good hv h]
  · rw [exec_glbWinValid hw, winCtl_bad hv h]
  · rw [exec_glbWinValid hw, winCtl_busy hv h]
  · rw [exec_glbWinValid hw, winCtl_clears hv h]
  · rw [exec_lock hw value c hc, lockWrite_open h, Mach.locked]
  · rw [exec_lock hw value c hc, lockWrite_inj h, Mach.locked]
  · rcases Nat.lt_or_ge s.mach.stage 2 with h2 | h2
    · exact exec_pllLockLoss_early h2
    · rw [exec_pllLockLoss h2, hardFault_held h]
  · rw [exec_railOutOfRegulation, hardFault_held h]
  · rw [exec_d2dLinkFault, hardFault_held h]
  · refine ⟨Config.freeValue s.mach.free % 2 ^ 16, Nat.mod_lt _ (by decide), fun h2 => ?_, ?_, ?_⟩
    · rw [exec_pllLockLoss h2, hardFault_raises h]
    · rw [exec_railOutOfRegulation, hardFault_raises h]
    · rw [exec_d2dLinkFault, hardFault_raises h]
  · rw [exec_pmbusCommand_out hr, pmbus_other s.mach hc]
  · refine ⟨?_, ?_, ?_, ?_⟩
    · rw [exec_tap_idcode, if_pos hr]
    · rw [exec_tap_bypass, if_pos hr]
    · rw [exec_tap_sample, if_pos hr]
    · rw [exec_tap_extest, if_pos hr]
  · have hr' : ¬s.mach.boot.resetN = true := Bool.eq_false_iff.mp hr
    refine ⟨?_, ?_, ?_, Config.freeValue s.mach.free % 2 ^ 66, Nat.mod_lt _ (by decide), ?_⟩
    · rw [exec_tap_idcode, if_neg hr', idcode_eq]
    · rw [exec_tap_bypass, if_neg hr']
    · rw [exec_tap_extest, if_neg hr']
    · rw [exec_tap_sample, if_neg hr']

end Sys2Proof.Machine

/-! PROOFS. Performance levels: the effective level, the caps with what moves them, and the steps of a change (21 R526 to R529,
R540, R541). -/
namespace Sys2Proof.Machine

/-! ### The effective level (21 R526) -/

section
variable (m : Mach) {d : Nat}

theorem effLevel_hub (h : 4 ≤ d) :
    m.effLevel d = max (m.reqLevel d) (max (m.thermalCap d) (max m.pwr.power m.brakeCap)) := by
  rw [Mach.effLevel, if_neg (Nat.not_lt.mpr h)]

theorem effLevel_port (h : d < 4) :
    m.effLevel d = max (m.reqLevel d) (max (m.thermalCap d) (if m.pwr.power = 5 then 1 else 0)) := by
  rw [Mach.effLevel, if_pos h]
  by_cases h5 : m.pwr.power = 5 <;> simp [h5, b2n]

end

/-! ### The request, the brake and the trip (21 R527, R528) -/

section
variable {s : State}

theorem exec_pwrLevelReq (h : Writable s Reg.PWR_LEVEL_REQ) (value : Word) : exec (.pwrLevelReq value) s = .next { s with
    mach := (s.mach.writeRw Reg.PWR_LEVEL_REQ 0xFCF value.toNat).settleLevels } := by
  show execPwrLevelReq value s = _
  rw [execPwrLevelReq, runM_eq, regCmd_eq h]

/-- The brake cap on or off. -/
def Mach.braked (m : Mach) (b : Bool) : Mach := { m with pwr := { m.pwr with brake := b } }

/-- Levels follow their limits: the module is awake and past stage B0. -/
def Mach.levelsLive (m : Mach) : Prop := m.awake = true ∧ 1 ≤ m.stage

theorem levelsLive_iff (m : Mach) : (m.awake && decide (1 ≤ m.stage)) = true ↔ m.levelsLive := by
  simp only [Mach.levelsLive, Bool.and_eq_true, decide_eq_true_eq]

theorem exec_brakeAssert_again (h : s.mach.pwr.brake = true) : exec .brakeAssert s = .next s := by
  show execBrakeAssert s = _
  rw [execBrakeAssert, runM_eq, if_pos h]

section
variable (h : s.mach.pwr.brake = false)
include h

theorem exec_brakeAssert_live (hl : s.mach.levelsLive) : exec .brakeAssert s = .next { s with
    mach := ((s.mach.braked true).countWrap Reg.DGT_TEV_THROTTLE).settleLevels } := by
  show execBrakeAssert s = _
  rw [execBrakeAssert, runM_eq, if_neg (Bool.eq_false_iff.mp h)]
  simp only [(levelsLive_iff _).mpr hl, if_true]
  rfl

theorem exec_brakeAssert_off (hl : ¬s.mach.levelsLive) : exec .brakeAssert s = .next { s with mach := s.mach.braked true } := by
  show execBrakeAssert s = _
  rw [execBrakeAssert, runM_eq, if_neg (Bool.eq_false_iff.mp h)]
  simp only [mt (levelsLive_iff s.mach).mp hl]
  rfl

end

theorem exec_brakeRelease_live (hl : s.mach.levelsLive) :
    exec .brakeRelease s = .next { s with mach := (s.mach.braked false).settleLevels } := by
  show execBrakeRelease s = _
  simp only [execBrakeRelease, runM_eq, (levelsLive_iff _).mpr hl, if_true]
  rfl

theorem exec_brakeRelease_off (hl : ¬s.mach.levelsLive) :
    exec .brakeRelease s = .next { s with mach := s.mach.braked false } := by
  show execBrakeRelease s = _
  simp only [execBrakeRelease, runM_eq, mt (levelsLive_iff s.mach).mp hl]
  rfl

end

/-! ### Readings of the sensors (21 R528, R540) -/

/-- A die's thermal cap is set, and the levels follow it. -/
def Mach.thermalSet (m : Mach) (d n : Nat) : Mach :=
  Mach.settleLevels { m with pwr := { m.pwr with thermal := modNth (fun _ => n) d m.pwr.thermal } }

/-- Either reset pin is asserted. -/
def Mach.pinsHold (m : Mach) : Prop := m.boot.resetN = true ∨ m.boot.warmN = true

theorem pinsHold_iff (m : Mach) : (m.boot.resetN || m.boot.warmN) = true ↔ m.pinsHold := by
  simp only [Mach.pinsHold, Bool.or_eq_true]

section
variable (m : Mach) (d : Nat) {was now : Int}

theorem thermalMove_keeps (h1 : 100 ≤ now) (h2 : now ≤ 105) : m.thermalMove d was now = m.thermalSet d (m.thermalCap d) := by
  simp only [Mach.thermalMove, Int.not_lt.mpr h2, Int.not_lt.mpr h1, if_false]
  rfl

theorem thermalMove_rises (h : now < 100) : m.thermalMove d was now = m.thermalSet d (m.thermalCap d - 1) := by
  have h2 : ¬105 < now := by omega
  simp only [Mach.thermalMove, h2, h, if_true, if_false]
  rfl

theorem thermalMove_falls (h : 105 < now) : m.thermalMove d was now =
    m.thermalSet d (min (if d < 4 then 1 else 5) ((if 105 < was then m.thermalCap d else m.effLevel d) + 1)) := by
  simp only [Mach.thermalMove, h, if_true]
  rfl

end

section
variable {s : State} {sensor : BitVec 3} {temp : Byte}

theorem exec_thermalCap_held (h : s.mach.pinsHold) : exec (.thermalCap sensor temp) s = .next s := by
  show execThermalCap sensor temp s = _
  rw [execThermalCap, runM_eq, if_pos ((pinsHold_iff _).mpr h)]

section
variable (h : ¬s.mach.pinsHold)
include h

theorem exec_thermalCap_notDie (hd : 6 ≤ sensor.toNat) :
    exec (.thermalCap sensor temp) s = .next { s with mach := s.mach.setTemp sensor.toNat temp } := by
  show execThermalCap sensor temp s = _
  rw [execThermalCap, runM_eq, if_neg (mt (pinsHold_iff _).mp h)]
  simp only [Nat.not_lt.mpr hd, decide_false, Bool.false_and, Bool.false_eq_true, if_false]

variable (hd : sensor.toNat < 6) (ha : (s.mach.setTemp sensor.toNat temp).awake = true)
include hd ha

theorem exec_thermalCap_die :
    let m2 := (s.mach.setTemp sensor.toNat temp).thermalMove sensor.toNat (s.mach.temp sensor.toNat) temp.toInt
    exec (.thermalCap sensor temp) s = .next { s with
      mach := if 115 < temp.toInt then m2.raisePin 33 4 0 (0x50 + sensor.toNat / 4 * 4) else m2 } := by
  show execThermalCap sensor temp s = _
  rw [execThermalCap, runM_eq, if_neg (mt (pinsHold_iff _).mp h)]
  simp only [hd, ha, decide_true, Bool.true_and, if_true, decide_eq_true_eq]

end

/-- DETAIL of a die that is too hot names its kind. -/
theorem hotDetail_eq {d : Nat} (h : d < 6) : 0x50 + d / 4 * 4 = if d < 4 then 0x50 else 0x54 := by
  split <;> omega

end

/-! ### Samples of input power (21 R528) -/

theorem exec_powerCap {s : State} (hr : s.mach.boot.resetN = false) (hw : s.mach.boot.warmN = false) (watts vin : BitVec 16) :
    let m1 := (s.mach.setFld Reg.PWR_VIN 31 16 watts.toNat).setFld Reg.PWR_VIN 15 0 vin.toNat
    let l := s.mach.pwr.samples ++ [watts.toNat]
    let m2 : Mach := { m1 with pwr := { m1.pwr with samples := l.drop (l.length - 8) } }
    exec (.powerCap watts vin) s = .next { s with mach := if m2.awake then m2.powerMove watts.toNat else m2 } := by
  have hno : (s.mach.boot.resetN || s.mach.boot.warmN) = false := by rw [hr, hw, Bool.or_self]
  show execPowerCap watts vin s = _
  rw [execPowerCap, runM_eq, if_neg (Bool.eq_false_iff.mp hno)]

/-- The runs of samples above the cap and below 95 % of it. -/
def Mach.sampled (m : Mach) (a b : Nat) : Mach := { m with pwr := { m.pwr with above := a, below := b } }

/-- The power cap is set, and the levels follow it. -/
def Mach.powerSet (m : Mach) (n : Nat) : Mach := Mach.settleLevels { m with pwr := { m.pwr with power := n } }

section
variable {m : Mach} {w : Nat}

theorem powerMove_between (h1 : 95 * m.capWatts ≤ 100 * w) (h2 : w ≤ m.capWatts) : m.powerMove w = m.sampled 0 0 := by
  simp only [Mach.powerMove, Nat.not_lt.mpr h1, Nat.not_lt.mpr h2, decide_false, Bool.false_and, Bool.false_eq_true, if_false]
  rfl

section
variable (h : m.capWatts < w)
include h

theorem powerMove_above_waits (hn : m.pwr.above % 10 ≠ 0) : m.powerMove w = m.sampled (m.pwr.above + 1) 0 := by
  have hu : ¬100 * w < 95 * m.capWatts := by omega
  simp only [Mach.powerMove, h, hu, hn, decide_true, decide_false, Bool.true_and, Bool.false_and, Bool.false_eq_true, if_true, if_false]
  rfl

variable (hn : m.pwr.above % 10 = 0)
include hn

theorem powerMove_above_misses (h5 : m.pwr.power = 5) :
    m.powerMove w = (m.sampled (m.pwr.above + 1) 0).count Reg.PWR_CAP_MISS_CNT := by
  have hu : ¬100 * w < 95 * m.capWatts := by omega
  simp only [Mach.powerMove, h, hu, hn, h5, decide_true, Mach.sampled, Bool.and_self, decide_false, Bool.false_eq_true, if_true, if_false]

theorem powerMove_above_lowers (h5 : m.pwr.power ≠ 5) : m.powerMove w =
    (m.sampled (m.pwr.above + 1) 0).powerSet (min 5 (max m.pwr.power (min (m.effLevel 4) (m.effLevel 5)) + 1)) := by
  have hu : ¬100 * w < 95 * m.capWatts := by omega
  simp only [Mach.powerMove, h, hu, hn, h5, decide_true, decide_false, Bool.and_self, Bool.false_eq_true, if_true, if_false]
  rfl

end

section
variable (h : 100 * w < 95 * m.capWatts)
include h

theorem powerMove_below_waits (hn : (m.pwr.below + 1) % 100 ≠ 0) : m.powerMove w = m.sampled 0 (m.pwr.below + 1) := by
  have he : ¬m.capWatts < w := by omega
  simp only [Mach.powerMove, h, he, hn, decide_true, decide_false, Bool.true_and, Bool.false_and, Bool.false_eq_true, if_true, if_false]
  rfl

theorem powerMove_below_raises (hn : (m.pwr.below + 1) % 100 = 0) :
    m.powerMove w = (m.sampled 0 (m.pwr.below + 1)).powerSet (m.pwr.power - 1) := by
  have he : ¬m.capWatts < w := by omega
  simp only [Mach.powerMove, h, he, hn, decide_true, decide_false, Bool.true_and, Bool.false_and, Bool.false_eq_true, if_true, if_false]
  rfl

end
end

/-! ### Steps of a change (21 R527) -/

theorem exec_levelStep_notDie {s : State} {die : BitVec 3} (h : 6 ≤ die.toNat) : exec (.levelStep die) s = .next s := by
  show execLevelStep die s = _
  simp only [execLevelStep, runM_eq, Nat.not_lt.mpr h, decide_false, Bool.and_false, Bool.false_eq_true, if_false]

theorem exec_levelStep {s : State} (ha : s.mach.awake = true) {die : BitVec 3} (h : die.toNat < 6) :
    exec (.levelStep die) s = .next { s with mach := s.mach.levelStep die.toNat } := by
  show execLevelStep die s = _
  simp only [execLevelStep, runM_eq, ha, h, decide_true, Bool.and_self, if_true]

section
variable (m : Mach) (d : Nat)

/-- A die's voltage goes to its effective level. -/
def Mach.ramped : Mach := { m with pwr := { m.pwr with volt := modNth (fun _ => m.effLevel d) d m.pwr.volt } }

/-- A die's clocks go the next of the three steps, the last of which switches them to its effective level. -/
def Mach.clockStep : Mach :=
  let step := m.pwr.step.getD d 0
  if step < 2 then { m with pwr := { m.pwr with step := modNth (fun _ => step + 1) d m.pwr.step } }
  else { m with pwr := { m.pwr with
    step := modNth (fun _ => 0) d m.pwr.step
    run := modNth (fun _ => m.effLevel d) d m.pwr.run } }

variable {m d}

section
variable (hr : m.pwr.run.getD d 0 = m.effLevel d) (hs : m.pwr.step.getD d 0 = 0)
include hr hs

theorem levelStep_done (hv : m.pwr.volt.getD d 0 = m.effLevel d) : m.levelStep d = m.capEvents := by
  simp only [Mach.levelStep, hr, hs, hv, decide_true, Bool.and_self, if_true]

theorem levelStep_volts (hv : m.pwr.volt.getD d 0 ≠ m.effLevel d) : m.levelStep d = (m.ramped d).capEvents := by
  simp only [Mach.levelStep, hr, hs, hv, decide_true, Bool.and_self, if_true, if_false]
  rfl

end

theorem levelStep_voltsFirst (hs : m.pwr.step.getD d 0 = 0) (hr : m.effLevel d < m.pwr.run.getD d 0)
    (hv : m.effLevel d < m.pwr.volt.getD d 0) : m.levelStep d = (m.ramped d).capEvents := by
  simp only [Mach.levelStep, hs, hr, hv, hr.ne', decide_true, decide_false, Bool.and_self, Bool.false_and, Bool.false_eq_true, if_true,
    if_false]
  rfl

theorem levelStep_clocks (h : m.pwr.run.getD d 0 ≠ m.effLevel d ∨ m.pwr.step.getD d 0 ≠ 0)
    (hf : ¬(m.pwr.step.getD d 0 = 0 ∧ m.effLevel d < m.pwr.run.getD d 0 ∧ m.effLevel d < m.pwr.volt.getD d 0)) :
    m.levelStep d = (m.clockStep d).capEvents := by
  have h1 : (decide (m.pwr.run.getD d 0 = m.effLevel d) && decide (m.pwr.step.getD d 0 = 0)) = false := by
    rw [← Bool.decide_and, decide_eq_false_iff_not, not_and_or]
    exact h
  have h2 : (decide (m.pwr.step.getD d 0 = 0) && decide (m.effLevel d < m.pwr.run.getD d 0) &&
      decide (m.effLevel d < m.pwr.volt.getD d 0)) = false := by
    rw [← Bool.decide_and, ← Bool.decide_and, decide_eq_false_iff_not, and_assoc]
    exact hf
  simp only [Mach.levelStep, h1, h2, Bool.false_eq_true, if_false]
  rfl

end

/-- Settles O52, limit by limit. -/
theorem levelsFollowTheLowestLimit : Obligations.LevelsFollowTheLowestLimit := by
  unfold Obligations.LevelsFollowTheLowestLimit
  refine ⟨fun m d => ⟨fun h => ?_, fun h => ?_⟩, fun s value hw => exec_pwrLevelReq hw value,
    fun s => ⟨exec_brakeAssert_again, fun hb => ⟨exec_brakeAssert_live hb, exec_brakeAssert_off hb⟩, exec_brakeRelease_live,
      exec_brakeRelease_off, rfl⟩,
    fun s sensor temp => ⟨exec_thermalCap_held, exec_thermalCap_notDie, fun h hd ha => ?_⟩,
    fun s watts vin hr hw => exec_powerCap hr hw watts vin,
    fun m w => ⟨powerMove_between, powerMove_above_waits, powerMove_above_misses, powerMove_above_lowers, powerMove_below_waits,
      powerMove_below_raises⟩,
    fun s die ha => ⟨exec_levelStep_notDie, fun hd => ?_⟩⟩
  · rw [effLevel_hub m h, Mach.brakeCap]
    omega
  · rw [effLevel_port m h]
    by_cases h5 : m.pwr.power = 5
    · rw [if_pos h5]
      omega
    · rw [if_neg h5]
      omega
  · have hgo := exec_thermalCap_die h hd ha
    refine ⟨fun h1 h2 => ?_, fun h1 => ?_, fun h1 => ⟨fun h2 => ?_, fun h2 => ?_⟩⟩
    · rw [hgo, if_neg (by omega), thermalMove_keeps _ _ h1 h2]
      rfl
    · rw [hgo, if_neg (by omega), thermalMove_rises _ _ h1]
      rfl
    · rw [hgo, if_neg (by omega), thermalMove_falls _ _ h1]
      rfl
    · rw [hgo, if_pos h2, thermalMove_falls _ _ h1, hotDetail_eq hd]
      rfl
  · refine ⟨fun hr hs hv => ?_, fun hr hs hv => ?_, fun hs hr hv => ?_, fun h hf => ⟨fun h2 => ?_, fun h2 => ?_⟩⟩
    · rw [exec_levelStep ha hd, levelStep_done hr hs hv]
    · rw [exec_levelStep ha hd, levelStep_volts hr hs hv]
      rfl
    · rw [exec_levelStep ha hd, levelStep_voltsFirst hs hr hv]
      rfl
    · rw [exec_levelStep ha hd, levelStep_clocks h hf, Mach.clockStep, if_pos h2]
    · rw [exec_levelStep ha hd, levelStep_clocks h hf, Mach.clockStep, if_neg (Nat.not_lt.mpr h2)]

end Sys2Proof.Machine

/-! PROOFS. Engines, control: how an instruction of a ready core ends, and LOOP, JMP and BAR mode 0 (05 R127, R130, R141). -/
namespace Sys2Proof.Machine

section
variable {s : State} {core : BitVec 5} {p : Start} {opc mode : Nat} {i : EngOp}

/-- A check of the address passes when the bytes lie in the program's window. -/
theorem scrOk_of_inScratch {a n align : Nat} (k : Nat) (c : Core) (h : InScratch p a n align) :
    Eng.scrOk ⟨k, p, c, i⟩ a n align = true := by
  obtain ⟨halign, hbase, hlimit, hend⟩ := h
  simp only [Eng.scrOk, halign, hbase, hlimit, hend, BEq.rfl, decide_true, Bool.and_self]

/-- A core changed is the core read. -/
theorem core_modCore {m : Mach} {k : Nat} {f : Core → Core} (hf : (f (m.core k)).core = k) :
    (m.modCore k f).core k = f (m.core k) := by
  rw [Mach.modCore, core_setCore, if_pos hf]

theorem groupOk_of_le {r n : Nat} (h : r + n ≤ 32) : groupOk r n = true := decide_eq_true h

section
variable (h : EngineReady s core.toNat p) (hl : engLegal opc mode i = true) {unit : Nat} {body : Eng → Mach → Store → EngRes}
  {m : Mach} {st : Store}
include h hl

/-- An instruction of a ready core that jumps goes to its target. -/
theorem engine_jump {pc : Nat} (hb : body (engOf s core.toNat p i) s.mach s.store = .jump m st pc) :
    s.engine core opc mode i .none unit body = .next (s.toPc core.toNat m st pc) := by
  rw [engine_ready h hl]
  exact congrArg (fun r => Host.Outcome.next (let q := Mach.engEnd _ _ r; { s with mach := q.1, store := q.2 })) hb

/-- An instruction of a ready core that keeps its place leaves the pc alone. -/
theorem engine_stay (hb : body (engOf s core.toNat p i) s.mach s.store = .stay m st) :
    s.engine core opc mode i .none unit body = .next { s with mach := m, store := st } := by
  rw [engine_ready h hl]
  exact congrArg (fun r => Host.Outcome.next (let q := Mach.engEnd _ _ r; { s with mach := q.1, store := q.2 })) hb

/-- An instruction of a ready core that traps leaves what the trap makes of the core. -/
theorem engine_trap {kind : Nat} {status : Status} {detail : Nat}
    (hb : body (engOf s core.toNat p i) s.mach s.store = .trap m st kind status detail) :
    s.engine core opc mode i .none unit body = .next { s with
      mach := m.coreTrap st core.toNat kind status (engWord opc mode i) detail, store := st } := by
  rw [engine_ready h hl]
  exact congrArg (fun r => Host.Outcome.next (let q := Mach.engEnd _ _ r; { s with mach := q.1, store := q.2 })) hb

end

/-! ### LOOP, JMP and BAR mode 0 -/

section
variable (h : EngineReady s core.toNat p)
include h

theorem exec_loopDec (hl : engLegal 0x03 0 i = true) :
    let x := s.store.x core.toNat i.a.toNat
    exec (.loopDec core i .none) s = .next
      (if i.a = 0 then s.advance core.toNat s.mach s.store
       else if x = 1 then s.advance core.toNat s.mach (s.store.setX core.toNat i.a.toNat 0)
       else s.toPc core.toNat s.mach (s.store.setX core.toNat i.a.toNat (x - 1)) (bits i.imm.toNat 14 0)) := by
  intro x
  show execLoopDec core i .none s = _
  split
  next ha => exact engine_done h hl (by simp [ha])
  next ha =>
    split
    next hx => exact engine_done h hl (by simp [show s.store.x core.toNat i.a.toNat = 1 from hx])
    next hx =>
      have hne : s.store.x core.toNat i.a.toNat - 1 ≠ 0 := sub_ne_zero.mpr hx
      exact engine_jump h hl (if_neg fun hc => ((Bool.or_eq_true _ _).mp hc).elim (hne <| of_decide_eq_true ·)
        (ha <| of_decide_eq_true ·))

theorem exec_jmp {mode : BitVec 4} (hl : engLegal 0x04 mode.toNat i = true) :
    exec (.jmp core mode i .none) s = .next
      (if mode = 0 ∨ (mode = 1 ∧ s.store.x core.toNat i.a.toNat = 0) ∨ (mode = 2 ∧ s.store.x core.toNat i.a.toNat ≠ 0)
       then s.toPc core.toNat s.mach s.store (bits i.imm.toNat 14 0) else s.advance core.toNat s.mach s.store) := by
  show execJmp core mode i .none s = _
  split
  next hgo => exact engine_jump h hl (if_pos (by simpa [engOf, or_assoc] using hgo))
  next hgo => exact engine_done h hl (if_neg (by simpa [or_assoc] using hgo))

theorem exec_barCore (hl : engLegal 0x02 0 i = true) :
    exec (.barCore core i .none) s = .next (s.advance core.toNat s.mach s.store) := engine_done h hl rfl

end

end

/-- JMP modes 1 and 2 use the same fields (05 R130). -/
theorem engLegal_jmp_two {i : EngOp} (h : engLegal 0x04 1 i = true) : engLegal 0x04 2 i = true := h

/-- Settles O5, by instruction and mode. -/
theorem controlInstructionsMoveThePc : Obligations.ControlInstructionsMoveThePc := by
  unfold Obligations.ControlInstructionsMoveThePc
  refine fun s core p h i => ⟨fun hl => exec_loopDec h hl, fun hl => ?_, fun hl => ⟨?_, ?_⟩, fun hl => exec_barCore h hl⟩
  · rw [exec_jmp h (mode := 0) hl, if_pos (Or.inl rfl)]
  · rw [exec_jmp h (mode := 1) hl]
    simp
  · rw [exec_jmp h (mode := 2) (engLegal_jmp_two hl)]
    simp

end Sys2Proof.Machine

/-! PROOFS. Engines, waiting: WAIT, BAR mode 1 and their releases (05 R130, R142, R143; 06 R164, R165; 09 R247). -/
namespace Sys2Proof.Machine

/-- Core `k` reports what has ended under a tag: its wait ends, and the ends that a WAIT on the tag reports leave. -/
def Mach.dmaCleared (m : Mach) (k tag : Nat) : Mach :=
  m.modCore k fun y => { y with wait := none, dmaEnds := y.dmaEnds.filter fun e => !m.endMine (m.core k) tag e }

/-- The first failed transfer that a WAIT on a tag reports. -/
def Mach.dmaFailed (m : Mach) (k tag : Nat) : Option DmaEnd :=
  (m.core k).dmaEnds.find? fun e => m.endMine (m.core k) tag e && e.status != .ok

section
variable {m : Mach} {k tag : Nat} (st : Store)

theorem dmaReport_done (h : m.dmaFailed k tag = none) : m.dmaReport st (m.core k) tag = .done (m.dmaCleared k tag) st := by
  rw [Mach.dmaFailed] at h
  rw [Mach.dmaReport, h, Mach.dmaCleared, core_core]

theorem dmaReport_failed {e : DmaEnd} (h : m.dmaFailed k tag = some e) :
    m.dmaReport st (m.core k) tag =
      if e.status = .badPointer then .trap (m.dmaCleared k tag) st 3 .badPointer e.addr
      else .trap (m.dmaCleared k tag) st 6 .uncorrectable tag := by
  rw [Mach.dmaFailed] at h
  rw [Mach.dmaReport, h, Mach.dmaCleared, core_core]
  rfl

end

/-- Core `k` waits from now on. -/
def State.hold (s : State) (k : Nat) (m : Mach) (w : CoreWait) : State :=
  { s with mach := m.modCore k fun c => { c with wait := some w } }

section
variable {s : State} {core : BitVec 5} {p : Start} {i : EngOp} (h : EngineReady s core.toNat p)
include h

section
variable (hl : engLegal 0x01 0 i = true)
include hl

theorem exec_waitOp_ended {status : Status}
    (hs : s.mach.opEnded (bits (s.store.x core.toNat i.a.toNat).toNat 11 0) (bits (s.store.x core.toNat i.a.toNat).toNat 27 12) =
      some status) :
    exec (.waitOp core i .none) s = .next (s.advance core.toNat
      (s.mach.modCore core.toNat fun c => { c with wait := none, status := worst c.status status })
      (s.store.setX core.toNat i.d.toNat (BitVec.ofNat 32 (statusCode status)))) :=
  engine_done h hl (by simp only [hs, Mach.waitOpDone])

theorem exec_waitOp_holds
    (hs : s.mach.opEnded (bits (s.store.x core.toNat i.a.toNat).toNat 11 0) (bits (s.store.x core.toNat i.a.toNat).toNat 27 12) =
      none) :
    exec (.waitOp core i .none) s = .next (s.hold core.toNat s.mach
      (.op (bits (s.store.x core.toNat i.a.toNat).toNat 11 0) (bits (s.store.x core.toNat i.a.toNat).toNat 27 12) i.d.toNat)) :=
  engine_stay h hl (by simp only [engOf, hs])

end

section
variable (hl : engLegal 0x01 1 i = true)
include hl

theorem exec_waitDma_ends
    (hm : (s.mach.core core.toNat).dmas.any (s.mach.dmaMine (s.mach.core core.toNat) (bits i.imm.toNat 7 0)) = false)
    (hf : s.mach.dmaFailed core.toNat (bits i.imm.toNat 7 0) = none) :
    exec (.waitDma core i .none) s =
      .next (s.advance core.toNat (s.mach.dmaCleared core.toNat (bits i.imm.toNat 7 0)) s.store) :=
  engine_done h hl (by simp only [hm, Bool.false_eq_true, if_false, dmaReport_done _ hf])

theorem exec_waitDma_traps {e : DmaEnd}
    (hm : (s.mach.core core.toNat).dmas.any (s.mach.dmaMine (s.mach.core core.toNat) (bits i.imm.toNat 7 0)) = false)
    (hf : s.mach.dmaFailed core.toNat (bits i.imm.toNat 7 0) = some e) :
    let cleared := s.mach.dmaCleared core.toNat (bits i.imm.toNat 7 0)
    exec (.waitDma core i .none) s = .next { s with
      mach := if e.status = .badPointer then cleared.coreTrap s.store core.toNat 3 .badPointer (engWord 0x01 1 i) e.addr
        else cleared.coreTrap s.store core.toNat 6 .uncorrectable (engWord 0x01 1 i) (bits i.imm.toNat 7 0) } := by
  intro cleared
  split
  next hp => exact engine_trap h hl (by
    simp only [engOf, hm, Bool.false_eq_true, if_false, dmaReport_failed _ hf, if_pos hp, cleared])
  next hp => exact engine_trap h hl (by
    simp only [engOf, hm, Bool.false_eq_true, if_false, dmaReport_failed _ hf, if_neg hp, cleared])

theorem exec_waitDma_holds
    (hm : (s.mach.core core.toNat).dmas.any (s.mach.dmaMine (s.mach.core core.toNat) (bits i.imm.toNat 7 0)) = true) :
    let mine := (s.mach.core core.toNat).dmas.filter (s.mach.dmaMine (s.mach.core core.toNat) (bits i.imm.toNat 7 0))
    exec (.waitDma core i .none) s = .next (s.hold core.toNat
      (if mine.any (·.prefetch.isSome) then s.mach.count Reg.LAY_PF_LATE_CNT else s.mach)
      (.dma (bits i.imm.toNat 7 0) (engWord 0x01 1 i))) :=
  engine_stay h hl (by simp only [engOf, hm, if_true, List.any_filter]; rfl)

end

theorem exec_waitTime (hl : engLegal 0x01 2 i = true) :
    exec (.waitTime core i .none) s = .next
      (if s.mach.reached (s.store.x core.toNat i.a.toNat).toNat then s.advance core.toNat s.mach s.store
       else s.hold core.toNat s.mach (.time (s.store.x core.toNat i.a.toNat).toNat)) := by
  split
  next hr => exact engine_done h hl (if_pos hr)
  next hr => exact engine_stay h hl (if_neg hr)

theorem exec_barDie (hl : engLegal 0x02 1 i = true) :
    exec (.barDie core i .none) s =
      .next (s.hold core.toNat s.mach (.barDie (bits i.imm.toNat 19 16) (bits i.imm.toNat 15 0))) :=
  engine_stay h hl rfl

end

/-- Settles O6, mode by mode: a WAIT by whether what it waits for has come. -/
theorem waitsEndOrHoldTheCore : Obligations.WaitsEndOrHoldTheCore := by
  unfold Obligations.WaitsEndOrHoldTheCore
  have none_mine {l : List Dma} {q : Dma → Bool} (hm : l.filter q = []) : l.any q = false := by
    simpa only [List.any_eq_false, List.filter_eq_nil_iff] using hm
  have some_mine {l : List Dma} {q : Dma → Bool} (hm : l.filter q ≠ []) : l.any q = true := by
    rw [← List.length_pos_iff, List.length_filter_pos_iff] at hm
    exact List.any_eq_true.mpr hm
  exact fun s core p h i => ⟨fun hl => ⟨fun status => exec_waitOp_ended h hl, exec_waitOp_holds h hl⟩,
    fun hl => ⟨fun hm => exec_waitDma_ends h hl (none_mine hm), fun e hm => exec_waitDma_traps h hl (none_mine hm),
      fun hm => exec_waitDma_holds h hl (some_mine hm)⟩,
    exec_waitTime h, exec_barDie h⟩

/-! ### WAIT_RELEASE -/

section
variable {s : State} (hr : s.mach.running = true) {core : BitVec 5} {p : Start} (hp : (s.mach.core core.toNat).running = some p)
include hr hp

section
variable {g q d : Nat} (hw : (s.mach.core core.toNat).wait = some (.op g q d))
include hw

theorem exec_waitRelease_op {status : Status} (hs : s.mach.opEnded g q = some status) :
    exec (.waitRelease core) s = .next (s.advance core.toNat
      (s.mach.modCore core.toNat fun c => { c with wait := none, status := worst c.status status })
      (s.store.setX core.toNat d (BitVec.ofNat 32 (statusCode status)))) := by
  show execWaitRelease core s = _
  simp only [execWaitRelease, runMS_eq, hp, hw, hr, hs, Bool.not_true, Bool.false_eq_true, if_false]
  rfl

theorem exec_waitRelease_op_waits (hs : s.mach.opEnded g q = none) : exec (.waitRelease core) s = .next s := by
  show execWaitRelease core s = _
  simp only [execWaitRelease, runMS_eq, hp, hw, hr, hs, Bool.not_true, Bool.false_eq_true, if_false]

end

section
variable {tag w : Nat} (hw : (s.mach.core core.toNat).wait = some (.dma tag w))
include hw

theorem exec_waitRelease_dma_waits
    (hm : (s.mach.core core.toNat).dmas.any (s.mach.dmaMine (s.mach.core core.toNat) tag) = true) :
    exec (.waitRelease core) s = .next s := by
  show execWaitRelease core s = _
  simp only [execWaitRelease, runMS_eq, hp, hw, hr, hm, Bool.not_true, Bool.false_eq_true, if_false, if_true]

variable (hm : (s.mach.core core.toNat).dmas.any (s.mach.dmaMine (s.mach.core core.toNat) tag) = false)
include hm

theorem exec_waitRelease_dma (hf : s.mach.dmaFailed core.toNat tag = none) :
    exec (.waitRelease core) s = .next (s.advance core.toNat (s.mach.dmaCleared core.toNat tag) s.store) := by
  show execWaitRelease core s = _
  simp only [execWaitRelease, runMS_eq, hp, hw, hr, hm, dmaReport_done _ hf, Bool.not_true, Bool.false_eq_true, if_false]
  rfl

theorem exec_waitRelease_dma_traps {e : DmaEnd} (hf : s.mach.dmaFailed core.toNat tag = some e) :
    let cleared := s.mach.dmaCleared core.toNat tag
    exec (.waitRelease core) s = .next { s with
      mach := if e.status = .badPointer then cleared.coreTrap s.store core.toNat 3 .badPointer w e.addr
        else cleared.coreTrap s.store core.toNat 6 .uncorrectable w tag } := by
  show execWaitRelease core s = _
  simp only [execWaitRelease, runMS_eq, hp, hw, hr, hm, dmaReport_failed _ hf, Bool.not_true, Bool.false_eq_true, if_false]
  split <;> rfl

end

theorem exec_waitRelease_time {target : Nat} (hw : (s.mach.core core.toNat).wait = some (.time target)) :
    exec (.waitRelease core) s = .next
      (if s.mach.reached target then
        s.advance core.toNat (s.mach.modCore core.toNat fun c => { c with wait := none }) s.store else s) := by
  show execWaitRelease core s = _
  simp only [execWaitRelease, runMS_eq, hp, hw, hr, Bool.not_true, Bool.false_eq_true, if_false]
  split <;> rfl

end

/-! ### BAR_RELEASE: listed cores go on together -/

section
variable (f : Core → Core)

theorem foldl_setCore_eq (l : List Core) (m : Mach) :
    ∃ cs, l.foldl (fun a c => a.setCore (f c)) m = { m with cores := cs } := by
  induction l generalizing m with
  | nil => exact ⟨m.cores, rfl⟩
  | cons c l ih =>
    obtain ⟨cs, hcs⟩ := ih (m.setCore (f c))
    exact ⟨cs, hcs⟩

variable (hf : ∀ c, (f c).core = c.core)
include hf

/-- A core of which none is changed stays as it is. -/
theorem core_foldl_setCore_other {l : List Core} {k : Nat} (h : ∀ c ∈ l, c.core ≠ k) (m : Mach) :
    (l.foldl (fun a c => a.setCore (f c)) m).core k = m.core k := by
  induction l generalizing m with
  | nil => rfl
  | cons c l ih =>
    rw [List.foldl_cons, ih fun x hx => h x (List.mem_cons_of_mem c hx), core_setCore, hf, if_neg (h c List.mem_cons_self)]

/-- Each of several distinct cores is changed as said. -/
theorem core_foldl_setCore_mem {l : List Core} (hn : (l.map (·.core)).Nodup) {c : Core} (hc : c ∈ l) (m : Mach) :
    (l.foldl (fun a c => a.setCore (f c)) m).core c.core = f c := by
  induction l generalizing m with
  | nil => exact absurd hc List.not_mem_nil
  | cons d l ih =>
    obtain ⟨hd, hl⟩ := List.nodup_cons.mp hn
    rw [List.foldl_cons]
    rcases List.mem_cons.mp hc with rfl | hc
    · rw [core_foldl_setCore_other f hf fun x hx he => hd (List.mem_map.mpr ⟨x, hx, he⟩), core_setCore, hf, if_pos rfl]
    · exact ih hl hc _

end

/-- A listed core of a table that lists no core twice is the one found by its number. -/
theorem core_of_mem {m : Mach} (hn : (m.cores.map (·.core)).Nodup) {c : Core} (hc : c ∈ m.cores) : m.core c.core = c := by
  unfold Mach.core
  cases hf : m.cores.find? fun x => x.core == c.core with
  | none => exact absurd (beq_self_eq_true c.core) (List.find?_eq_none.mp hf c hc)
  | some x => exact List.inj_on_of_nodup_map hn (List.mem_of_find?_eq_some hf) hc (by simpa using List.find?_some hf)

/-- A core that waits is listed. -/
theorem mem_cores_of_wait {m : Mach} {k : Nat} {w : CoreWait} (h : (m.core k).wait = some w) : m.core k ∈ m.cores := by
  unfold Mach.core at h ⊢
  cases hf : m.cores.find? fun x => x.core == k with
  | none => rw [hf] at h; exact absurd h (Option.some_ne_none w).symm
  | some x => exact List.mem_of_find?_eq_some hf

/-- A core of a die waits at a barrier whose masked cores have all arrived or stopped. -/
def Mach.barGoes (m : Mach) (die index : Nat) (c : Core) : Bool :=
  c.core / 16 == die && (match c.wait with
    | some (.barDie i mask) => i == index && m.barMet c i mask
    | _ => false)

theorem barGoes_iff {m : Mach} {die index : Nat} {c : Core} :
    m.barGoes die index c = true ↔
      c.core / 16 = die ∧ ∃ mask, c.wait = some (.barDie index mask) ∧ m.barMet c index mask = true := by
  unfold Mach.barGoes
  rw [Bool.and_eq_true, beq_iff_eq]
  refine and_congr_right fun _ => ?_
  split
  next i mask hw =>
    rw [Bool.and_eq_true, beq_iff_eq]
    constructor
    · rintro ⟨rfl, hm⟩
      exact ⟨mask, hw, hm⟩
    · rintro ⟨mask', hw', hm⟩
      obtain ⟨rfl, rfl⟩ : i = index ∧ mask = mask' := by simpa using hw.symm.trans hw'
      exact ⟨rfl, hm⟩
  next hno => exact ⟨fun hf => absurd hf Bool.false_ne_true, fun ⟨mask, hw, _⟩ => absurd hw (hno index mask)⟩

/-- A core goes on after its BAR. -/
def Core.passBar (c : Core) : Core := { c with wait := none, pc := (c.pc + 1) % 32768 }

theorem exec_barRelease {s : State} (hr : s.mach.running = true) (die : BitVec 1) (index : BitVec 4) :
    exec (.barRelease die index) s = .next { s with
      mach := (s.mach.cores.filter (s.mach.barGoes die.toNat index.toNat)).foldl (fun a c => a.setCore c.passBar) s.mach } := by
  show execBarRelease die index s = _
  simp only [execBarRelease, runM_eq, whenRunning_eq hr]
  rfl

/-- After a release each core that goes on has passed its BAR, and any other is as it was. -/
theorem core_barRelease {m : Mach} (hn : (m.cores.map (·.core)).Nodup) (die index k : Nat) :
    ((m.cores.filter (m.barGoes die index)).foldl (fun a c => a.setCore c.passBar) m).core k =
      if m.barGoes die index (m.core k) then (m.core k).passBar else m.core k := by
  split
  next hgo =>
    obtain ⟨-, mask, hw, -⟩ := barGoes_iff.mp hgo
    have hmem := List.mem_filter.mpr ⟨mem_cores_of_wait hw, hgo⟩
    simpa only [core_core] using
      core_foldl_setCore_mem Core.passBar (fun _ => rfl) ((List.filter_sublist.map _).nodup hn) hmem m
  next hgo =>
    refine core_foldl_setCore_other Core.passBar (fun _ => rfl) (fun c hc he => hgo ?_) m
    obtain ⟨hc, hgoes⟩ := List.mem_filter.mp hc
    rwa [← he, core_of_mem hn hc]

/-- Settles O7: a WAIT by its mode and its condition, a barrier by the cores that have reached it. -/
theorem waitingCoresAreReleased : Obligations.WaitingCoresAreReleased := by
  unfold Obligations.WaitingCoresAreReleased
  refine fun s hr => ⟨fun core p hp => ⟨fun g q d status hw => exec_waitRelease_op hr hp hw,
    fun g q d hw => exec_waitRelease_op_waits hr hp hw, fun tag w hw => ⟨fun hm => ?_, fun hm => ?_, fun e hm => ?_⟩,
    fun target hw => exec_waitRelease_time hr hp hw⟩, fun die index hn => ?_⟩
  · exact exec_waitRelease_dma_waits hr hp hw (List.any_eq_true.mpr hm)
  · exact exec_waitRelease_dma hr hp hw (by simpa using hm)
  · exact exec_waitRelease_dma_traps hr hp hw (by simpa using hm)
  · obtain ⟨cs, hcs⟩ :=
      foldl_setCore_eq Core.passBar (s.mach.cores.filter (s.mach.barGoes die.toNat index.toNat)) s.mach
    refine ⟨cs, by rw [exec_barRelease hr, hcs], fun k => ?_⟩
    have hcore := core_barRelease hn die.toNat index.toNat k
    rw [hcs] at hcore
    refine ⟨fun hgo => ?_, fun hgo => ?_⟩
    · rw [hcore, if_pos (barGoes_iff.mpr hgo)]
      rfl
    · rw [hcore, if_neg (hgo ∘ barGoes_iff.mp)]

end Sys2Proof.Machine

/-! PROOFS. Engines, memory: loads, stores and HBM transfers (05 R125, R129, R130, R141; 17 R454, R455). -/
namespace Sys2Proof.Machine

section
variable (e : Eng) (m : Mach) (st : Store) (bytes : Nat)

/-- A load or store that leaves X[A] to the post-increment ends with it. -/
theorem moved_postInc : e.moved m st bytes false = .done m (postInc e.k e.i bytes st) := by
  simp only [Eng.moved, Eng.postInc, postInc]
  cases bitOf e.i.imm.toNat 23 <;> rfl

/-- A load that writes X[A] itself and asks for the post-increment leaves X[A] a free value (log 26). -/
theorem moved_loaded (hb : bitOf e.i.imm.toNat 23 = true) :
    e.moved m st bytes true =
      .done (m.draw 32).2 (st.setX e.k e.i.a.toNat (BitVec.ofNat 32 (m.draw 32).1)) := by
  simp only [Eng.moved, Eng.postInc, hb, Bool.not_true, Bool.false_eq_true, if_false, if_true]

/-- Without the post-increment it does not matter whether the load wrote X[A]. -/
theorem moved_noPostInc (loaded : Bool) (hb : bitOf e.i.imm.toNat 23 = false) :
    e.moved m st bytes loaded = .done m (postInc e.k e.i bytes st) := by
  simp only [Eng.moved, Eng.postInc, postInc, hb, Bool.not_false, if_true, Bool.false_eq_true, if_false]

end

section
variable {s : State} {core : BitVec 5} {p : Start} {i : EngOp} (h : EngineReady s core.toNat p)
include h

/-! ### TLD modes 0 to 4 -/

/-- Loading vector registers from clean scratch of core `src`. -/
theorem loadV_moves (hd : i.d.toNat + (i.cnt.toNat + 1) ≤ 32) {a : Nat} (ha : (s.store.x core.toNat i.a.toNat).toNat = a)
    (hw : InScratch p a (4096 * (i.cnt.toNat + 1)) 4) {src : Nat} (hc : (s.mach.core src).poisoned = []) :
    (engOf s core.toNat p i).loadV s.mach s.store src = .done s.mach (postInc core.toNat i (4096 * (i.cnt.toNat + 1))
      (s.store.setV core.toNat i.d.toNat 0 (bytesWords (s.store.scr src a (4096 * (i.cnt.toNat + 1)))))) := by
  subst ha
  rw [Eng.loadV]
  simp only [engOf, Eng.n, scrOk_of_inScratch _ _ hw, groupOk_of_le hd, scrBad_clean h.clean.1 hc, moved_postInc, Bool.not_true,
    Bool.false_eq_true, if_false]

/-- A scalar load ends with the post-increment, or with a free X[A] where it wrote X[A] itself. -/
theorem exec_moved {c : Instr} {opc mode : Nat} {body : Eng → Mach → Store → EngRes} {m : Mach} {st : Store} {bytes : Nat}
    (he : exec c s = s.engine core opc mode i .none 0 body) (hl : engLegal opc mode i = true)
    (hb : body (engOf s core.toNat p i) s.mach s.store =
      (engOf s core.toNat p i).moved m st bytes (engOf s core.toNat p i).loadsA) :
    if bitOf i.imm.toNat 23 = true ∧ (engOf s core.toNat p i).loadsA = true then
      ∃ v m', exec c s = .next (s.advance core.toNat m' (st.setX core.toNat i.a.toNat v)) ∧ m' = { m with free := m'.free }
    else exec c s = .next (s.advance core.toNat m (postInc core.toNat i bytes st)) := by
  rw [he]
  split
  next hfree =>
    rw [hfree.2] at hb
    exact ⟨_, _, engine_done h hl (hb.trans (moved_loaded _ m st bytes hfree.1)), rfl⟩
  next hkeep =>
    refine engine_done h hl (hb.trans ?_)
    cases hbit : bitOf i.imm.toNat 23 with
    | false => exact moved_noPostInc _ m st bytes _ hbit
    | true =>
      have hload : (engOf s core.toNat p i).loadsA = false := by simpa [hbit] using hkeep
      rw [hload]
      exact moved_postInc _ m st bytes

section
variable (hd : i.d.toNat + (i.cnt.toNat + 1) ≤ 32)
include hd

theorem exec_tldScratchX (hl : engLegal 0x08 3 i = true)
    (hw : InScratch p (s.store.x core.toNat i.a.toNat).toNat (4 * (i.cnt.toNat + 1)) 4) :
    let n := i.cnt.toNat + 1
    let st := s.store.setXs core.toNat i.d.toNat
      (bytesWords (s.store.scr core.toNat (s.store.x core.toNat i.a.toNat).toNat (4 * n)))
    if bitOf i.imm.toNat 23 = true ∧ (engOf s core.toNat p i).loadsA = true then
      ∃ v m, exec (.tldScratchX core i .none) s = .next (s.advance core.toNat m (st.setX core.toNat i.a.toNat v)) ∧
        m = { s.mach with free := m.free }
    else exec (.tldScratchX core i .none) s = .next (s.advance core.toNat s.mach (postInc core.toNat i (4 * n) st)) := by
  refine exec_moved h (c := .tldScratchX core i .none) rfl hl ?_
  simp only [engOf, Eng.n, scrOk_of_inScratch _ _ hw, groupOk_of_le hd, scrBad_clean h.clean.1 h.linesOk, Bool.not_true,
    Bool.false_eq_true, if_false]

theorem exec_tldSlot (hl : engLegal 0x08 2 i = true) {ws : List Word}
    (hs : ((s.mach.keptOp p.gallery (s.store.x core.toNat i.a.toNat).toNat).bind fun o =>
      o.slotWords (bits i.imm.toNat 15 0) (i.cnt.toNat + 1)) = some ws) :
    exec (.tldSlot core i .none) s = .next (s.advance core.toNat
      ((engOf s core.toNat p i).release s.mach (s.store.x core.toNat i.a.toNat).toNat)
      (postInc core.toNat i (4096 * (i.cnt.toNat + 1)) (s.store.setV core.toNat i.d.toNat 0 ws))) := by
  refine engine_done h hl ?_
  simp only [engOf, Eng.n, hs, groupOk_of_le hd, moved_postInc, Bool.not_true, Bool.false_eq_true, if_false]

theorem exec_tldSlotX (hl : engLegal 0x08 4 i = true) {ws : List Word}
    (hs : ((s.mach.keptOp p.gallery (s.store.x core.toNat i.a.toNat).toNat).bind fun o =>
      o.slotWords (bits i.imm.toNat 15 0 / 1024) ((bits i.imm.toNat 15 0 % 1024 + (i.cnt.toNat + 1) + 1023) / 1024)) = some ws) :
    let m1 := (engOf s core.toNat p i).release s.mach (s.store.x core.toNat i.a.toNat).toNat
    let st := s.store.setXs core.toNat i.d.toNat ((ws.drop (bits i.imm.toNat 15 0 % 1024)).take (i.cnt.toNat + 1))
    if bitOf i.imm.toNat 23 = true ∧ (engOf s core.toNat p i).loadsA = true then
      ∃ v m, exec (.tldSlotX core i .none) s = .next (s.advance core.toNat m (st.setX core.toNat i.a.toNat v)) ∧
        m = { m1 with free := m.free }
    else exec (.tldSlotX core i .none) s =
      .next (s.advance core.toNat m1 (postInc core.toNat i (4 * (i.cnt.toNat + 1)) st)) := by
  refine exec_moved h (c := .tldSlotX core i .none) rfl hl ?_
  simp only [engOf, Eng.n, hs, groupOk_of_le hd, Bool.not_true, Bool.false_eq_true, if_false]

end

end

/-- Settles O8, mode by mode. -/
theorem loadsMoveScratchAndSlotsToRegisters : Obligations.LoadsMoveScratchAndSlotsToRegisters := by
  unfold Obligations.LoadsMoveScratchAndSlotsToRegisters
  exact fun s core p h i hd => ⟨fun hl hw => engine_done h hl (loadV_moves h hd rfl hw h.linesOk),
    fun hl hw hc => engine_done h hl (loadV_moves h hd rfl hw hc), exec_tldScratchX h hd,
    fun hl o ws ho hs => exec_tldSlot h hd hl (Option.bind_eq_some_iff.mpr ⟨o, ho, hs⟩),
    fun hl o ws ho hs => exec_tldSlotX h hd hl (Option.bind_eq_some_iff.mpr ⟨o, ho, hs⟩)⟩

/-! ### TST modes 0, 1 and 3 -/

/-- Storing vector registers to clean scratch of core `dst` outside registered weights. -/
theorem storeV_moves {s : State} {core : BitVec 5} {p : Start} {i : EngOp} (h : EngineReady s core.toNat p)
    (hd : i.d.toNat + (i.cnt.toNat + 1) ≤ 32) {a : Nat} (ha : (s.store.x core.toNat i.a.toNat).toNat = a)
    (hw : InScratch p a (4096 * (i.cnt.toNat + 1)) 4) {dst : Nat}
    (hg : s.mach.scrGuarded dst a (4096 * (i.cnt.toNat + 1)) = false) (hc : (s.mach.core dst).poisoned = []) :
    (engOf s core.toNat p i).storeV s.mach s.store dst = .done s.mach (postInc core.toNat i (4096 * (i.cnt.toNat + 1))
      (s.store.setScr dst a (wordBytes (s.store.v core.toNat i.d.toNat (1024 * (i.cnt.toNat + 1)))))) := by
  subst ha
  rw [Eng.storeV]
  simp only [engOf, Eng.n, scrOk_of_inScratch _ _ hw, hg, groupOk_of_le hd, scrWrote_clean h.clean hc, moved_postInc, Bool.not_true,
    Bool.or_self, Bool.false_eq_true, if_false]

theorem exec_tstX {s : State} {core : BitVec 5} {p : Start} {i : EngOp} (h : EngineReady s core.toNat p)
    (hd : i.d.toNat + (i.cnt.toNat + 1) ≤ 32) (hl : engLegal 0x09 1 i = true)
    (hw : InScratch p (s.store.x core.toNat i.a.toNat).toNat (4 * (i.cnt.toNat + 1)) 4)
    (hg : s.mach.scrGuarded core.toNat (s.store.x core.toNat i.a.toNat).toNat (4 * (i.cnt.toNat + 1)) = false) :
    exec (.tstX core i .none) s = .next (s.advance core.toNat s.mach (postInc core.toNat i (4 * (i.cnt.toNat + 1))
      (s.store.setScr core.toNat (s.store.x core.toNat i.a.toNat).toNat
        (wordBytes ((List.range (i.cnt.toNat + 1)).map fun j => s.store.x core.toNat (i.d.toNat + j)))))) := by
  refine engine_done h hl ?_
  simp only [Eng.n, scrOk_of_inScratch _ _ hw, hg, groupOk_of_le hd, scrWrote_clean h.clean h.linesOk, moved_postInc, Bool.not_true,
    Bool.or_self, Bool.false_eq_true, if_false]

/-- Settles O9, mode by mode. -/
theorem storesMoveRegistersToScratch : Obligations.StoresMoveRegistersToScratch := by
  unfold Obligations.StoresMoveRegistersToScratch
  exact fun s core p h i hd => ⟨fun hl hw hg => engine_done h hl (storeV_moves h hd rfl hw hg h.linesOk),
    fun hl hw hg hc => engine_done h hl (storeV_moves h hd rfl hw hg hc), exec_tstX h hd⟩

/-! ### HBM transfers -/

section
variable {s : State} {core : BitVec 5} {p : Start} {i : EngOp}

/-- A core's transfers are joined by one under tag IMM[7:0] of X[C] bytes between HBM unit address X[A] and scratch X[B]. -/
def State.dmaStarted (s : State) (k : Nat) (i : EngOp) (toHbm : Bool) : Mach :=
  s.mach.modCore k fun c => { c with dmas := c.dmas ++
    [{ tag := bits i.imm.toNat 7 0, hbm := 256 * (s.store.x k i.a.toNat).toNat, scr := (s.store.x k i.b.toNat).toNat,
       len := (s.store.x k i.c.toNat).toNat, toHbm }] }

/-- A transfer whose length, HBM range and scratch range are good, on a channel that is not halted, starts. -/
theorem startDma_starts (h : EngineReady s core.toNat p) {toHbm : Bool}
    (hmod : (s.store.x core.toNat i.c.toNat).toNat % 256 = 0) (hmax : (s.store.x core.toNat i.c.toNat).toNat ≤ 2 ^ 22)
    (hbase : p.hbmBase ≤ (s.store.x core.toNat i.a.toNat).toNat)
    (hlim : (s.store.x core.toNat i.a.toNat).toNat + (s.store.x core.toNat i.c.toNat).toNat / 256 ≤ p.hbmLimit)
    (hu : (s.store.x core.toNat i.a.toNat).toNat < 2 ^ 31)
    (hw : InScratch p (s.store.x core.toNat i.b.toNat).toNat (s.store.x core.toNat i.c.toNat).toNat 64)
    (hhalt : s.mach.flag Reg.ECC_DMA_HALT core.toNat = false)
    (hgh : (toHbm && s.mach.hbmGuarded (256 * (s.store.x core.toNat i.a.toNat).toNat)
      (s.store.x core.toNat i.c.toNat).toNat) = false)
    (hgs : (!toHbm && s.mach.scrGuarded core.toNat (s.store.x core.toNat i.b.toNat).toNat
      (s.store.x core.toNat i.c.toNat).toNat) = false) :
    (engOf s core.toNat p i).startDma s.mach s.store toHbm =
      .done (s.dmaStarted core.toNat i toHbm) (postInc core.toNat i (s.store.x core.toNat i.c.toNat).toNat s.store) := by
  have hread : (if toHbm then s.mach.scrBad core.toNat (s.store.x core.toNat i.b.toNat).toNat
      (s.store.x core.toNat i.c.toNat).toNat else (false, s.mach)) = (false, s.mach) := by
    rw [scrBad_clean h.clean.1 h.linesOk, ite_self]
  rw [Eng.startDma]
  simp only [engOf, hmod, ne_eq, not_true_eq_false, Nat.not_lt.mpr hmax, Nat.not_lt.mpr hbase, Nat.not_lt.mpr hlim,
    Nat.not_le.mpr hu, decide_false, hgh, hgs, scrOk_of_inScratch _ _ hw, hread, hhalt, moved_postInc, Bool.not_true, Bool.or_self,
    Bool.false_eq_true, if_false]
  rfl

end

/-- The end of a transfer leaves the core's list. -/
def Mach.dmaTaken (m : Mach) (k : Nat) (d : Dma) : Mach :=
  m.modCore k fun c => { c with dmas := eraseFirst (fun x => x == d) c.dmas }

/-- A transfer's good end is kept for its WAIT, unless its program has left the core. -/
def Mach.dmaEnded (m : Mach) (k : Nat) (d : Dma) : Mach :=
  if d.gone then m.dmaTaken k d
  else (m.dmaTaken k d).modCore k fun c => { c with dmaEnds := c.dmaEnds ++ [⟨d.tag, .ok, d.scr, d.prefetch⟩] }

/-- The memories after a transfer has moved its bytes. -/
def Store.dmaMoved (st : Store) (k : Nat) (d : Dma) : Store :=
  if d.toHbm then { st with hbm := sputs zeroCell st.hbm d.hbm (st.scr k d.scr d.len) }
  else st.setScr k d.scr (sgets zeroCell st.hbm d.hbm d.len)

section
variable (m : Mach) (k : Nat) (d : Dma)

theorem dmaEnded_ecc : (m.dmaEnded k d).ecc = m.ecc := by
  unfold Mach.dmaEnded
  split <;> rfl

theorem dmaEnded_flt : (m.dmaEnded k d).flt = m.flt := by
  unfold Mach.dmaEnded
  split <;> rfl

theorem dmaEnded_poisoned : ((m.dmaEnded k d).core k).poisoned = (m.core k).poisoned := by
  have ht : ((m.dmaTaken k d).core k).poisoned = (m.core k).poisoned := by
    rw [Mach.dmaTaken, core_modCore (core_core m k)]
  unfold Mach.dmaEnded
  split
  · exact ht
  · rw [core_modCore (core_core _ k)]
    exact ht

variable {m k d}

/-- A good transfer between clean memories moves its bytes and ends. -/
theorem dmaEnd_moves (hc : Unspoiled m) (hp : (m.core k).poisoned = []) (hok : d.ok = true) (st : Store) :
    m.dmaEnd st k d .none = (m.dmaEnded k d, st.dmaMoved k d) := by
  have hend : Unspoiled (m.dmaEnded k d) := by
    unfold Unspoiled
    rw [dmaEnded_ecc, dmaEnded_flt]
    exact hc
  have hline : ((m.dmaEnded k d).core k).poisoned = [] := (dmaEnded_poisoned m k d).trans hp
  have hread (store addr n : Nat) := hbmRead_clean (m := m.dmaTaken k d) hc.1 store addr n
  rw [Mach.dmaEnd]
  cases ht : d.toHbm with
  | true =>
    simp only [hok, if_true, orErr, Bool.not_true, Bool.false_eq_true, if_false, Store.dmaMoved, ht]
    exact congrArg (·, _) (hbmWrote_clean hend _ _ _)
  | false =>
    rw [Mach.dmaTaken] at hread
    simp only [hok, orErr, hread, Bool.not_true, Bool.false_eq_true, if_false, Store.dmaMoved, ht]
    exact congrArg (·, _) (scrWrote_clean hend hline _ _)

end

section
variable {s : State} (hr : s.mach.running = true) {core : BitVec 5} (hc : Unspoiled s.mach)
  (hp : (s.mach.core core.toNat).poisoned = []) {d : Dma} (hok : d.ok = true)
include hr hc hp hok

theorem exec_dmaDone {tag : BitVec 8}
    (hf : (s.mach.core core.toNat).dmas.find? (fun x => x.tag == tag.toNat && x.prefetch.isNone) = some d) :
    exec (.dmaDone core tag .none) s = .next { s with
      mach := s.mach.dmaEnded core.toNat d, store := s.store.dmaMoved core.toNat d } := by
  show execDmaDone core tag .none s = _
  simp only [execDmaDone, runMS_eq, hf, hr, if_true, dmaEnd_moves hc hp hok]

theorem exec_prefetchDone (hf : (s.mach.core core.toNat).dmas.find? (fun x => x.prefetch.isSome) = some d) :
    exec (.prefetchDone core .none) s = .next { s with
      mach := s.mach.dmaEnded core.toNat d, store := s.store.dmaMoved core.toNat d } := by
  show execPrefetchDone core .none s = _
  simp only [execPrefetchDone, runMS_eq, hf, hr, if_true, dmaEnd_moves hc hp hok]

end

/-- Settles O10: a transfer's start in either direction, then its end by either row. -/
theorem hbmTransfersStartAndEnd : Obligations.HbmTransfersStartAndEnd := by
  unfold Obligations.HbmTransfersStartAndEnd
  refine ⟨fun s core p h i hmod hmax hbase hlim hu hw hhalt => ⟨fun hl hg => engine_done h hl ?_, fun hl hg => engine_done h hl ?_⟩,
    fun s core d hr hc hp hok => ⟨fun tag => exec_dmaDone hr hc hp hok, exec_prefetchDone hr hc hp hok⟩⟩
  · exact startDma_starts h hmod hmax hbase hlim hu hw hhalt rfl hg
  · exact startDma_starts h hmod hmax hbase hlim hu hw hhalt hg rfl

end Sys2Proof.Machine

/-! PROOFS. Engines, vectors: elementwise instructions and reductions to scalar registers (05 R130, R133 to R136, R138,
R140, R142). -/
namespace Sys2Proof.Machine

/-! ### Elementwise instructions -/

/-- The next state of an instruction that writes results to the group from D and notes their first NaN. -/
def State.vecPut (s : State) (k : Nat) (p : Start) (i : EngOp) (rs : List VRes) : State :=
  s.advance k ((engOf s k p i).nanNote s.mach (firstNan 0 0 rs)) (s.store.setV k i.d.toNat 0 (rs.map (·.bits)))

/-- Operand B of an elementwise instruction: the scalar X[B] for every element, or a group. -/
def Store.groupOrScalar (st : Store) (k : Nat) (i : EngOp) (scalar : Bool) : List Word :=
  if scalar then List.replicate (1024 * (i.cnt.toNat + 1)) (st.x k i.b.toNat) else st.v k i.b.toNat (1024 * (i.cnt.toNat + 1))

section
variable (st : Store) (k : Nat) (i : EngOp) (mode : BitVec 4)

/-- VAD, VMU and VFM take the scalar in mode 1. -/
theorem groupOrScalar_modeOne : st.groupOrScalar k i (mode == 1) =
    if mode = 1 then List.replicate (1024 * (i.cnt.toNat + 1)) (st.x k i.b.toNat)
    else st.v k i.b.toNat (1024 * (i.cnt.toNat + 1)) := by
  simp only [Store.groupOrScalar, beq_iff_eq]

/-- VMX takes the scalar in modes 2 and 3. -/
theorem groupOrScalar_fromModeTwo : st.groupOrScalar k i (decide (2 ≤ mode.toNat)) =
    if mode.toNat < 2 then st.v k i.b.toNat (1024 * (i.cnt.toNat + 1))
    else List.replicate (1024 * (i.cnt.toNat + 1)) (st.x k i.b.toNat) := by
  simp only [Store.groupOrScalar, decide_eq_true_eq, ← Nat.not_lt, ite_not]

end

section
variable {s : State} {core : BitVec 5} {p : Start} {i : EngOp} (h : EngineReady s core.toNat p)
include h

/-- An instruction of a ready core that writes results to the group from D leaves them there. -/
theorem engine_vecOut {opc mode : Nat} (hl : engLegal opc mode i = true) {unit : Nat} {body : Eng → Mach → Store → EngRes}
    {rs : List VRes}
    (hb : body (engOf s core.toNat p i) s.mach s.store = (engOf s core.toNat p i).vecOut s.mach s.store i.d.toNat 0 rs) :
    s.engine core opc mode i .none unit body = .next (s.vecPut core.toNat p i rs) := engine_done h hl hb

section
variable (hd : i.d.toNat + (i.cnt.toNat + 1) ≤ 32) (ha : i.a.toNat + (i.cnt.toNat + 1) ≤ 32)
include hd ha

omit h in
theorem binary_of_fits {scalar : Bool} (hb : scalar = true ∨ i.b.toNat + (i.cnt.toNat + 1) ≤ 32) (f : Word → Word → VRes) :
    (engOf s core.toNat p i).binary s.mach s.store scalar f =
      (engOf s core.toNat p i).vecOut s.mach s.store i.d.toNat 0
        (List.zipWith f (s.store.v core.toNat i.a.toNat (1024 * (i.cnt.toNat + 1))) (s.store.groupOrScalar core.toNat i scalar)) := by
  have hfit : (!scalar && !groupOk i.b.toNat (i.cnt.toNat + 1)) = false := by
    rcases hb with rfl | hb
    · rfl
    · rw [groupOk_of_le hb, Bool.not_true, Bool.and_false]
  rw [Eng.binary]
  simp only [engOf, Eng.n, groupOk_of_le hd, groupOk_of_le ha, hfit, Bool.not_true, Bool.or_self, Bool.false_eq_true, if_false]
  rfl

omit h in
theorem unary_of_fits (f : Word → VRes) :
    (engOf s core.toNat p i).unary s.mach s.store f =
      (engOf s core.toNat p i).vecOut s.mach s.store i.d.toNat 0
        ((s.store.v core.toNat i.a.toNat (1024 * (i.cnt.toNat + 1))).map f) := by
  rw [Eng.unary]
  simp only [engOf, Eng.n, groupOk_of_le hd, groupOk_of_le ha, Bool.not_true, Bool.or_self, Bool.false_eq_true, if_false]

theorem exec_vfm {mode : BitVec 4} (hl : engLegal 0x1A mode.toNat i = true)
    (hb : mode = 1 ∨ i.b.toNat + (i.cnt.toNat + 1) ≤ 32) (hc : i.c.toNat + (i.cnt.toNat + 1) ≤ 32) :
    exec (.vfm core mode i .none) s = .next (s.vecPut core.toNat p i
      (List.zipWith (fun ab c => v3 (fun a b c => vOf (fFma a b c)) ab.1 ab.2 c)
        ((s.store.v core.toNat i.a.toNat (1024 * (i.cnt.toNat + 1))).zip (s.store.groupOrScalar core.toNat i (mode == 1)))
        (s.store.v core.toNat i.c.toNat (1024 * (i.cnt.toNat + 1))))) := by
  have hfit : (mode != 1 && !groupOk i.b.toNat (i.cnt.toNat + 1)) = false := by
    rcases hb with rfl | hb
    · rfl
    · rw [groupOk_of_le hb, Bool.not_true, Bool.and_false]
  refine engine_vecOut h hl ?_
  simp only [engOf, Eng.n, groupOk_of_le hd, groupOk_of_le ha, groupOk_of_le hc, hfit, Bool.not_true, Bool.or_self,
    Bool.false_eq_true, if_false]
  rfl

theorem exec_nrmApply (hl : engLegal 0x1F 1 i = true) (hb : i.b.toNat + (i.cnt.toNat + 1) ≤ 32) (hc : i.c.toNat + 3 ≤ 32) :
    let x (j : Nat) : Word := s.store.x core.toNat (i.c.toNat + j)
    exec (.nrmApply core i .none) s = .next (s.vecPut core.toNat p i
      (nrmApply (s.store.v core.toNat i.a.toNat (1024 * (i.cnt.toNat + 1)))
        (s.store.v core.toNat i.b.toNat (1024 * (i.cnt.toNat + 1))) (x 0) (x 1) (x 2))) := by
  refine engine_vecOut h hl ?_
  simp only [engOf, Eng.n, groupOk_of_le hd, groupOk_of_le ha, groupOk_of_le hb, groupOk_of_le hc, Bool.not_true, Bool.or_self,
    Bool.false_eq_true, if_false]

theorem exec_cmb (hl : engLegal 0x24 0 i = true) :
    let t := s.store.v core.toNat i.c.toNat 32
    let ways := ((t.take 16).takeWhile fun w => w != 0xFFFFFFFF).length
    let n := i.cnt.toNat + 1
    let term (j : Nat) : Word × List Word := (t.getD (16 + j) 0, s.store.v core.toNat (i.b.toNat + j * n) (1024 * n))
    i.b.toNat + ways * n ≤ 32 →
    exec (.cmb core i .none) s = .next (s.vecPut core.toNat p i
      (((s.store.v core.toNat i.a.toNat (1024 * n)).zip (s.store.v core.toNat i.d.toNat (1024 * n))).zipIdx.map fun q =>
        cmbElem q.1.1 q.1.2 (((List.range ways).map term).map fun b => (b.1, b.2.getD q.2 0)))) := by
  intro t ways n term hb
  refine engine_vecOut h hl ?_
  have hb' := groupOk_of_le hb
  simp only [n, ways, t] at hb'
  simp only [engOf, Eng.n, groupOk_of_le hd, groupOk_of_le ha, hb', Bool.not_true, Bool.or_self, Bool.false_eq_true, if_false]
  rfl

end

end

/-- Settles O11, instruction by instruction. -/
theorem elementwiseInstructionsWriteOneGroup : Obligations.ElementwiseInstructionsWriteOneGroup := by
  unfold Obligations.ElementwiseInstructionsWriteOneGroup
  refine fun s core p h i hd ha => ⟨fun mode => ⟨fun hb => ?_, fun hb hl => ?_⟩, exec_nrmApply h hd ha, exec_cmb h hd ha,
    fun hl => engine_vecOut h hl (unary_of_fits hd ha vrs), fun hl => engine_vecOut h hl (unary_of_fits hd ha vex),
    fun hl => engine_vecOut h hl (unary_of_fits hd ha _)⟩
  · have hb' := hb.imp_left beq_iff_eq.mpr
    rw [← groupOrScalar_modeOne]
    exact ⟨fun hl => engine_vecOut h hl (binary_of_fits hd ha hb' _), fun hl => engine_vecOut h hl (binary_of_fits hd ha hb' _),
      fun hl => exec_vfm h hd ha hl hb⟩
  · rw [← groupOrScalar_fromModeTwo]
    exact engine_vecOut h hl (binary_of_fits hd ha (hb.imp_left decide_eq_true) _)

/-! ### Reductions to scalar registers -/

/-- A scalar result goes to X[D]; without a NaN the machine stays as it is. -/
theorem scalarOut_writes (e : Eng) (m : Mach) (st : Store) (xs : List Word) (r : VRes) :
    ∃ m', e.scalarOut m st xs r = .done m' (st.setX e.k e.i.d.toNat r.bits) ∧ (r.nan = none → m' = m) := by
  unfold Eng.scalarOut
  cases r.nan with
  | none => exact ⟨m, rfl, fun _ => rfl⟩
  | some x =>
    cases xs.zipIdx.find? fun p => fIsNan p.1 with
    | none => exact ⟨_, rfl, fun hn => absurd hn (Option.some_ne_none x)⟩
    | some q => exact ⟨_, rfl, fun hn => absurd hn (Option.some_ne_none x)⟩

section
variable {s : State} {core : BitVec 5} {p : Start} {i : EngOp} (h : EngineReady s core.toNat p)
include h

/-- An instruction of a ready core that hands out a scalar result leaves it in X[D]. -/
theorem engine_scalarOut {opc mode : Nat} (hl : engLegal opc mode i = true) {unit : Nat} {body : Eng → Mach → Store → EngRes}
    {xs : List Word} {r : VRes}
    (hb : body (engOf s core.toNat p i) s.mach s.store = (engOf s core.toNat p i).scalarOut s.mach s.store xs r) :
    ∃ m, s.engine core opc mode i .none unit body =
      .next (s.advance core.toNat m (s.store.setX core.toNat i.d.toNat r.bits)) ∧ (r.nan = none → m = s.mach) := by
  obtain ⟨m, hm, hn⟩ := scalarOut_writes (engOf s core.toNat p i) s.mach s.store xs r
  exact ⟨m, engine_done h hl (hb.trans hm), hn⟩

theorem exec_vsm (hl : engLegal 0x1E 0 i = true) (ha : i.a.toNat + (i.cnt.toNat + 1) ≤ 32) :
    let len := bits i.imm.toNat 14 0 + 1
    let r := vsum (asElems (s.store.v core.toNat i.a.toNat len))
    i.a.toNat + (len + 1023) / 1024 ≤ 32 →
    ∃ m, exec (.vsm core i .none) s = .next (s.advance core.toNat m (s.store.setX core.toNat i.d.toNat r.bits)) ∧
      (r.nan = none → m = s.mach) := by
  intro len r hlen
  refine engine_scalarOut h hl (xs := s.store.v core.toNat i.a.toNat len) ?_
  simp only [engOf, Eng.n, groupOk_of_le ha, groupOk_of_le hlen, Bool.not_true, Bool.or_self, Bool.false_eq_true, if_false, len, r]

theorem exec_nrmSs (hl : engLegal 0x1F 0 i = true) (ha : i.a.toNat + (i.cnt.toNat + 1) ≤ 32) :
    let r := nrmSs (s.store.v core.toNat i.a.toNat (1024 * (i.cnt.toNat + 1)))
    ∃ m, exec (.nrmSs core i .none) s = .next (s.advance core.toNat m (s.store.setX core.toNat i.d.toNat r.bits)) ∧
      (r.nan = none → m = s.mach) := by
  intro r
  refine engine_scalarOut h hl (xs := s.store.v core.toNat i.a.toNat (1024 * (i.cnt.toNat + 1))) ?_
  simp only [engOf, Eng.n, groupOk_of_le ha, Bool.not_true, Bool.false_eq_true, if_false, r]

theorem exec_dgs (hl : engLegal 0x28 0 i = true) :
    let a := (s.store.x core.toNat i.a.toNat).toNat
    let len := (s.store.x core.toNat i.b.toNat).toNat
    let crc := crc64 (s.store.scr core.toNat a len)
    i.d.toNat + 2 ≤ 32 → len % 64 = 0 → InScratch p a len 64 →
    exec (.dgs core i .none) s = .next (s.advance core.toNat s.mach
      ((s.store.setX core.toNat i.d.toNat (BitVec.ofNat 32 crc)).setX core.toNat (i.d.toNat + 1)
        (BitVec.ofNat 32 (crc / 2 ^ 32)))) := by
  intro a len crc hd hlen hw
  refine engine_done h hl ?_
  have hmod : ((s.store.x core.toNat i.b.toNat).toNat % 64 != 0) = false := bne_eq_false_iff_eq.mpr hlen
  simp only [scrOk_of_inScratch _ _ hw, groupOk_of_le hd, hmod, scrBad_clean h.clean.1 h.linesOk, Bool.not_true, Bool.or_self,
    Bool.false_eq_true, if_false, a, len, crc]

end

/-- Settles O12, instruction by instruction. -/
theorem reductionsToScalarsWriteOneRegister : Obligations.ReductionsToScalarsWriteOneRegister := by
  unfold Obligations.ReductionsToScalarsWriteOneRegister
  exact fun s core p h i => ⟨exec_vsm h, exec_nrmSs h, exec_dgs h⟩

end Sys2Proof.Machine

/-! PROOFS. Engines, conversions: DQT mode 0, TOPK, QNT and MMA (05 R130 to R132, R137, R138; 02 R26). -/
namespace Sys2Proof.Machine

/-! ### Lists by number -/

theorem zipIdx_map_range {α : Type} (f : Nat → α) (n : Nat) :
    ((List.range n).map f).zipIdx = (List.range n).map fun t => (f t, t) :=
  List.ext_getElem (by simp) (by simp)

theorem sumOf_map {α β : Type} (f : α → β) (g : β → Nat) (l : List α) : sumOf g (l.map f) = sumOf (fun x => g (f x)) l :=
  List.foldl_map

/-- No element with a NaN is found where no element has one. -/
theorem find_nan_none {α : Type} {nan : α → Bool} {l : List α} (h : ∀ x ∈ l, nan x = false) :
    l.zipIdx.find? (fun q => nan q.1) = none :=
  List.find?_eq_none.mpr fun q hq => Bool.eq_false_iff.mp (h q.1 (List.fst_mem_of_mem_zipIdx hq))

/-- No result of rows and columns with a NaN is found where none has one. -/
theorem find_grid_nan_none {α : Type} {g : Nat → Nat → VRes × α} {rows cols : Nat}
    (h : ∀ r c, r < rows → c < cols → (g r c).1.nan = none) :
    ((List.range rows).flatMap fun r => (List.range cols).map (g r)).zipIdx.find? (fun q => q.1.1.nan.isSome) = none := by
  refine find_nan_none (nan := fun o : VRes × α => o.1.nan.isSome) fun o ho => ?_
  obtain ⟨r, hr, ho⟩ := List.mem_flatMap.mp ho
  obtain ⟨c, hc, rfl⟩ := List.mem_map.mp ho
  rw [h r c (List.mem_range.mp hr) (List.mem_range.mp hc)]
  rfl

section
variable {s : State} {core : BitVec 5} {p : Start} {i : EngOp} (h : EngineReady s core.toNat p)
include h

/-- An instruction of a ready core that notes a NaN, none under condition `P`, and writes the memories advances. -/
theorem engine_noted {opc mode : Nat} (hl : engLegal opc mode i = true) {unit : Nat} {body : Eng → Mach → Store → EngRes}
    {st : Store} {P : Prop}
    (hb : ∃ x, body (engOf s core.toNat p i) s.mach s.store = .done ((engOf s core.toNat p i).nanNote s.mach x) st ∧
      (P → x = none)) :
    ∃ x, s.engine core opc mode i .none unit body =
      .next (s.advance core.toNat ((engOf s core.toNat p i).nanNote s.mach x) st) ∧ (P → x = none) := by
  obtain ⟨x, hx, hn⟩ := hb
  exact ⟨x, engine_done h hl hx, hn⟩

/-! ### DQT mode 0 -/

section
variable (hk : fmtKnown i.fmt.toNat = true) (hf : fmtFamily i.fmt.toNat ≠ .bitwise)
include hk hf

theorem exec_dqtDecode (hl : engLegal 0x22 0 i = true) (hd : i.d.toNat + (i.cnt.toNat + 1) ≤ 32) :
    let f := i.fmt.toNat
    let a := (s.store.x core.toNat i.a.toNat).toNat
    let es := (List.range (i.cnt.toNat + 1)).flatMap fun t =>
      decodeTile f (leNat (s.store.scr core.toNat (a + t * tileStride f) (reserveBytes f)))
    InScratch p a ((i.cnt.toNat + 1 - 1) * tileStride f + reserveBytes f) 4 →
    ∃ x, exec (.dqtDecode core i .none) s = .next (s.advance core.toNat ((engOf s core.toNat p i).nanNote s.mach x)
      (s.store.setV core.toNat i.d.toNat 0 (es.map (·.bits)))) ∧ ((∀ e ∈ es, e.nan = none) → x = none) := by
  refine fun hw => ?_
  have hbit : (fmtFamily i.fmt.toNat == .bitwise) = false := beq_eq_false_iff_ne.mpr hf
  refine engine_noted h hl ?_
  simp only [engOf, Eng.n, hk, hbit, groupOk_of_le hd, scrOk_of_inScratch _ _ hw, scrBad_clean h.clean.1 h.linesOk, Bool.not_true,
    Bool.or_self, Bool.false_eq_true, if_false]
  refine ⟨_, rfl, fun hn => ?_⟩
  exact congrArg (Option.bind · _) (find_nan_none (nan := fun e : Elem => e.nan.isSome) fun e he => by rw [hn e he]; rfl)

/-! ### QNT -/

theorem exec_qnt (hl : engLegal 0x21 0 i = true) (ha : i.a.toNat + (i.cnt.toNat + 1) ≤ 32) :
    let n := i.cnt.toNat + 1
    let f := i.fmt.toNat
    let d := (s.store.x core.toNat i.d.toNat).toNat
    InScratch p d ((n - 1) * tileStride f + reserveBytes f) 4 →
    let tile (t : Nat) : List Word := s.store.v core.toNat (i.a.toNat + t) 1024
    let outs := (List.range n).map fun t => qntTile f i.imm.toNat (tile t)
    let st := outs.zipIdx.foldl (fun st o => st.setScr core.toNat (d + o.2 * tileStride f) o.1.payload) s.store
    ∃ x, exec (.qnt core i .none) s = .next (s.advance core.toNat ((engOf s core.toNat p i).nanNote s.mach x)
      ((st.addX core.toNat i.b.toNat (sumOf (·.sat) outs)).addX core.toNat i.c.toNat (sumOf (·.flush) outs))) ∧
      ((∀ t, t < n → qntNan f t (tile t) (qntTile f i.imm.toNat (tile t)) = none) → x = none) := by
  refine fun hw => ?_
  have hbit : (fmtFamily i.fmt.toNat == .bitwise) = false := beq_eq_false_iff_ne.mpr hf
  have hclean (l : List Nat) (a n : Nat → Nat) :
      l.foldl (fun (m : Mach) t => m.scrWrote core.toNat (a t) (n t)) s.mach = s.mach := by
    induction l with
    | nil => rfl
    | cons t l ih => rw [List.foldl_cons, scrWrote_clean h.clean h.linesOk, ih]
  refine engine_noted h hl ?_
  simp only [engOf, Eng.n, hk, hbit, groupOk_of_le ha, scrOk_of_inScratch _ _ hw, hclean, List.map_map, Function.comp_def,
    zipIdx_map_range, List.foldl_map, sumOf_map, List.filterMap_map, Bool.not_true, Bool.or_self, Bool.false_eq_true, if_false]
  refine ⟨_, rfl, fun hn => ?_⟩
  rw [List.head?_eq_none_iff, List.filterMap_eq_nil_iff]
  exact fun t ht => hn t (List.mem_range.mp ht)

end

/-! ### TOPK -/

theorem exec_topk (hl : engLegal 0x20 0 i = true) (hfit : s.mach.topkFits p i.imm.toNat = true)
    (ha : i.a.toNat + (i.cnt.toNat + 1) ≤ 32) (hlen : i.a.toNat + (bits i.imm.toNat 10 0 + 1 + 1023) / 1024 ≤ 32) :
    let imm := i.imm.toNat
    let t := topk (s.store.v core.toNat i.a.toNat (bits imm 10 0 + 1)) (bits imm 14 11 + 1) (bits imm 16 15) (bitOf imm 17)
    let noted := (engOf s core.toNat p i).nanNote s.mach (t.nan.map fun x => (x.1, x.2.1, 0, x.2.2.toNat))
    let chosen : Mach := match p.session with
      | some x => noted.modSession x fun y => { y with audit := { y.audit with chosen := y.audit.chosen ++ t.sel } }
      | none => noted
    exec (.topk core i .none) s = .next (s.advance core.toNat
      (chosen.modCore core.toNat fun c => { c with topk := c.topk ++ [t.sel] })
      (s.store.setV core.toNat i.d.toNat 0 (topkWords t))) := by
  intro imm t noted chosen
  refine engine_done h hl ?_
  simp only [Eng.n, hfit, groupOk_of_le ha, groupOk_of_le hlen, Bool.not_true, Bool.or_self, Bool.false_eq_true, if_false]
  rfl

/-! ### MMA -/

theorem exec_mma (hl : engLegal 0x10 0 i = true) (hd : i.d.toNat + (i.cnt.toNat + 1) ≤ 32) :
    let n := i.cnt.toNat + 1
    let f := i.fmt.toNat
    let imm := i.imm.toNat
    let fa := bits imm 4 0
    let sh := (s.store.x core.toNat i.c.toNat).toNat
    let kk := 32 * (bits sh 9 0 + 1)
    let cols := bits sh 19 10 + 1
    let rows := bits sh 25 20 + 1
    let off := bits imm 23 13
    let wa := (s.store.x core.toNat i.a.toNat).toNat
    let aa := (s.store.x core.toNat i.b.toNat).toNat
    let wl := weightBytes f (panelRows f fa) kk cols
    let row (r : Nat) : List (Nat × Nat) := actRow fa ((List.range (kk / 1024)).map fun t =>
      leNat (s.store.scr core.toNat (aa + (r * (kk / 1024) + t) * tileStride fa) (reserveBytes fa)))
    let col (c : Nat) : List (Nat × Nat) := weightColumn f (panelRows f fa) kk cols (leNat (s.store.scr core.toNat wa wl)) c
    let start (r c : Nat) : Option Word :=
      if bitOf imm 11 then some ((s.store.v core.toNat i.d.toNat (1024 * n)).getD (off + r * cols + c) 0) else none
    let product (r c : Nat) : VRes := if fmtFamily f = .float then mmaFloat f fa (start r c) (col c) (row r)
      else mmaInt f fa (bitOf imm 12) (start r c) (col c) (row r)
    fmtMmaOk f = true → fmtMmaOk fa = true → fmtFamily f = fmtFamily fa → kk % 1024 = 0 → off + rows * cols ≤ 1024 * n →
    InScratch p wa wl 4 → InScratch p aa ((rows * (kk / 1024) - 1) * tileStride fa + reserveBytes fa) 4 →
    ∃ x, exec (.mma core i .none) s = .next (s.advance core.toNat ((engOf s core.toNat p i).nanNote s.mach x)
        (s.store.setV core.toNat i.d.toNat off
          ((List.range rows).flatMap fun r => (List.range cols).map fun c => (product r c).bits))) ∧
      ((∀ r c, r < rows → c < cols → (product r c).nan = none) → x = none) := by
  refine fun hok hoka hfam hkk hfit hw hwa => ?_
  have hfam' := bne_eq_false_iff_eq.mpr hfam
  have hkk' := bne_eq_false_iff_eq.mpr hkk
  refine engine_noted h hl ?_
  simp only [engOf, Eng.n, hok, hoka, hfam', hkk', Nat.not_lt.mpr hfit, groupOk_of_le hd, scrOk_of_inScratch _ _ hw,
    scrOk_of_inScratch _ _ hwa, scrBad_clean h.clean.1 h.linesOk, zipIdx_map_range, List.map_map, Function.comp_def,
    List.map_flatMap, apply_ite Prod.fst, decide_false, Bool.not_true, Bool.or_self, Bool.false_eq_true, if_false]
  refine ⟨_, rfl, fun hn => congrArg (Option.bind · _) (find_grid_nan_none fun r c hr hc => ?_)⟩
  rw [apply_ite Prod.fst]
  exact hn r c hr hc

end

/-- Settles O13, instruction by instruction. -/
theorem conversionsAndMatrixProductsWriteTheirResult : Obligations.ConversionsAndMatrixProductsWriteTheirResult := by
  unfold Obligations.ConversionsAndMatrixProductsWriteTheirResult
  exact fun s core p h i => ⟨fun hl hk hf hd hw => exec_dqtDecode h hk hf hl hd hw, exec_topk h,
    fun hl hk hf ha hw => exec_qnt h hk hf hl ha hw,
    fun hl hok hoka hfam hkk hfit hd => exec_mma h hl hd hok hoka hfam hkk hfit⟩

end Sys2Proof.Machine

/-! PROOFS. Engines, END and SND (05 R139, R141, R143; 06 R159, R160, R164, R168; 15 R405). -/
namespace Sys2Proof.Machine

/-! ### END -/

/-- The prefetch that a program itself waited for: its session's, for its own RSEQ (06 R164). -/
def Mach.ownPrefetch (m : Mach) (p : Start) (q : PfFor) : Bool :=
  match p.session.bind m.session? with
  | some x => q.serves x.n x.rseq
  | none => false

/-- Core `k` after program `p` has left it. -/
def Mach.coreIdle (m : Mach) (k : Nat) (p : Start) : Mach :=
  m.setCore { (m.core k).dropDmas (m.ownPrefetch p) with
    running := none, wait := none, status := .ok, nan := false, topk := [], gone := [] }

/-- The same, and the command that started the program has completed with its status. -/
def Mach.programLeft (m : Mach) (st : Store) (k : Nat) (p : Start) : Mach :=
  match p.cmd with
  | some (set, index, tag) =>
    (m.coreIdle k p).cmdFinish set index (progRecord (statusCode (m.core k).status) 0 tag (m.core k).pc (st.x1to8 k))
  | none => m.coreIdle k p

theorem leaveCore_eq {m : Mach} {k : Nat} {p : Start} (hp : (m.core k).running = some p) (st : Store) :
    m.leaveCore st k (m.core k).status = m.programLeft st k p := by
  simp only [Mach.leaveCore, hp]
  rfl

/-- A layer program ends (06 R160). -/
theorem layerEnd_eq {m : Mach} {n : Nat} {x : Session} (hx : m.session? n = some x) (status : Status) :
    let joined : Mach := m.modSession n fun y => { y with audit := { auditFlush y.audit with status := worst y.audit.status status } }
    let stepped : Mach := if m.lay x.cur 1 31 24 = 0xFF then joined.auditEnd n false else joined
    m.layerEnd n status = stepped.modSession n fun y => { y with rseq := (y.rseq + 1) % 16, cur := m.nextLayer x } := by
  simp only [Mach.layerEnd, hx, beq_iff_eq]

section
variable {s : State} {core : BitVec 5} {p : Start} {i : EngOp} (h : EngineReady s core.toNat p) (hl : engLegal 0x00 0 i = true)
include h hl

theorem exec_endProgram_plain (hs : p.session = none) :
    exec (.endProgram core i .none) s = .next { s with
      mach := (s.mach.programLeft s.store core.toNat p).applyLong core.toNat } :=
  engine_stay h hl (by simp only [engOf, Mach.endProgram, h.program, hs, leaveCore_eq h.program])

theorem exec_endProgram_layer {n : Nat} (hs : p.session = some n) :
    exec (.endProgram core i .none) s = .next { s with
      mach := (((s.mach.programLeft s.store core.toNat p).layerEnd n (s.mach.core core.toNat).status).applyLong
        core.toNat).retrySession s.store n } :=
  engine_stay h hl (by simp only [engOf, Mach.endProgram, h.program, hs, leaveCore_eq h.program])

end

/-- Settles O14: a program outside a layer, then one of a layer. -/
theorem programEndFreesTheCore : Obligations.ProgramEndFreesTheCore := by
  unfold Obligations.ProgramEndFreesTheCore
  refine fun s core p h i hl => ⟨exec_endProgram_plain h hl, fun x hs hx => ?_⟩
  have hleft : (s.mach.programLeft s.store core.toNat p).session? x.n = some x := hx
  rw [exec_endProgram_layer h hl hs, layerEnd_eq hleft]
  rfl

/-! ### SND -/

/-- A program may send to the owners of chosen experts: it runs a routed layer and a TOPK has chosen (06 R168). -/
def Mach.mayDispatch (m : Mach) (k : Nat) (p : Start) : Prop :=
  (∃ x, p.session.bind m.session? = some x ∧ m.lay x.cur 0 30 29 = 0) ∧ (m.core k).topk ≠ []

/-- The packet of tile `t` that SND sends by template `p0`: a short vector's length is the template's. -/
def State.sndTile (s : State) (k : Nat) (i : EngOp) (p0 : Packet) (short lastTile : Bool) (t : Nat) : Packet :=
  let f := i.fmt.toNat
  let o := (s.store.x k i.a.toNat).toNat + t * tileStride f
  let len := if short then p0.length.toNat else if f = 15 then abf4Bytes (leNat (s.store.scr k o 4)) else fmtBytes f
  { p0 with
    epoch := s.mach.sw.stamp, tile := p0.tile + BitVec.ofNat 16 (t * bits i.imm.toNat 4 0), format := i.fmt,
    length := BitVec.ofNat 13 len, payload := s.store.scr k o len, last := p0.last || (lastTile && t + 1 == i.cnt.toNat + 1) }

/-- The machine after SND has handed its tiles to the send path. -/
def State.sndAll (s : State) (k : Nat) (p : Start) (i : EngOp) (p0 : Packet) (short lastTile : Bool) : Mach :=
  (List.range (i.cnt.toNat + 1)).foldl (fun m t => (engOf s k p i).sendOne m s.store (s.sndTile k i p0 short lastTile t)) s.mach

section
variable {s : State} {core : BitVec 5} {p : Start} {i : EngOp}

/-- The packet template at X[C]. -/
def State.sndTemplate (s : State) (k : Nat) (i : EngOp) : Packet :=
  pktOfHeader (s.store.scr k (s.store.x k i.c.toNat).toNat 32)

/-- The destination check of SND refuses no template but a DISPATCH to chosen experts that the program may not send. -/
theorem dispatch_allowed {m : Mach} {k : Nat} {p0 : Packet} (hmay : p0.type = 11 ∧ p0.dest = 0xFFF2 → m.mayDispatch k p) {b : Bool}
    (hb : b = true ↔ ∃ x, p.session.bind m.session? = some x ∧ m.lay x.cur 0 30 29 = 0) :
    (decide (p0.type = 11) && decide (p0.dest = 0xFFF2) && (!b || (m.core k).topk.isEmpty)) = false := by
  rw [Bool.and_eq_false_imp, Bool.and_eq_true, decide_eq_true_eq, decide_eq_true_eq]
  intro hto
  obtain ⟨hrouted, hchosen⟩ := hmay hto
  rw [hb.mpr hrouted, Bool.not_true, Bool.false_or, List.isEmpty_eq_false_iff]
  exact hchosen

/-- It refuses one that the program may not send. -/
theorem dispatch_refused {m : Mach} {k : Nat} {p0 : Packet} (hto : p0.type = 11 ∧ p0.dest = 0xFFF2) (hmay : ¬m.mayDispatch k p)
    {b : Bool} (hb : b = true ↔ ∃ x, p.session.bind m.session? = some x ∧ m.lay x.cur 0 30 29 = 0) :
    (decide (p0.type = 11) && decide (p0.dest = 0xFFF2) && (!b || (m.core k).topk.isEmpty)) = true := by
  rw [hto.1, hto.2]
  cases hr : b with
  | false => rfl
  | true =>
    have hnone : (m.core k).topk = [] := by
      by_contra hne
      exact hmay ⟨hb.mp hr, hne⟩
    rw [hnone]
    rfl

/-- The virtual channels that a template may name. -/
theorem templateVc_ok {p0 : Packet} (h : p0.vc = 2 ∨ p0.vc = 3 ∨ p0.vc = 6 ∨ p0.vc = 7) :
    (decide (p0.vc = 2) || decide (p0.vc = 3) || decide (p0.vc = 6) || decide (p0.vc = 7)) = true := by
  simpa only [Bool.or_eq_true, decide_eq_true_eq, or_assoc] using h

/-- LAST of a packet that is set on the final tile. -/
theorem or_last_eq (last : Bool) (t n : Nat) : (last || t == n) = if t = n then true else last := by
  by_cases h : t = n <;> simp [h]

variable (h : EngineReady s core.toNat p) (hc : InScratch p (s.store.x core.toNat i.c.toNat).toNat 32 4)
include h hc

theorem send_refused {len : Nat} (hlen : (i.cnt.toNat + 1 - 1) * tileStride i.fmt.toNat + reserveBytes i.fmt.toNat = len)
    (ha : InScratch p (s.store.x core.toNat i.a.toNat).toNat len 4)
    (hto : (s.sndTemplate core.toNat i).type = 11 ∧ (s.sndTemplate core.toNat i).dest = 0xFFF2)
    (hmay : ¬s.mach.mayDispatch core.toNat p) :
    (engOf s core.toNat p i).send s.mach s.store 0 = badFmt s.mach s.store := by
  subst hlen
  rw [State.sndTemplate] at hto
  change Eng.send ⟨core.toNat, p, s.mach.core core.toNat, i⟩ _ _ _ = _
  rw [Eng.send]
  dsimp only [Eng.n]
  simp only [ scrOk_of_inScratch _ _ hc, scrOk_of_inScratch _ _ ha, scrBad_clean h.clean.1 h.linesOk,
    OfNat.zero_ne_ofNat, decide_false, Bool.not_true, Bool.false_eq_true, if_false]
  rw [dispatch_refused hto hmay, Bool.or_true, if_pos rfl]
  cases p.session.bind s.mach.session? <;> simp

variable (hvc : (s.sndTemplate core.toNat i).vc = 2 ∨ (s.sndTemplate core.toNat i).vc = 3 ∨ (s.sndTemplate core.toNat i).vc = 6 ∨
    (s.sndTemplate core.toNat i).vc = 7)
  (hmay : (s.sndTemplate core.toNat i).type = 11 ∧ (s.sndTemplate core.toNat i).dest = 0xFFF2 → s.mach.mayDispatch core.toNat p)
include hvc hmay

/-- SND of whole tiles hands all of them out, LAST set on the final one in mode 1 only. -/
theorem send_tiles {len : Nat} (hlen : (i.cnt.toNat + 1 - 1) * tileStride i.fmt.toNat + reserveBytes i.fmt.toNat = len)
    (ha : InScratch p (s.store.x core.toNat i.a.toNat).toNat len 4) (hf : fmtDispatchOk i.fmt.toNat = true) (lastTile : Bool) :
    (engOf s core.toNat p i).send s.mach s.store lastTile.toNat =
      .done (s.sndAll core.toNat p i (s.sndTemplate core.toNat i) false lastTile) s.store := by
  subst hlen
  rw [State.sndTemplate] at hvc hmay
  have hvc' := templateVc_ok hvc
  have hmode : lastTile.toNat ≠ 2 := by cases lastTile <;> decide
  change Eng.send ⟨core.toNat, p, s.mach.core core.toNat, i⟩ _ _ _ = _
  rw [Eng.send]
  dsimp only [Eng.n]
  simp only [scrOk_of_inScratch _ _ hc, scrOk_of_inScratch _ _ ha, scrBad_clean h.clean.1 h.linesOk, hmode, hvc', hf,
    decide_false, Bool.not_true, Bool.not_false, Bool.false_and, Bool.true_and, Bool.or_self, Bool.false_or, Bool.false_eq_true, if_false]
  rw [dispatch_allowed hmay, if_neg Bool.false_ne_true]
  · cases lastTile
    · simp only [State.sndAll, State.sndTile, State.sndTemplate, Bool.toNat_false, Bool.false_and, Bool.or_false, Bool.false_eq_true,
        if_false, if_true]
      rfl
    · simp only [State.sndAll, State.sndTile, State.sndTemplate, Bool.toNat_true, Bool.true_and, or_last_eq, Bool.false_eq_true,
        one_ne_zero, if_false]
      rfl
  · cases p.session.bind s.mach.session? <;> simp

/-- SND of a short vector hands it out with LAST. -/
theorem send_short (ha : InScratch p (s.store.x core.toNat i.a.toNat).toNat 4096 4) (hn : i.cnt.toNat + 1 = 1) (hf : i.fmt.toNat = 0)
    (hmod : (s.sndTemplate core.toNat i).length.toNat % 4 = 0) (hmin : 4 ≤ (s.sndTemplate core.toNat i).length.toNat)
    (hmax : (s.sndTemplate core.toNat i).length.toNat ≤ 4096) :
    (engOf s core.toNat p i).send s.mach s.store 2 =
      .done (s.sndAll core.toNat p i (s.sndTemplate core.toNat i) true true) s.store := by
  rw [State.sndTemplate] at hvc hmay hmod hmin hmax
  have hvc' := templateVc_ok hvc
  change Eng.send ⟨core.toNat, p, s.mach.core core.toNat, i⟩ _ _ _ = _
  rw [Eng.send]
  dsimp only [Eng.n]
  simp only [scrOk_of_inScratch _ _ hc, scrOk_of_inScratch _ _ ha, scrBad_clean h.clean.1 h.linesOk, hvc', hn, hf, hmod, hmin, hmax,
    decide_true, Bool.and_self, Bool.not_true, Bool.and_false, Bool.false_and, Bool.or_self, Bool.false_or, Bool.false_eq_true, if_false,
    if_true]
  rw [dispatch_allowed hmay, if_neg Bool.false_ne_true]
  · simp only [State.sndAll, State.sndTile, State.sndTemplate, Bool.true_and, or_last_eq, hn, hf, OfNat.ofNat_ne_zero, if_false, if_true]
    rfl
  · cases p.session.bind s.mach.session? <;> simp

end

/-- Settles O15: a DISPATCH that the program may not send, then whole tiles in modes 0 and 1, then a short vector. -/
theorem sendHandsItsPacketsToTheSwitch : Obligations.SendHandsItsPacketsToTheSwitch := by
  unfold Obligations.SendHandsItsPacketsToTheSwitch
  refine fun s core p h i hc hvc ha => ⟨fun hto hmay hl => engine_trap h hl (send_refused h hc rfl ha hto hmay), fun hmay =>
    ⟨fun hf => ⟨fun hl => engine_done h hl (send_tiles h hc hvc hmay rfl ha hf false),
      fun hl => engine_done h hl (send_tiles h hc hvc hmay rfl ha hf true)⟩, fun hn hf hmod hmin hmax hl => ?_⟩⟩
  have hlen : (i.cnt.toNat + 1 - 1) * tileStride i.fmt.toNat + reserveBytes i.fmt.toNat = 4096 := by
    rw [hn, hf]
    rfl
  exact engine_done h hl (send_short h hc hvc hmay (hlen ▸ ha) hn hf hmod hmin hmax)

end Sys2Proof.Machine

/-! PROOFS. Starts and spares: queued starts, and the request, engagement and copy of a spare (05 R128, R147 to R149; 06 R159;
18 R469). -/
namespace Sys2Proof.Machine

/-! ### Queued starts -/

/-- What a core that begins start `q`, with `t` queued behind it, becomes. -/
def Core.begun (q : Start) (t : List Start) (c : Core) : Core := { c with
  running := some q, pc := q.entry, wait := none, status := .ok, nan := false, topk := [], trapped := false, gone := [], queue := t }

section
variable {s : State} {core : BitVec 5}

theorem exec_queuedStart_empty (hq : (s.mach.core core.toNat).queue = []) : exec (.queuedStart core .none) s = .next s := by
  show execQueuedStart core .none s = _
  simp only [execQueuedStart, runMS_eq, hq]

theorem exec_queuedStart_busy (hrun : (s.mach.core core.toNat).running.isSome = true) :
    exec (.queuedStart core .none) s = .next s := by
  show execQueuedStart core .none s = _
  cases hq : (s.mach.core core.toNat).queue with
  | nil => exact exec_queuedStart_empty hq
  | cons q t =>
    simp only [execQueuedStart, runMS_eq, hq, hrun, Bool.or_true, Bool.true_or, if_true]

section
variable (hr : s.mach.running = true) {q : Start} {t : List Start} (hq : (s.mach.core core.toNat).queue = q :: t)
  (hheld : q.held = false)
include hr hq hheld

theorem exec_queuedStart_plain (hses : q.session.bind s.mach.session? = none) (hrun : (s.mach.core core.toNat).running = none)
    (hspare : (s.mach.core core.toNat).spare = none) (hload : s.mach.loadParked core.toNat = false)
    (hbist : s.mach.boot.bist = none) :
    exec (.queuedStart core .none) s = .next { s with
      mach := s.mach.modCore core.toNat (Core.begun q t), store := s.store.startRegs core.toNat q.regs } := by
  have hbegin : s.mach.begin core.toNat q = s.mach.modCore core.toNat (Core.begun q t) := by
    simp only [Mach.begin, Mach.modCore, Core.begun, hq, List.drop_one, List.tail_cons]
  show execQueuedStart core .none s = _
  simp only [execQueuedStart, runMS_eq, hr, hq, hheld, hses, hrun, hspare, hload, hbist, hbegin, Option.isSome_none, Bool.not_true,
    Bool.or_self, reduceBEq, Bool.false_eq_true, if_false]

theorem exec_queuedStart_layer {x : Session} (hses : q.session = some x.n) (hx : s.mach.session? x.n = some x)
    (hrun : (s.mach.core core.toNat).running = none) (hspare : (s.mach.core core.toNat).spare = none)
    (hload : s.mach.loadParked core.toNat = false) (hbist : s.mach.boot.bist = none) (hc : Unspoiled s.mach) :
    exec (.queuedStart core .none) s = .next { s with
      mach := (s.mach.startLayer s.store core.toNat q x).1, store := (s.mach.startLayer s.store core.toNat q x).2 } := by
  show execQueuedStart core .none s = _
  simp only [execQueuedStart, runMS_eq, hr, hq, hheld, hses, Option.bind_some, hx, hrun, hspare, hload, hbist, injRead_clean hc.1,
    orErr, Option.isSome_none, Bool.not_true, Bool.or_self, reduceBEq, Bool.false_eq_true, if_false]

end

/-! ### Spares -/

theorem exec_spareReqEngage (hr : s.mach.running = true) (hspare : (s.mach.core core.toNat).spare = some .requested)
    (hrun : (s.mach.core core.toNat).running = none) (hfree : s.mach.spareFree (core.toNat / 4) = true)
    (hbist : s.mach.boot.bist = none) :
    exec (.spareReqEngage core) s = .next { s with
      mach := (s.mach.setCore { s.mach.core core.toNat with spare := some .copying }).bypassOn (4 + core.toNat / 4) } := by
  have habort (cl : Nat) : s.mach.bistAbort cl = s.mach := by
    rw [Mach.bistAbort, hbist, if_neg (Option.some_ne_none _).symm]
  show execSpareReqEngage core s = _
  simp only [execSpareReqEngage, runM_eq, whenRunning_eq hr, hspare, hrun, hfree, habort, Option.isNone_none, decide_true,
    Bool.and_self, if_true]

theorem exec_spareReqEngage_none (hr : s.mach.running = true) (hspare : (s.mach.core core.toNat).spare ≠ some .requested) :
    exec (.spareReqEngage core) s = .next s := by
  show execSpareReqEngage core s = _
  simp only [execSpareReqEngage, runM_eq, whenRunning_eq hr, hspare, decide_false, Bool.false_and, Bool.false_eq_true, if_false]

theorem exec_spareCopyDone_none (hr : s.mach.running = true) (hspare : (s.mach.core core.toNat).spare = none) (ok : Bool)
    (bad : SpareBad) : exec (.spareCopyDone core ok bad) s = .next s := by
  show execSpareCopyDone core ok bad s = _
  simp only [execSpareCopyDone, runM_eq, whenRunning_eq hr, hspare]

section
variable (hr : s.mach.running = true) {x : Status}
  (hspare : ((s.mach.core core.toNat).spare = some .copying ∧ x = .ok) ∨ (s.mach.core core.toNat).spare = some (.fault x))
include hr hspare

theorem exec_spareCopyDone_failed (bad : SpareBad) :
    exec (.spareCopyDone core false bad) s = .next { s with
      mach := s.mach.coreAbsent s.store core.toNat (if x = .ok then .uncorrectable else x) } := by
  show execSpareCopyDone core false bad s = _
  rcases hspare with ⟨hspare, rfl⟩ | hspare <;>
    simp only [execSpareCopyDone, runM_eq, whenRunning_eq hr, hspare, Bool.not_false, if_true]

theorem exec_spareCopyDone (bad : SpareBad) :
    let m := s.mach
    let k := core.toNat
    let old := m.corePos k
    let new := m.fld (Reg.ENG_MAP_C (k / 4)) 14 12
    let m1 := (m.setFld (Reg.ENG_MAP_C (k / 4)) (3 * (k % 4) + 2) (3 * (k % 4)) new).setFld (Reg.ENG_MAP_C (k / 4)) 14 12 7
    let m2 := (m1.setFlag Reg.ENG_SPARE (k / 4) false).setFlag Reg.ENG_SPARE (8 + k / 4) true
    let m3 := m2.modEvent 0x10 noFault [statusCode x * 2 ^ 28 + old * 2 ^ 10 + new * 2 ^ 7 + k, 0, 0, 0, 0]
    let m4 := m3.dropPins fun p => p.group == 4 + k / 4 && p.unit == k
    exec (.spareCopyDone core true bad) s = .next { s with
      mach := (m4.modCore k fun c => { c with
        spare := none, poisoned := bad.lines.map (·.toNat)
        badFetch := bad.prog.flatMap fun l => (List.range 8).map fun i => 8 * l.toNat + i }).bypassOff (4 + k / 4) } := by
  show execSpareCopyDone core true bad s = _
  rcases hspare with ⟨hspare, rfl⟩ | hspare <;>
    simp only [execSpareCopyDone, runM_eq, whenRunning_eq hr, hspare, Bool.not_true, Bool.false_eq_true, if_false]

end

end

section
variable {s : State} {value : Word} (hw : Writable s Reg.ENG_SPARE_REQ)
include hw

theorem exec_engSpareReq : exec (.engSpareReq value) s = .next { s with mach := s.mach.spareReq value.toNat } := by
  show execEngSpareReq value s = _
  rw [execEngSpareReq, runM_eq, regCmd_eq hw]

end

/-- A core may request its cluster's spare (05 R149). -/
def Mach.spareMayGo (m : Mach) (k : Nat) : Prop :=
  m.flag Reg.ENG_SPARE (k / 4) = true ∧ (m.core k).spare = none ∧ m.flag Reg.ENG_PRESENT k = true ∧ m.spareFree (k / 4) = true

section
variable {m : Mach} {value : Nat}

theorem spareReq_noGo (hgo : bitOf value 5 = false) : m.spareReq value = m := by
  simp only [Mach.spareReq, hgo, Bool.not_false, if_true]

variable (hgo : bitOf value 5 = true)
include hgo

theorem spareReq_notes (h : m.spareMayGo (value % 32)) :
    m.spareReq value = m.modCore (value % 32) fun c => { c with spare := some .requested } := by
  obtain ⟨hunused, hnone, hpresent, hfree⟩ := h
  simp only [Mach.spareReq, hgo, hunused, hnone, hpresent, hfree, Option.isSome_none, Bool.not_true, Bool.or_self,
    Bool.false_eq_true, if_false]

theorem spareReq_refused (h : ¬m.spareMayGo (value % 32)) :
    m.spareReq value = m.setFld Reg.ENG_TRAP_CNT 31 24 (satAdd 0xFF (m.fld Reg.ENG_TRAP_CNT 31 24) 1) := by
  have hno : (!m.flag Reg.ENG_SPARE (value % 32 / 4) || (m.core (value % 32)).spare.isSome || !m.flag Reg.ENG_PRESENT (value % 32) ||
      !m.spareFree (value % 32 / 4)) = true := by
    by_contra hall
    simp only [Bool.not_eq_true, Bool.or_eq_false_iff, Bool.not_eq_false', Option.isSome_eq_false_iff, Option.isNone_iff_eq_none,
      and_assoc] at hall
    exact h hall
  simp only [Mach.spareReq, hgo, hno, Bool.not_true, Bool.false_eq_true, if_false, if_true]

end

/-- Settles O17: a queued start, the spare's request, engagement and copy, then the writes that request it. -/
theorem programStartsAndSparesTakeTheirCore : Obligations.ProgramStartsAndSparesTakeTheirCore := by
  unfold Obligations.ProgramStartsAndSparesTakeTheirCore
  refine ⟨fun s core hr => ⟨exec_queuedStart_empty, exec_queuedStart_busy, fun q t hq hheld => exec_queuedStart_plain hr hq hheld,
    fun q t x hq hheld => exec_queuedStart_layer hr hq hheld, exec_spareReqEngage hr, exec_spareReqEngage_none hr,
    fun bad x hspare => ⟨exec_spareCopyDone hr hspare bad, exec_spareCopyDone_failed hr hspare bad⟩,
    exec_spareCopyDone_none hr⟩, fun s value hw => ?_⟩
  rw [exec_engSpareReq hw]
  exact ⟨fun hgo => by rw [spareReq_noGo hgo], fun hgo hfree => by rw [spareReq_notes hgo hfree],
    fun hgo hno => by rw [spareReq_refused hgo hno]⟩

end Sys2Proof.Machine

/-! PROOFS. Programs, weights and program digests (05 R127; 08 R225 to R229; 15 R410, R411; 17 R454). -/
namespace Sys2Proof.Machine

/-! ### PROG_LOAD -/

section
variable {m : Mach} {st : Store} {d : TuDesc} {data : List Word}

/-- The fetch errors of the words from `e` to below `e + n` of the listed cores end. -/
def Mach.fetchMended (m : Mach) (cores : List Nat) (e n : Nat) : Mach :=
  cores.foldl (fun a k => a.modCore k fun c => { c with
    badFetch := c.badFetch.filter fun x => decide (x < e) || decide (e + n ≤ x) }) m

/-- On clean memories the words that PROG_LOAD writes meet no armed injection. -/
theorem foldl_injWrite_clean (cores : List Nat) (e n : Nat) (hc : Unspoiled m) :
    cores.foldl (fun a k => (a.modCore k fun c => { c with
      badFetch := c.badFetch.filter fun x => decide (x < e) || decide (e + n ≤ x) }).injWrite 5 k e (e + n)) m =
      m.fetchMended cores e n := by
  induction cores generalizing m with
  | nil => rfl
  | cons k cores ih =>
    have hk (f : Core → Core) : Unspoiled (m.modCore k f) := hc
    rw [List.foldl_cons, injWrite_clean (hk _), ih (hk _)]
    rfl

theorem exec_progLoad {s : State} (hr : s.mach.running = true) (ht : s.mach.tuTaken 0x28 d = true) (data : List Word) :
    exec (.progLoad d data) s = .next { s with
      mach := (s.mach.tuBegin.progLoad s.store d data).1, store := (s.mach.tuBegin.progLoad s.store d data).2 } := by
  show execProgLoad d data s = _
  rw [execProgLoad, runMS_eq, tuCmdS_eq hr ht]

variable (hd : tuBad d (8 * d.count.toNat) = false) (hg : d.gallery = 0) (hpos : 0 < d.count.toNat)
  (hend : d.arg0.toNat + d.count.toNat ≤ 32768) (hlen : data.length = 2 * d.count.toNat)
include hd hg hpos hend hlen

theorem progLoad_waits
    (hw : (∃ k ∈ setBitsOf 32 d.arg1.toNat, (m.core k).running ≠ none) ∨ m.tuBehind 0x28 d = true) :
    m.progLoad st d data = (m.park 0x28 d data, st) := by
  have hwait : ((setBitsOf 32 d.arg1.toNat).any (fun k => (m.core k).running.isSome) || m.tuBehind 0x28 d) = true := by
    rw [Bool.or_eq_true, List.any_eq_true]
    exact hw.imp_left fun ⟨k, hk, hrun⟩ => ⟨k, hk, Option.isSome_iff_ne_none.mpr hrun⟩
  simp only [Mach.progLoad, hd, bne_eq_false_iff_eq.mpr hg, hpos.ne', Nat.not_lt.mpr hend, hlen, hwait, ne_eq, not_true_eq_false,
    decide_false, Bool.or_self, Bool.false_eq_true, if_false, if_true]

theorem progLoad_writes (hc : Unspoiled m) (hidle : ∀ k ∈ setBitsOf 32 d.arg1.toNat, (m.core k).running = none)
    (hq : m.tuBehind 0x28 d = false) :
    let cores := setBitsOf 32 d.arg1.toNat
    m.progLoad st d data =
      (((m.fetchMended cores d.arg0.toNat d.count.toNat).tuDone 0x28 d .ok 0 d.count.toNat).markStale none,
        { st with prog := cores.foldl (fun p k => sputs zeroCell p (32768 * k + d.arg0.toNat) (progWords data)) st.prog }) := by
  have hgo : (setBitsOf 32 d.arg1.toNat).any (fun k => (m.core k).running.isSome) = false := by
    rw [List.any_eq_false]
    exact fun k hk => by rw [hidle k hk]; exact Bool.false_ne_true
  simp only [Mach.progLoad, hd, bne_eq_false_iff_eq.mpr hg, hpos.ne', Nat.not_lt.mpr hend, hlen, hgo, hq,
    foldl_injWrite_clean _ _ _ hc, ne_eq, not_true_eq_false, decide_false, Bool.or_self, Bool.false_eq_true, if_false]

end

/-! ### DGT_WEIGHT -/

/-- A weight record is that of layer `i` on core `k`. -/
def WeightRec.isOf (i k : Nat) (r : WeightRec) : Bool := r.layer == i && r.core == k

theorem tuPlain_flags_zero {d : TuDesc} (h : d.flags.toNat < 2) : (tuPlain d).flags = 0 := by
  have hbit : d.flags = 0 ∨ d.flags = 1 := by bv_omega
  rcases hbit with hf | hf <;> rw [tuPlain, hf] <;> rfl

section
variable {s : State} {d : TuDesc} (hr : s.mach.running = true)
include hr

theorem exec_dgtWeight (ht : s.mach.tuTaken 0x18 (tuPlain d) = true) :
    exec (.dgtWeight d) s = .next { s with mach := s.mach.tuBegin.dgtWeight s.store (tuPlain d) } := by
  show execDgtWeight d s = _
  rw [execDgtWeight, runM_eq, tuCmd_eq hr ht]

theorem exec_dgtWeightClear (ht : s.mach.tuTaken 0x18 (tuMarked d) = true) :
    exec (.dgtWeightClear d) s = .next { s with mach := s.mach.tuBegin.dgtWeightClear (tuMarked d) } := by
  show execDgtWeightClear d s = _
  rw [execDgtWeightClear, runM_eq, tuCmd_eq hr ht]

end

section
variable {m : Mach} {d : TuDesc} (hi : d.arg0.toNat < 256) (hk : d.arg1.toNat < 32) (hd : tuBad d 0 = false)
include hi hk hd

theorem dgtWeight_registers (st : Store) (hfl : d.flags = 0) (hb : m.layerBusy d.arg0.toNat = false) (hq : m.tuBehind 0x18 d = false)
    (hf : m.feature 3 = true) (hloaded : bitOf (m.layerWord d.arg0.toNat 0) 31 = true)
    (hgal : m.lay d.arg0.toNat 0 17 12 = d.gallery.toNat) (hpresent : m.corePresent d.arg1.toNat = true)
    (hroom : m.dgt.records.length < 1024) :
    let r := m.weightRec st d.arg0.toNat d.arg1.toNat
    let m1 : Mach := { r.2 with dgt := { r.2.dgt with
      records := r.1 :: r.2.dgt.records.filter fun x => !x.isOf d.arg0.toNat d.arg1.toNat } }
    m.dgtWeight st d = (m1.tuDone 0x18 d .ok 0 0).markStale (some d.gallery.toNat) := by
  simp only [Mach.dgtWeight, hf, hd, hfl, Nat.not_le.mpr hi, Nat.not_le.mpr hk, hloaded, bne_eq_false_iff_eq.mpr hgal, hpresent,
    Nat.not_le.mpr hroom, hb, hq, bne_self_eq_false, decide_false, Bool.not_true, Bool.and_false, Bool.or_self, Bool.false_eq_true,
    if_false]
  rfl

variable (hfl : d.flags.toNat < 2)
include hfl

theorem dgtWeightClear_removes (hb : m.layerBusy d.arg0.toNat = false) (hq : m.tuBehind 0x18 d = false)
    (hany : m.dgt.records.any (WeightRec.isOf d.arg0.toNat d.arg1.toNat) = true) :
    let m1 : Mach := { m with dgt := { m.dgt with
      records := m.dgt.records.filter fun x => !x.isOf d.arg0.toNat d.arg1.toNat } }
    m.dgtWeightClear d = (m1.tuDone 0x18 d .ok 0 0).markStale (some d.gallery.toNat) := by
  unfold WeightRec.isOf at hany
  simp only [Mach.dgtWeightClear, hd, Nat.not_le.mpr hfl, Nat.not_le.mpr hi, Nat.not_le.mpr hk, hany, hb, hq, decide_false,
    Bool.not_true, Bool.or_self, Bool.false_eq_true, if_false]
  rfl

theorem dgtWeightClear_notFound (hany : m.dgt.records.any (WeightRec.isOf d.arg0.toNat d.arg1.toNat) = false) :
    m.dgtWeightClear d = (m.tuRefuse 0x18 d .notFound).markStale (some d.gallery.toNat) := by
  unfold WeightRec.isOf at hany
  simp only [Mach.dgtWeightClear, hd, Nat.not_le.mpr hfl, Nat.not_le.mpr hi, Nat.not_le.mpr hk, hany, decide_false,
    Bool.not_false, Bool.or_self, Bool.false_eq_true, if_false, if_true]

end

/-! ### Program digests -/

theorem exec_dgtProgGo {s : State} (hw : Writable s Reg.DGT_PROG_CTL) (value : Word) :
    let m1 := s.mach.writeRw Reg.DGT_PROG_CTL 0x3F value.toNat
    exec (.dgtProgGo value) s = .next { s with
      mach := if bitOf value.toNat 7 = true ∧ s.mach.dgt.busy = none then
        { m1 with dgt := { m1.dgt with busy := some (value.toNat % 64) } } else m1 } := by
  show execDgtProgGo value s = _
  simp only [execDgtProgGo, runM_eq, regCmd_eq hw, Mach.progCtl, writeRw_dgt, Bool.and_eq_true, Option.isNone_iff_eq_none]

section
variable {s : State} (hr : s.mach.running = true)
include hr

theorem exec_progDigestDone_idle (hb : s.mach.dgt.busy = none) : exec .progDigestDone s = .next s := by
  show execProgDigestDone s = _
  simp only [execProgDigestDone, runM_eq, whenRunning_eq hr, hb]

theorem exec_progDigestDone {g : Nat} (hb : s.mach.dgt.busy = some g) :
    let pd := sm3 (s.mach.progBytes s.store g)
    let m1 := (List.range 8).foldl (fun a w =>
      a.wr (Reg.DGT_PD_G g w) (BitVec.ofNat 32 (leNat ((pd.drop (4 * w)).take 4)))) s.mach
    exec .progDigestDone s = .next { s with mach := { m1 with dgt := { m1.dgt with
      busy := none, valid := g :: m1.dgt.valid.filter (· != g), stale := m1.dgt.stale.filter (· != g) } } } := by
  show execProgDigestDone s = _
  simp only [execProgDigestDone, runM_eq, whenRunning_eq hr, hb]

end

/-- Settles O19: PROG_LOAD, DGT_WEIGHT in its two forms, then the start and the end of a program digest. -/
theorem programsWeightsAndDigestsAreRegistered : Obligations.ProgramsWeightsAndDigestsAreRegistered := by
  unfold Obligations.ProgramsWeightsAndDigestsAreRegistered
  refine ⟨fun s d hr hc => ⟨fun data ht hd hg hpos hend hlen => ⟨fun hw => ?_, fun hidle hq => ?_⟩, fun hi hk hfl hb =>
    ⟨fun ht hd hq hf hloaded hgal hpresent hroom => ?_, fun ht hd hq => ⟨fun hany => ?_, fun hany => ?_⟩⟩⟩,
    fun s value hw => exec_dgtProgGo hw value, fun s hr => ⟨exec_progDigestDone_idle hr, fun g => exec_progDigestDone hr⟩⟩
  · rw [exec_progLoad hr ht, progLoad_waits hd hg hpos hend hlen hw]
  · rw [exec_progLoad hr ht, progLoad_writes (m := s.mach.tuBegin) hd hg hpos hend hlen hc hidle hq]
    rfl
  · rw [exec_dgtWeight hr ht,
      dgtWeight_registers (d := tuPlain d) hi hk hd _ (tuPlain_flags_zero hfl) hb hq hf hloaded hgal hpresent hroom]
    rfl
  · rw [exec_dgtWeightClear hr ht, dgtWeightClear_removes (d := tuMarked d) hi hk hd (tuMarked_flags_lt_two hfl) hb hq hany]
    rfl
  · rw [exec_dgtWeightClear hr ht, dgtWeightClear_notFound (d := tuMarked d) hi hk hd (tuMarked_flags_lt_two hfl) hany]
    rfl

end Sys2Proof.Machine
